-- ==== Sys2Proof/Word.lean ====
section
/-! DEFINITION. The plain data types the model is built from: bytes, words, sparse maps from indices to data, and
the description of one register field (R8, R9, R14). Operations over them stand under Machine/. -/

namespace Sys2Proof

/-- A byte. -/
abbrev Byte := BitVec 8

/-- A 64-bit word: every register, store word and packet word has this width (R8, R21). -/
abbrev Word := BitVec 64

/-- A map from natural numbers (an index, an offset, a handle) to data, held as a list sorted by strictly rising
key. An unlisted key has the default that the reader names.
-/
abbrev Sparse (α : Type) := List (Nat × α)

namespace Machine

/-- Access codes of Table 0.7. -/
inductive Acc where
  | ro | rw | w1c | wo | rc | rs
  deriving DecidableEq, Repr

/-- What a field survives (R476): nothing, a warm reset when the configuration is retained, or every warm reset
because it lies in the always-on domain (Table 17.3). -/
inductive Keep where
  | never | retained | alwaysOn
  deriving DecidableEq, Repr

/-- One field of one register: the register's window offset, the field's lowest bit and length, its reset value,
its access code and what it survives. -/
structure Fld where
  off : Nat
  lo : Nat
  len : Nat
  rst : Nat
  acc : Acc
  keep : Keep
  deriving DecidableEq, Repr

/-- Which build parameter decides whether an instance of a register is built (R475). -/
inductive BuiltKind where
  | always | rail | phase | die | part | tile | stack | diode
  deriving DecidableEq, Repr

/-- One line of Table 17.2: the offset of the first instance, the instances as (count, stride) pairs from the outer
index to the inner, the object whose build decides which instances exist, and the fields of an instance. -/
structure RegSpec where
  base : Nat
  dims : List (Nat × Nat)
  kind : BuiltKind
  flds : Nat → Nat → Nat → List Fld

end Machine
end Sys2Proof
end

