-- ==== Sys2Proof/Syntax.lean ====
section
/-! DEFINITION. The commands the block takes: one constructor per row of the opcode table (R9, R32 to R511), with the
row's operands. What the governor takes from outside (a voltage, a received frame, which error struck) is an operand. -/

namespace Sys2Proof

/-- A whole command packet (Table 13.1): the mailbox it stands in, the port that pushed its header, CLASS, TAG, the
reserved header bits 31:27, ARG and the parameter words. -/
structure Packet where
  mbx : Nat
  port : Nat
  cls : Nat
  tag : Nat
  rsv : Nat
  arg : Nat
  params : List Nat
  deriving DecidableEq, Repr

/-- A converter sample of a rail: its voltage in nV, and its distance from the rail's update instant in units of 62.5 ps,
positive where it comes after it (R42, R155). -/
structure Sample where
  nV : Int
  ofs : Int
  deriving DecidableEq, Repr

/-- What EXTEST meets at the cells: the levels at the board, and what a scan of the data register leaves in the cells, none
where no scan follows (R79). -/
structure PinScan where
  pins : Nat
  scan : Option Nat
  deriving DecidableEq, Repr

/-- A response on the DMA port: its ID, and the good responses of the same function that came before it (R61). -/
structure DmaResp where
  id : Nat
  done : Nat
  deriving DecidableEq, Repr

/-- The commands. -/
inductive Instr where
  /-- ALWAYS_ON_SUPPLY_LOSS: `vdd` VDD_AON in mV, `vdda` VDDA_AON in mV, `ns` duration in ns. -/
  | alwaysOnSupplyLoss (vdd vdda ns : Nat)
  /-- GOV_PORST_N_ASSERT: `ns` duration in ns. -/
  | govPorstNAssert (ns : Nat)
  /-- GOV_PORST_N_DEASSERT: `root` strap HR_ROOT. -/
  | govPorstNDeassert (root : Bool)
  /-- FUSE_CAPTURE: `id1` first capture, `id2` second capture, `par` FUSE_PAR. -/
  | fuseCapture (id1 id2 : Nat) (par : Bool)
  /-- REC_START_WRITE: `bad` what holds an error. -/
  | recStartWrite (bad : List Nat)
  /-- STORE_INIT_DONE: `bad` what holds an error. -/
  | storeInitDone (bad : List Nat)
  /-- IDENTIFICATION_DONE: `sums` sums of 64 conversions by phase. -/
  | identificationDone (sums : List Nat)
  /-- SENSE_LINE_CHECK_DONE: `n` rail, `s1` first sum, `s2` second sum. -/
  | senseLineCheckDone (n s1 s2 : Nat)
  /-- VIN_CONVERSION: `nV` voltage in nV. -/
  | vinConversion (nV : Int)
  /-- RAIL_DLY_EXPIRY: `n` rail. -/
  | railDlyExpiry (n : Nat)
  /-- PEN_MID_LEVEL_END: `n` rail. -/
  | penMidLevelEnd (n : Nat)
  /-- PG_TIMEOUT_EXPIRY: `n` rail. -/
  | pgTimeoutExpiry (n : Nat)
  /-- PROBE_REPETITION_START: `n` rail, `v0` voltage sum, `i0` current sum. -/
  | probeRepetitionStart (n : Nat) (v0 i0 : Int)
  /-- PROBE_PULSE_END: `n` rail, `samples` samples of the pulse. -/
  | probePulseEnd (n : Nat) (samples : List (Int × Int))
  /-- PROBE_COMPLETE: `n` rail. -/
  | probeComplete (n : Nat)
  /-- RAIL_OFF: `n` rail, `nV` voltage in nV. -/
  | railOff (n : Nat) (nV : Int)
  /-- REF_SOURCE_READY: `j` reference source. -/
  | refSourceReady (j : Nat)
  /-- REFSEL_WRITE: `port` port, `w` 64-bit data. -/
  | refselWrite (port w : Nat)
  /-- CLKOUT_CTL_WRITE: `port` port, `w` 64-bit data, `newRuns` the new source runs. -/
  | clkoutCtlWrite (port w : Nat) (newRuns : Bool)
  /-- CLOCK_GATE_CLOSE: `k` clock-gated block, `busy` an access is in progress. -/
  | clockGateClose (k : Nat) (busy : Bool)
  /-- GTIME_LO_READ: `port` port. -/
  | gtimeLoRead (port : Nat)
  /-- VSEL_CODE_VALID: `code` code at VSEL. -/
  | vselCodeValid (code : Nat)
  /-- PWM_SYNC_EDGE: `ns` duration in ns. -/
  | pwmSyncEdge (ns : Nat)
  /-- SYNC_LOST: `n` rail. -/
  | syncLost (n : Nat)
  /-- SATELLITE_SUPPLY_UP: `t` tile. -/
  | satelliteSupplyUp (t : Nat)
  /-- DROOP_LEVEL_CHANGE: `t` tile, `nV` voltage in nV. -/
  | droopLevelChange (t : Nat) (nV : Int)
  /-- TILE_CLOCK_EDGE: `t` tile. -/
  | tileClockEdge (t : Nat)
  /-- HEADER_RECEIVE: `t` tile, `err` bits changed on the way. -/
  | headerReceive (t err : Nat)
  /-- RING_LOSS: `t` tile. -/
  | ringLoss (t : Nat)
  /-- REPORT_RECEIVED: `t` tile, `hops` hops to the core, `err` bits changed on the way, `present` a report came. -/
  | reportReceived (t hops err : Nat) (present : Bool)
  /-- FRAME_RETURN_CHECK: `d` die, `arrived` the frame came back, `crcOk` its CRC held, `fnum` its FNUM. -/
  | frameReturnCheck (d : Nat) (arrived crcOk : Bool) (fnum : Nat)
  /-- NOREP_SET: `t` tile. -/
  | norepSet (t : Nat)
  /-- NOREP_SERVICE: `t` tile. -/
  | norepService (t : Nat)
  /-- PERIOD_BOUNDARY: `n` rail. -/
  | periodBoundary (n : Nat)
  /-- LOOP_PASS: `n` rail, `sample` sample, none where there is none. -/
  | loopPass (n : Nat) (sample : Option Sample)
  /-- RAIL_CFG_WRITE: `n` rail, `port` port, `w` 64-bit data. -/
  | railCfgWrite (n port w : Nat)
  /-- RAIL_CTL_CSET_WRITE: `n` rail, `port` port, `c` value. -/
  | railCtlCsetWrite (n port c : Nat)
  /-- RAIL_CTL_OPEN_WRITE: `n` rail, `port` port, `v` value. -/
  | railCtlOpenWrite (n port : Nat) (v : Bool)
  /-- RAIL_OPT_WRITE: `n` rail, `k` operating point, `port` port, `w` 64-bit data. -/
  | railOptWrite (n k port w : Nat)
  /-- RAIL_COEF_WRITE: `port` port, `off` offset, `w` 64-bit data. -/
  | railCoefWrite (port off w : Nat)
  /-- IMON_CONVERSION: `n` rail, `c` converter of the slice, `nV` voltage in nV. -/
  | imonConversion (n c : Nat) (nV : Int)
  /-- IMB_SERVICE_TIMEOUT: `p` phase. -/
  | imbServiceTimeout (p : Nat)
  /-- LIMIT_CUT: `p` phase, `age` ns since its pulse rose, `nV` voltage in nV. -/
  | limitCut (p age : Nat) (nV : Int)
  /-- BURST_SAMPLE: `n` rail, `sample` sample. -/
  | burstSample (n : Nat) (sample : Sample)
  /-- PHASE_SHUTDOWN_DELAY: `p` phase. -/
  | phaseShutdownDelay (p : Nat)
  /-- HICCUP_RETRY: `n` rail, `nV` voltage in nV. -/
  | hiccupRetry (n : Nat) (nV : Int)
  /-- HR_RESET_TIMEOUT: `n` rail. -/
  | hrResetTimeout (n : Nat)
  /-- GRACE_END: `n` rail. -/
  | graceEnd (n : Nat)
  /-- PFAULT_RECOGNISED: `p` phase, `ns` duration in ns. -/
  | pfaultRecognised (p ns : Nat)
  /-- SLICE_LINK_FAIL: `n` rail. -/
  | sliceLinkFail (n : Nat)
  /-- OV_CLAMP_END: `n` rail, `nV` voltage in nV. -/
  | ovClampEnd (n : Nat) (nV : Int)
  /-- ANNOUNCEMENT_ACCEPT: `req` requester, `sig` signature, `ctx` context, `cgen` generation, `cls` class, `slot`
  slot, `pmode` PMODE, `pg` page. -/
  | announcementAccept (req sig ctx cgen cls slot pmode pg : Nat)
  /-- LANE_DECISION: `d` die. -/
  | laneDecision (d : Nat)
  /-- HELD_RETEST: `d` die. -/
  | heldRetest (d : Nat)
  /-- ENTRY_BLOCKING: `h` handle. -/
  | entryBlocking (h : Nat)
  /-- COMPLETION_ACCEPT: `req` requester, `h` handle, `kind` kind. -/
  | completionAccept (req h kind : Nat)
  /-- COMPLETION_AT_CORE: `d` die. -/
  | completionAtCore (d : Nat)
  /-- DIODE_READING_ARRIVAL: `k` diode. -/
  | diodeReadingArrival (k : Nat)
  /-- CHATTER_WINDOW_CLOSE: `node` thermal node. -/
  | chatterWindowClose (node : Nat)
  /-- DIODE_CONVERSION: `v` value, `dv1` first difference in nV, `dv2` second difference in nV. -/
  | diodeConversion (v dv1 dv2 : Int)
  /-- FT_CFG_WRITE: `port` port, `trim` diode of FT_DTRIM, none for FT_CFG, `w` 64-bit data. -/
  | ftCfgWrite (port : Nat) (trim : Option Nat) (w : Nat)
  /-- HEDGEROW_FRAME_SLOT: `skip` links not ready, a bit each. -/
  | hedgerowFrameSlot (skip : Nat)
  /-- FRAME_RECEIVE: `k` Hedgerow link, `w` data, `t` capture time. -/
  | frameReceive (k w t : Nat)
  /-- HRL_UP_RISE: `k` Hedgerow link. -/
  | hrlUpRise (k : Nat)
  /-- LINK_LOST: `k` Hedgerow link, `cause` cause. -/
  | linkLost (k cause : Nat)
  /-- HOLD_END: `k` Hedgerow link. -/
  | holdEnd (k : Nat)
  /-- HR_EPOCH_NOW_BIT: `port` port. -/
  | hrEpochNowBit (port : Nat)
  /-- HR_LINK_FORGET: `k` Hedgerow link, `port` port. -/
  | hrLinkForget (k port : Nat)
  /-- DESCRIPTOR_FETCH_DONE: `words` 64-bit words. -/
  | descriptorFetchDone (words : List Nat)
  /-- ORDER_ISSUE: `kind` kind, `pg` page. -/
  | orderIssue (kind pg : Nat)
  /-- ORDER_COMPLETION: `id` order ID, `code` result code. -/
  | orderCompletion (id code : Nat)
  /-- ORDER_TIMEOUT: `id` order ID. -/
  | orderTimeout (id : Nat)
  /-- MBX_PUSH: `n` mailbox, `port` port, `w` 64-bit data, `wide` 64-bit access, `high` half at +4. -/
  | mbxPush (n port w : Nat) (wide high : Bool)
  /-- MBX_POP: `n` mailbox, `port` port, `wide` 64-bit access, `high` half at +4. -/
  | mbxPop (n port : Nat) (wide high : Bool)
  /-- COMMAND_TAKE: `bad` what holds an error, `lose` word that keeps losing to port A. -/
  | commandTake (bad : List Nat) (lose : Option Nat)
  /-- SENDER_TIMEOUT: `n` mailbox. -/
  | senderTimeout (n : Nat)
  /-- RECEIVER_TIMEOUT: `n` mailbox. -/
  | receiverTimeout (n : Nat)
  /-- EXECUTION_TIMEOUT: `num` number of the command. -/
  | executionTimeout (num : Nat)
  /-- MBX_CTL_RST: `n` mailbox, `port` port. -/
  | mbxCtlRst (n port : Nat)
  /-- GOV_LOCK_READ: `port` port, `wide` 64-bit access, `high` half at +4. -/
  | govLockRead (port : Nat) (wide high : Bool)
  /-- GOV_LOCK_RELEASE: `port` port. -/
  | govLockRelease (port : Nat)
  /-- GOV_LOCK_FORCE: `port` port. -/
  | govLockForce (port : Nat)
  /-- CFG_STAGE_OPEN: `port` port. -/
  | cfgStageOpen (port : Nat)
  /-- CFG_STAGE_ABORT: `port` port. -/
  | cfgStageAbort (port : Nat)
  /-- CFG_COMMIT_WRITE: `port` port, `w` 64-bit data. -/
  | cfgCommitWrite (port w : Nat)
  /-- NOP. -/
  | nop (x : Packet)
  /-- IDENT. -/
  | ident (x : Packet)
  /-- STATUS. -/
  | status (x : Packet)
  /-- REG_READ. -/
  | regRead (x : Packet)
  /-- REG_WRITE. -/
  | regWrite (x : Packet)
  /-- STORE_READ: `bad` what holds an error. -/
  | storeRead (x : Packet) (bad : List Nat)
  /-- STORE_WRITE: `lose` word that keeps losing to port A. -/
  | storeWrite (x : Packet) (lose : Option Nat)
  /-- CFG_OPEN. -/
  | cfgOpen (x : Packet)
  /-- CFG_COMMIT. -/
  | cfgCommit (x : Packet)
  /-- CFG_ABORT. -/
  | cfgAbort (x : Packet)
  /-- LOCK_TAKE. -/
  | lockTake (x : Packet)
  /-- LOCK_RELEASE. -/
  | lockRelease (x : Packet)
  /-- LOCK_FORCE. -/
  | lockForce (x : Packet)
  /-- BRG_START. -/
  | brgStart (x : Packet)
  /-- BRG_STOP. -/
  | brgStop (x : Packet)
  /-- BRG_CTL_START: `port` port. -/
  | brgCtlStart (port : Nat)
  /-- BRG_CTL_STOP: `port` port. -/
  | brgCtlStop (port : Nat)
  /-- THROTTLE_ALL. -/
  | throttleAll (x : Packet)
  /-- THROTTLE_DIE. -/
  | throttleDie (x : Packet)
  /-- BUD_QUERY. -/
  | budQuery (x : Packet)
  /-- HR_EPOCH_NOW. -/
  | hrEpochNow (x : Packet)
  /-- HR_FORGET. -/
  | hrForget (x : Packet)
  /-- HR_QUERY. -/
  | hrQuery (x : Packet)
  /-- RAIL_QUERY. -/
  | railQuery (x : Packet)
  /-- RAIL_PHASES. -/
  | railPhases (x : Packet)
  /-- RAIL_OPEN. -/
  | railOpen (x : Packet)
  /-- RAIL_CSET. -/
  | railCset (x : Packet)
  /-- SIG_LOAD. -/
  | sigLoad (x : Packet)
  /-- SIG_UNLOAD. -/
  | sigUnload (x : Packet)
  /-- SIG_QUERY. -/
  | sigQuery (x : Packet)
  /-- CTX_OPEN. -/
  | ctxOpen (x : Packet)
  /-- CTX_REVOKE. -/
  | ctxRevoke (x : Packet)
  /-- CTX_CLOSE. -/
  | ctxClose (x : Packet)
  /-- CTX_QUERY. -/
  | ctxQuery (x : Packet)
  /-- ANN_CANCEL. -/
  | annCancel (x : Packet)
  /-- REQ_RESET. -/
  | reqReset (x : Packet)
  /-- REQ_ENABLE. -/
  | reqEnable (x : Packet)
  /-- GRANT_QUERY. -/
  | grantQuery (x : Packet)
  /-- DMD_QUERY. -/
  | dmdQuery (x : Packet)
  /-- TH_LOAD. -/
  | thLoad (x : Packet)
  /-- TH_BOUND. -/
  | thBound (x : Packet)
  /-- TH_QUERY. -/
  | thQuery (x : Packet)
  /-- TH_HOT. -/
  | thHot (x : Packet)
  /-- FT_QUERY. -/
  | ftQuery (x : Packet)
  /-- PL_STEP. -/
  | plStep (x : Packet)
  /-- PL_CTX_POLICY. -/
  | plCtxPolicy (x : Packet)
  /-- PL_SEQ_FIND. -/
  | plSeqFind (x : Packet)
  /-- PL_QUERY. -/
  | plQuery (x : Packet)
  /-- RCV_CONTEXT. -/
  | rcvContext (x : Packet)
  /-- RCV_ENGINE. -/
  | rcvEngine (x : Packet)
  /-- RCV_PARTITION. -/
  | rcvPartition (x : Packet)
  /-- RCV_CHIP. -/
  | rcvChip (x : Packet)
  /-- RCV_PWRCYC. -/
  | rcvPwrcyc (x : Packet)
  /-- REC_MARK. -/
  | recMark (x : Packet)
  /-- REC_PEEK. -/
  | recPeek (x : Packet)
  /-- CNT_CLEAR. -/
  | cntClear (x : Packet)
  /-- TRACE_CTL. -/
  | traceCtl (x : Packet)
  /-- DUMP_STATE. -/
  | dumpState (x : Packet)
  /-- DUMP_SEQUENCE. -/
  | dumpSequence (x : Packet)
  /-- SVC_QUERY. -/
  | svcQuery (x : Packet)
  /-- DW_QUERY. -/
  | dwQuery (x : Packet)
  /-- CAL_PROBE. -/
  | calProbe (x : Packet)
  /-- PROBE_DEFERRED_START: `n` rail. -/
  | probeDeferredStart (n : Nat)
  /-- STORE_BANK. -/
  | storeBank (x : Packet)
  /-- LOOP_DP. -/
  | loopDp (x : Packet)
  /-- THERM_DP. -/
  | thermDp (x : Packet)
  /-- ST_RING. -/
  | stRing (x : Packet)
  /-- SLICE_ADC. -/
  | sliceAdc (x : Packet)
  /-- FT_SCAN. -/
  | ftScan (x : Packet)
  /-- DRAIN_TIMEOUT: `c` context. -/
  | drainTimeout (c : Nat)
  /-- PART_TIMEOUT: `q` partition. -/
  | partTimeout (q : Nat)
  /-- DMA_TIMEOUT: `f` DMA function. -/
  | dmaTimeout (f : Nat)
  /-- RCV_HOLD_WRITE: `port` port, `w` 64-bit data. -/
  | rcvHoldWrite (port w : Nat)
  /-- DW_STAT_BLOCKED_CLEAR: `port` port. -/
  | dwStatBlockedClear (port : Nat)
  /-- CORRECTED_WRITEBACK: `off` store offset. -/
  | correctedWriteback (off : Nat)
  /-- BANK_COPY_DONE: `lost` offsets of lost words. -/
  | bankCopyDone (lost : List Nat)
  /-- TRACE_DRAIN: `written` its responses have come. -/
  | traceDrain (written : Bool)
  /-- TRC_CONS_WRITE: `port` port, `w` 64-bit data. -/
  | trcConsWrite (port w : Nat)
  /-- TRC_RING_WRITE: `port` port, `size` TRC_SIZE, not TRC_RING, `w` 64-bit data. -/
  | trcRingWrite (port : Nat) (size : Bool) (w : Nat)
  /-- HIST_CTL_CLEAR: `port` port. -/
  | histCtlClear (port : Nat)
  /-- HIST_CFG_WRITE: `h` histogram, `port` port, `w` 64-bit data. -/
  | histCfgWrite (h port w : Nat)
  /-- DUMP_COMPLETE: `begun` begin times of sections. -/
  | dumpComplete (begun : List Nat)
  /-- DUMP_STAT_HOLD_RELEASE: `port` port. -/
  | dumpStatHoldRelease (port : Nat)
  /-- DMA_ERROR_RESPONSE: `f` DMA function, `resp` response. -/
  | dmaErrorResponse (f : Nat) (resp : DmaResp)
  /-- DMA_STAT_CLEAR: `port` port, `w` 64-bit data. -/
  | dmaStatClear (port w : Nat)
  /-- PL_STAT_CLEAR: `port` port, `w` 64-bit data. -/
  | plStatClear (port w : Nat)
  /-- CAL_IMON_WRITE: `p` phase, `port` port, `w` 64-bit data. -/
  | calImonWrite (p port w : Nat)
  /-- STORE_PAGE_WRITE: `port` port, `w` 64-bit data. -/
  | storePageWrite (port w : Nat)
  /-- STORE_WINDOW_WRITE: `port` port, `off` window offset, `data` 64-bit data, `wide` 64-bit access, `collide` port A
  writes the word now. -/
  | storeWindowWrite (port off data : Nat) (wide collide : Bool)
  /-- STORE_WINDOW_READ: `port` port, `off` window offset, `rot` rotation, `wide` 64-bit access, `bad0` the word holds
  an error, `bad1` the next word does. -/
  | storeWindowRead (port off rot : Nat) (wide bad0 bad1 : Bool)
  /-- RAIL_MEAS_READ: `n` rail, `port` port, `wide` 64-bit access, `high` half at +4. -/
  | railMeasRead (n port : Nat) (wide high : Bool)
  /-- PH_STAT_READ: `p` phase, `port` port, `wide` 64-bit access, `high` half at +4. -/
  | phStatRead (p port : Nat) (wide high : Bool)
  /-- HR_LSTAT_READ: `k` Hedgerow link, `port` port, `wide` 64-bit access, `high` half at +4. -/
  | hrLstatRead (k port : Nat) (wide high : Bool)
  /-- PL_TD_READ: `port` port, `wide` 64-bit access, `high` half at +4. -/
  | plTdRead (port : Nat) (wide high : Bool)
  /-- STORE_ECC_READ: `port` port, `wide` 64-bit access, `high` half at +4. -/
  | storeEccRead (port : Nat) (wide high : Bool)
  /-- MBX_STAT_READ: `n` mailbox, `port` port, `wide` 64-bit access, `high` half at +4. -/
  | mbxStatRead (n port : Nat) (wide high : Bool)
  /-- MIR_CTL_READ: `port` port, `wide` 64-bit access, `high` half at +4. -/
  | mirCtlRead (port : Nat) (wide high : Bool)
  /-- REGISTER_WRITE: `port` port, `off` window offset, `w` 64-bit data, `wide` 64-bit access. -/
  | registerWrite (port off w : Nat) (wide : Bool)
  /-- PAGE: `v` value, `badPec` the PEC byte is wrong. -/
  | page (v : Option Nat) (badPec : Bool)
  /-- CLEAR_FAULTS: `badPec` the PEC byte is wrong. -/
  | clearFaults (badPec : Bool)
  /-- MFR_MBX_PUSH: `ws` words pushed, `badPec` the PEC byte is wrong. -/
  | mfrMbxPush (ws : List Nat) (badPec : Bool)
  /-- MFR_MBX_SEL: `v` value, `badPec` the PEC byte is wrong. -/
  | mfrMbxSel (v : Option Nat) (badPec : Bool)
  /-- SMBUS_UNSUPPORTED_COMMAND: `code` command code. -/
  | smbusUnsupportedCommand (code : Nat)
  /-- SMBUS_CLOCK_TIMEOUT: `us` time in µs. -/
  | smbusClockTimeout (us : Nat)
  /-- EXTEST: `cells` levels at the board and what a scan leaves in the cells. -/
  | extest (cells : PinScan)
  /-- SAMPLE_PRELOAD: `pins` levels at the board, `load` boundary load. -/
  | samplePreload (pins load : Nat)
  /-- REGACC: `wr` write, `off` window offset, `data` 64-bit data, `bad` what holds an error, `collide` port A writes
  the word now. -/
  | regacc (wr : Bool) (off data : Nat) (bad collide : Bool)
  /-- REF_SOURCE_UNREADY: `j` reference source. -/
  | refSourceUnready (j : Nat)
  /-- TILE_CLOCK_STOP: `t` tile. -/
  | tileClockStop (t : Nat)
  /-- SATELLITE_SUPPLY_LOSS: `t` tile. -/
  | satelliteSupplyLoss (t : Nat)
  /-- PFAULT_N_LEVEL: `p` phase, `low` the level is low. -/
  | pfaultNLevel (p : Nat) (low : Bool)
  /-- TEST_COMPLETE: `ok` no item failed, `item` first item that failed. -/
  | testComplete (ok : Bool) (item : Nat)
  /-- ALWAYS_ON_POWER_UP. -/
  | alwaysOnPowerUp
  /-- XO_START_DELAY_END. -/
  | xoStartDelayEnd
  /-- GPLL_LOCK. -/
  | gpllLock
  /-- FUSE_VLD_TIMEOUT. -/
  | fuseVldTimeout
  /-- DISCOVER_COMPLETE. -/
  | discoverComplete
  /-- VIN_WINDOW_SETTLED. -/
  | vinWindowSettled
  /-- VIN_TO_EXPIRY. -/
  | vinToExpiry
  /-- VIN_WINDOW_FAULT. -/
  | vinWindowFault
  /-- GROUP_START. -/
  | groupStart
  /-- HR_WAIT_EXPIRY. -/
  | hrWaitExpiry
  /-- READY_ENTRY. -/
  | readyEntry
  /-- SATELLITE_ENABLE_WAIT_END. -/
  | satelliteEnableWaitEnd
  /-- PD_DRAIN_EXPIRY. -/
  | pdDrainExpiry
  /-- REFERENCE_LOST. -/
  | referenceLost
  /-- REF_SWITCH_COMPLETE. -/
  | refSwitchComplete
  /-- FORCED_SWITCH. -/
  | forcedSwitch
  /-- SWITCH_BACK. -/
  | switchBack
  /-- HOLDOVER_LOCK. -/
  | holdoverLock
  /-- RING_FRAME_SEND. -/
  | ringFrameSend
  /-- SLOT_BOUNDARY. -/
  | slotBoundary
  /-- HORIZON_SCAN_RESULT. -/
  | horizonScanResult
  /-- DELTA_WRITE. -/
  | deltaWrite
  /-- THERMAL_TICK. -/
  | thermalTick
  /-- TH_LOAD_DECODE_DONE. -/
  | thLoadDecodeDone
  /-- SCAN_END. -/
  | scanEnd
  /-- FT_PEN_OVERRIDE. -/
  | ftPenOverride
  /-- FT_PWM_HIZ. -/
  | ftPwmHiz
  /-- FT_TRIP_STATUS_AT_CORE. -/
  | ftTripStatusAtCore
  /-- FT_RELEASE_AT_CORE. -/
  | ftReleaseAtCore
  /-- FT_STATUS_AFTER_RESET. -/
  | ftStatusAfterReset
  /-- EPOCH_ANNOUNCE. -/
  | epochAnnounce
  /-- EPOCH_APPLY. -/
  | epochApply
  /-- RAISED_CAP_APPLY. -/
  | raisedCapApply
  /-- STEP_REPLY_DONE. -/
  | stepReplyDone
  /-- RESIDENCY_WALK_DONE. -/
  | residencyWalkDone
  /-- LOCK_TIMEOUT. -/
  | lockTimeout
  /-- SHADOW_COPY_DONE. -/
  | shadowCopyDone
  /-- VALIDATION_DONE. -/
  | validationDone
  /-- COMMIT_INSTANT. -/
  | commitInstant
  /-- COMMIT_COMPLETE. -/
  | commitComplete
  /-- MIRROR_SNAPSHOT. -/
  | mirrorSnapshot
  /-- TEST_DEFERRED_START. -/
  | testDeferredStart
  /-- DW_SCAN_READ. -/
  | dwScanRead
  /-- CHIP_TIMEOUT. -/
  | chipTimeout
  /-- EVENT_RECORD_WRITE. -/
  | eventRecordWrite
  /-- HISTOGRAM_FLUSH. -/
  | histogramFlush
  /-- MICROSECOND_TICK. -/
  | microsecondTick
  /-- CAPABILITY. -/
  | capability
  /-- VOUT_MODE. -/
  | voutMode
  /-- STATUS_BYTE. -/
  | statusByte
  /-- STATUS_WORD. -/
  | statusWord
  /-- STATUS_VOUT. -/
  | statusVout
  /-- STATUS_IOUT. -/
  | statusIout
  /-- STATUS_INPUT. -/
  | statusInput
  /-- STATUS_TEMPERATURE. -/
  | statusTemperature
  /-- STATUS_CML. -/
  | statusCml
  /-- READ_VIN. -/
  | readVin
  /-- READ_VOUT. -/
  | readVout
  /-- READ_IOUT. -/
  | readIout
  /-- READ_TEMPERATURE_1. -/
  | readTemperature1
  /-- READ_TEMPERATURE_2. -/
  | readTemperature2
  /-- READ_POUT. -/
  | readPout
  /-- PMBUS_REVISION. -/
  | pmbusRevision
  /-- MFR_ID. -/
  | mfrId
  /-- MFR_MODEL. -/
  | mfrModel
  /-- MFR_REVISION. -/
  | mfrRevision
  /-- MFR_GOV_STATUS. -/
  | mfrGovStatus
  /-- MFR_SERVICE_CAUSE. -/
  | mfrServiceCause
  /-- MFR_IDENT. -/
  | mfrIdent
  /-- MFR_EVENT_PEEK. -/
  | mfrEventPeek
  /-- MFR_MBX_PULL. -/
  | mfrMbxPull
  /-- ALERT_RESPONSE. -/
  | alertResponse
  /-- IDCODE. -/
  | idcode
  /-- FTOBS. -/
  | ftobs
  /-- BYPASS. -/
  | bypass
  /-- TAP_RESET. -/
  | tapReset
  /-- CHECK_WORD_REWRITTEN. -/
  | checkWordRewritten
  /-- MIRROR_SNAPSHOT_WRITTEN. -/
  | mirrorSnapshotWritten
  deriving DecidableEq, Repr

end Sys2Proof
end

