-- ==== Sys2Proof/Decode.lean ====
section
/-! DEFINITION. Decoding of table words. The opcode table gives its rows no bits: they are events and accesses of a block,
and no instruction word spells one. -/

namespace Sys2Proof

/-- The command that a table word spells: none, for no row of the table has bits. (DESIGN CHOICE, log 22) -/
def decodeTableWord (_nbits _w : Nat) : Option Instr := none

end Sys2Proof
end

