-- ==== Sys2Proof/Machine/RegFields.lean ====
section
/-! DEFINITION. The register map: every register of Table 17.2 with the fields of its field table (R14, R474, R475).
One accessor per field, named by the register and the field as the spec names them; the index-dependent reset
values of STORE_MAP, STORE_RGN (Table 17.11) and HIST_CFG (Table 16.7); and the table `regTable`, which gives
each register's offset, instances and fields. Written from the field tables of spec/00 to spec/18. -/

namespace Sys2Proof.Machine

/-! ## Reset values that depend on the instance -/

/-- Function holding logical bank `b` at always-on power-up (Table 17.11, codes of R452). -/
def storeFunc (b : Nat) : Nat :=
  if b < 32 then 0 else if b < 34 then 1 else if b < 35 then 2 else if b < 36 then 3
  else if b < 40 then 4 else if b < 42 then 5 else if b < 43 then 6 else if b < 45 then 8 else 9

/-- Base offset of region `k` (Table 17.11). -/
def storeRgnBase (k : Nat) : Nat :=
  match k with
  | 0 => 0x000000
  | 1 => 0x800000
  | 2 => 0x880000
  | 3 => 0x8C0000
  | 4 => 0x900000
  | 5 => 0xA00000
  | 6 => 0xA80000
  | 7 => 0xAB0000
  | 8 => 0xAC0000
  | 9 => 0xB40000
  | _ => 0

/-- Bytes of region `k` while no bank has been retired (Table 17.11). -/
def storeRgnLen (k : Nat) : Nat :=
  match k with
  | 0 => 0x800000
  | 1 => 0x080000
  | 2 => 0x040000
  | 3 => 0x040000
  | 4 => 0x100000
  | 5 => 0x080000
  | 6 => 0x040000
  | 7 => 0x010000
  | 8 => 0x080000
  | 9 => 0x0C0000
  | _ => 0

/-- Logical banks held wholly by region `k` while none has been retired (Table 17.11). -/
def storeRgnBanks (k : Nat) : Nat :=
  match k with
  | 0 => 32
  | 1 => 2
  | 2 => 1
  | 3 => 1
  | 4 => 4
  | 5 => 2
  | 6 => 1
  | 7 => 0
  | 8 => 2
  | 9 => 3
  | _ => 0

/-- Reset value of HIST_CFG[h].LO, 32 bits two's complement (Table 16.7). -/
def histLo (h : Nat) : Nat :=
  if 16 ≤ h ∧ h < 32 then 0xFFFFFFC0 else if 40 ≤ h ∧ h < 48 then 5120 else 0

/-- Reset value of HIST_CFG[h].SHIFT (Table 16.7). -/
def histShift (h : Nat) : Nat :=
  if h < 16 then 10 else if h < 32 then 2 else if h < 40 then 7 else if h < 48 then 8
  else if h < 52 then 4 else if h < 56 then 6 else if h < 60 then 5 else if h = 61 then 8
  else if h = 62 then 7 else 0

/-- Reset value of HIST_CFG[h].LOG (Table 16.7). -/
def histLog (h : Nat) : Nat :=
  if 48 ≤ h ∧ h < 61 ∨ h = 63 then 1 else 0

/-! ## The fields -/

namespace F

/-! GOV_IDENT, 0x0 -/
def GOV_IDENT_PART_CODE : Fld := ⟨0x0, 0, 16, 0x5947, .ro, .never⟩
def GOV_IDENT_VENDOR : Fld := ⟨0x0, 16, 16, 0xd7a, .ro, .never⟩

/-! GOV_VERSION, 0x8 -/
def GOV_VERSION_MINOR : Fld := ⟨0x8, 0, 16, 2, .ro, .never⟩
def GOV_VERSION_MAJOR : Fld := ⟨0x8, 16, 16, 3, .ro, .never⟩

/-! GOV_BUILD, 0x10 -/
def GOV_BUILD_DIES : Fld := ⟨0x10, 0, 4, 0, .ro, .never⟩
def GOV_BUILD_TILES_PER_DIE : Fld := ⟨0x10, 4, 7, 0, .ro, .never⟩
def GOV_BUILD_RAILS : Fld := ⟨0x10, 11, 5, 0, .ro, .never⟩
def GOV_BUILD_PHASES : Fld := ⟨0x10, 16, 8, 0, .ro, .never⟩
def GOV_BUILD_STACKS : Fld := ⟨0x10, 24, 5, 0, .ro, .never⟩
def GOV_BUILD_REQUESTERS : Fld := ⟨0x10, 29, 11, 0, .ro, .never⟩
def GOV_BUILD_PARTITIONS : Fld := ⟨0x10, 40, 5, 0, .ro, .never⟩

/-! HOST_LOT, 0x18 -/
def HOST_LOT_LOT : Fld := ⟨0x18, 0, 56, 0, .ro, .never⟩

/-! HOST_POS, 0x20 -/
def HOST_POS_WAFER : Fld := ⟨0x20, 0, 5, 0, .ro, .never⟩
def HOST_POS_X : Fld := ⟨0x20, 8, 8, 0, .ro, .never⟩
def HOST_POS_Y : Fld := ⟨0x20, 16, 8, 0, .ro, .never⟩
def HOST_POS_FSTAT : Fld := ⟨0x20, 24, 2, 0, .ro, .never⟩

/-! MBX_CMD, 0x1000 -/
def MBX_CMD_WORD (n : Nat) : Fld := ⟨0x1000 + 64*n, 0, 64, 0, .wo, .never⟩

/-! MBX_RPL, 0x1008 -/
def MBX_RPL_WORD (n : Nat) : Fld := ⟨0x1008 + 64*n, 0, 64, 0, .rc, .never⟩

/-! MBX_STAT, 0x1010 -/
def MBX_STAT_CQ_FREE (n : Nat) : Fld := ⟨0x1010 + 64*n, 0, 6, 0x20, .ro, .never⟩
def MBX_STAT_RQ_CNT (n : Nat) : Fld := ⟨0x1010 + 64*n, 6, 6, 0, .ro, .never⟩
def MBX_STAT_RDY (n : Nat) : Fld := ⟨0x1010 + 64*n, 12, 1, 0, .ro, .never⟩
def MBX_STAT_PEND (n : Nat) : Fld := ⟨0x1010 + 64*n, 13, 6, 0, .ro, .never⟩
def MBX_STAT_MGEN (n : Nat) : Fld := ⟨0x1010 + 64*n, 19, 4, 0, .ro, .never⟩
def MBX_STAT_STALE (n : Nat) : Fld := ⟨0x1010 + 64*n, 23, 1, 0, .ro, .never⟩
def MBX_STAT_CQ_OVF (n : Nat) : Fld := ⟨0x1010 + 64*n, 24, 1, 0, .w1c, .never⟩
def MBX_STAT_UNDER (n : Nat) : Fld := ⟨0x1010 + 64*n, 25, 1, 0, .w1c, .never⟩
def MBX_STAT_TRUNC (n : Nat) : Fld := ⟨0x1010 + 64*n, 26, 1, 0, .w1c, .never⟩
def MBX_STAT_PORTERR (n : Nat) : Fld := ⟨0x1010 + 64*n, 27, 1, 0, .w1c, .never⟩
def MBX_STAT_RLOST (n : Nat) : Fld := ⟨0x1010 + 64*n, 28, 1, 0, .w1c, .never⟩
def MBX_STAT_DROP (n : Nat) : Fld := ⟨0x1010 + 64*n, 29, 1, 0, .w1c, .never⟩
def MBX_STAT_NDROP (n : Nat) : Fld := ⟨0x1010 + 64*n, 32, 16, 0, .rc, .never⟩

/-! MBX_ACK, 0x1018 -/
def MBX_ACK_OPCODE (n : Nat) : Fld := ⟨0x1018 + 64*n, 0, 12, 0, .ro, .never⟩
def MBX_ACK_CLASS (n : Nat) : Fld := ⟨0x1018 + 64*n, 12, 2, 0, .ro, .never⟩
def MBX_ACK_TAG (n : Nat) : Fld := ⟨0x1018 + 64*n, 14, 8, 0, .ro, .never⟩
def MBX_ACK_CODE (n : Nat) : Fld := ⟨0x1018 + 64*n, 22, 8, 0, .ro, .never⟩
def MBX_ACK_ACNT (n : Nat) : Fld := ⟨0x1018 + 64*n, 32, 16, 0, .ro, .never⟩

/-! MBX_CTL, 0x1020 -/
def MBX_CTL_OWNER (n : Nat) : Fld := ⟨0x1020 + 64*n, 0, 3, 7, .rw, .retained⟩
def MBX_CTL_C0ONLY (n : Nat) : Fld := ⟨0x1020 + 64*n, 3, 1, 0, .rw, .retained⟩
def MBX_CTL_RONLY (n : Nat) : Fld := ⟨0x1020 + 64*n, 4, 1, 0, .rw, .retained⟩
def MBX_CTL_EN (n : Nat) : Fld := ⟨0x1020 + 64*n, 5, 1, 1, .rw, .retained⟩
def MBX_CTL_PART (n : Nat) : Fld := ⟨0x1020 + 64*n, 6, 4, 0xf, .rw, .retained⟩
def MBX_CTL_RST (n : Nat) : Fld := ⟨0x1020 + 64*n, 10, 1, 0, .wo, .never⟩

/-! GOV_STAT, 0x2000 -/
def GOV_STAT_STAGE : Fld := ⟨0x2000, 0, 4, 1, .ro, .never⟩
def GOV_STAT_READY : Fld := ⟨0x2000, 4, 1, 0, .ro, .never⟩
def GOV_STAT_SVC : Fld := ⟨0x2000, 5, 1, 0, .ro, .never⟩
def GOV_STAT_TRIPPED : Fld := ⟨0x2000, 6, 1, 0, .ro, .never⟩
def GOV_STAT_LATCHED : Fld := ⟨0x2000, 7, 1, 0, .ro, .never⟩
def GOV_STAT_ALIGNED : Fld := ⟨0x2000, 8, 1, 0, .ro, .never⟩
def GOV_STAT_LOCKERR : Fld := ⟨0x2000, 9, 1, 0, .w1c, .never⟩
def GOV_STAT_LOCK_OWNER : Fld := ⟨0x2000, 10, 3, 7, .ro, .never⟩
def GOV_STAT_STAGE_OPEN : Fld := ⟨0x2000, 13, 1, 0, .ro, .never⟩
def GOV_STAT_COMMITTING : Fld := ⟨0x2000, 14, 1, 0, .ro, .never⟩
def GOV_STAT_DIRTY : Fld := ⟨0x2000, 15, 1, 0, .ro, .never⟩
def GOV_STAT_RDYMAP : Fld := ⟨0x2000, 16, 16, 0, .ro, .never⟩
def GOV_STAT_RSTCNT : Fld := ⟨0x2000, 32, 16, 0, .ro, .alwaysOn⟩

/-! GOV_LOCK, 0x2008 -/
def GOV_LOCK_OWNER : Fld := ⟨0x2008, 0, 3, 7, .rs, .never⟩
def GOV_LOCK_GOT : Fld := ⟨0x2008, 3, 1, 0, .ro, .never⟩
def GOV_LOCK_RELEASE : Fld := ⟨0x2008, 4, 1, 0, .wo, .never⟩
def GOV_LOCK_FORCE : Fld := ⟨0x2008, 5, 1, 0, .wo, .never⟩
def GOV_LOCK_BROKEN : Fld := ⟨0x2008, 6, 1, 0, .w1c, .never⟩
def GOV_LOCK_LOCK_TO : Fld := ⟨0x2008, 16, 16, 0xbb8, .rw, .retained⟩

/-! MBX_TO, 0x2010 -/
def MBX_TO_PKT_TO : Fld := ⟨0x2010, 0, 16, 0x64, .rw, .retained⟩
def MBX_TO_RPL_TO : Fld := ⟨0x2010, 16, 16, 0x3e8, .rw, .retained⟩
def MBX_TO_EXE_TO : Fld := ⟨0x2010, 32, 16, 0x3e8, .rw, .retained⟩

/-! DMA_STAT, 0x2018 -/
def DMA_STAT_TRACE_ERR : Fld := ⟨0x2018, 0, 1, 0, .w1c, .never⟩
def DMA_STAT_DUMP_ERR : Fld := ⟨0x2018, 1, 1, 0, .w1c, .never⟩
def DMA_STAT_MIR_ERR : Fld := ⟨0x2018, 2, 1, 0, .w1c, .never⟩
def DMA_STAT_PL_ERR : Fld := ⟨0x2018, 3, 1, 0, .w1c, .never⟩
def DMA_STAT_OUT : Fld := ⟨0x2018, 8, 6, 0, .ro, .never⟩

/-! MIR_ADDR, 0x2020 -/
def MIR_ADDR_ADDR : Fld := ⟨0x2020, 4, 52, 0, .rw, .never⟩

/-! MIR_CTL, 0x2028 -/
def MIR_CTL_EN : Fld := ⟨0x2028, 0, 1, 0, .rw, .never⟩
def MIR_CTL_SKIP : Fld := ⟨0x2028, 16, 16, 0, .rc, .never⟩
def MIR_CTL_MSEQ : Fld := ⟨0x2028, 32, 32, 0, .ro, .never⟩

/-! CFG_STAGE, 0x2040 -/
def CFG_STAGE_OPEN : Fld := ⟨0x2040, 0, 1, 0, .wo, .never⟩
def CFG_STAGE_ABORT : Fld := ⟨0x2040, 1, 1, 0, .wo, .never⟩

/-! CFG_COMMIT, 0x2048 -/
def CFG_COMMIT_AT : Fld := ⟨0x2048, 0, 64, 0, .wo, .never⟩

/-! CFG_STAT, 0x2050 -/
def CFG_STAT_STATE : Fld := ⟨0x2050, 0, 2, 0, .ro, .never⟩
def CFG_STAT_OWNER : Fld := ⟨0x2050, 2, 3, 7, .ro, .never⟩
def CFG_STAT_DIRTY : Fld := ⟨0x2050, 5, 1, 0, .ro, .never⟩
def CFG_STAT_REFUSED : Fld := ⟨0x2050, 6, 1, 0, .w1c, .never⟩
def CFG_STAT_RESULT : Fld := ⟨0x2050, 8, 8, 0, .ro, .never⟩
def CFG_STAT_NCHG : Fld := ⟨0x2050, 16, 16, 0, .ro, .never⟩
def CFG_STAT_BADOFS : Fld := ⟨0x2050, 32, 20, 0, .ro, .never⟩

/-! CFG_TC, 0x2058 -/
def CFG_TC_TC : Fld := ⟨0x2058, 0, 64, 0, .ro, .never⟩

/-! STORE_PAGE, 0x2060 -/
def STORE_PAGE_PAGE : Fld := ⟨0x2060, 0, 4, 0, .rw, .never⟩

/-! STORE_MAP, 0x2100 -/
def STORE_MAP_PHYS (b : Nat) : Fld := ⟨0x2100 + 8*b, 0, 6, b, .ro, .alwaysOn⟩
def STORE_MAP_COPY (b : Nat) : Fld := ⟨0x2100 + 8*b, 6, 1, 0, .ro, .alwaysOn⟩
def STORE_MAP_FUNC (b : Nat) : Fld := ⟨0x2100 + 8*b, 7, 4, storeFunc b, .ro, .alwaysOn⟩

/-! STORE_RGN, 0x2300 -/
def STORE_RGN_BASE (k : Nat) : Fld := ⟨0x2300 + 8*k, 0, 24, storeRgnBase k, .ro, .never⟩
def STORE_RGN_LEN (k : Nat) : Fld := ⟨0x2300 + 8*k, 24, 24, storeRgnLen k, .ro, .never⟩
def STORE_RGN_BANKS (k : Nat) : Fld := ⟨0x2300 + 8*k, 48, 6, storeRgnBanks k, .ro, .never⟩

/-! RAIL_CTL, 0x4000 -/
def RAIL_CTL_CSET (n : Nat) : Fld := ⟨0x4000 + 8*n, 0, 2, 0, .rw, .retained⟩
def RAIL_CTL_OPEN (n : Nat) : Fld := ⟨0x4000 + 8*n, 2, 1, 0, .rw, .never⟩
def RAIL_CTL_SYNC_EN (n : Nat) : Fld := ⟨0x4000 + 8*n, 3, 1, 0, .rw, .retained⟩
def RAIL_CTL_SYNC_DIV (n : Nat) : Fld := ⟨0x4000 + 8*n, 4, 2, 0, .rw, .retained⟩
def RAIL_CTL_DMIN (n : Nat) : Fld := ⟨0x4000 + 8*n, 16, 16, 0, .rw, .retained⟩
def RAIL_CTL_DMAX (n : Nat) : Fld := ⟨0x4000 + 8*n, 32, 16, 0xe000, .rw, .retained⟩

/-! RAIL_CFG, 0x4080 -/
def RAIL_CFG_PER (n : Nat) : Fld := ⟨0x4080 + 8*n, 0, 16, 0x3e80, .rw, .retained⟩
def RAIL_CFG_RATE (n : Nat) : Fld := ⟨0x4080 + 8*n, 16, 4, 3, .rw, .retained⟩
def RAIL_CFG_FIRST (n : Nat) : Fld := ⟨0x4080 + 8*n, 20, 7, 0, .rw, .retained⟩
def RAIL_CFG_COUNT (n : Nat) : Fld := ⟨0x4080 + 8*n, 27, 5, 0, .rw, .retained⟩
def RAIL_CFG_SOFS (n : Nat) : Fld := ⟨0x4080 + 8*n, 32, 16, 0, .rw, .retained⟩

/-! RAIL_OPT, 0x4100 -/
def RAIL_OPT_VSET (n v : Nat) : Fld := ⟨0x4100 + 64*n + 8*v, 0, 12, 0, .rw, .retained⟩

/-! RAIL_STAT, 0x4500 -/
def RAIL_STAT_DUTY (n : Nat) : Fld := ⟨0x4500 + 8*n, 0, 16, 0, .ro, .never⟩
def RAIL_STAT_VREF (n : Nat) : Fld := ⟨0x4500 + 8*n, 16, 12, 0, .ro, .never⟩
def RAIL_STAT_MODE (n : Nat) : Fld := ⟨0x4500 + 8*n, 28, 3, 0, .ro, .never⟩
def RAIL_STAT_OPT (n : Nat) : Fld := ⟨0x4500 + 8*n, 31, 3, 0, .ro, .never⟩
def RAIL_STAT_CSET_ACT (n : Nat) : Fld := ⟨0x4500 + 8*n, 34, 2, 0, .ro, .never⟩
def RAIL_STAT_FF_ACT (n : Nat) : Fld := ⟨0x4500 + 8*n, 36, 1, 0, .ro, .never⟩
def RAIL_STAT_SYNC_LOCK (n : Nat) : Fld := ⟨0x4500 + 8*n, 37, 1, 0, .ro, .never⟩
def RAIL_STAT_PEND (n : Nat) : Fld := ⟨0x4500 + 8*n, 38, 1, 0, .ro, .never⟩
def RAIL_STAT_CFG_PEND (n : Nat) : Fld := ⟨0x4500 + 8*n, 39, 1, 0, .ro, .never⟩
def RAIL_STAT_SAT_SEC (n : Nat) : Fld := ⟨0x4500 + 8*n, 40, 4, 0, .w1c, .never⟩
def RAIL_STAT_SAT_FF (n : Nat) : Fld := ⟨0x4500 + 8*n, 44, 1, 0, .w1c, .never⟩
def RAIL_STAT_SAT_SUM (n : Nat) : Fld := ⟨0x4500 + 8*n, 45, 1, 0, .w1c, .never⟩
def RAIL_STAT_CLAMP_HI (n : Nat) : Fld := ⟨0x4500 + 8*n, 46, 1, 0, .w1c, .never⟩
def RAIL_STAT_CLAMP_LO (n : Nat) : Fld := ⟨0x4500 + 8*n, 47, 1, 0, .w1c, .never⟩
def RAIL_STAT_NOINT (n : Nat) : Fld := ⟨0x4500 + 8*n, 48, 1, 0, .w1c, .never⟩
def RAIL_STAT_SYNC_LOST (n : Nat) : Fld := ⟨0x4500 + 8*n, 49, 1, 0, .w1c, .never⟩
def RAIL_STAT_REFUSED (n : Nat) : Fld := ⟨0x4500 + 8*n, 50, 1, 0, .w1c, .never⟩

/-! RAIL_MEAS, 0x4580 -/
def RAIL_MEAS_VS (n : Nat) : Fld := ⟨0x4580 + 8*n, 0, 12, 0, .ro, .never⟩
def RAIL_MEAS_ISUM (n : Nat) : Fld := ⟨0x4580 + 8*n, 16, 16, 0, .ro, .never⟩
def RAIL_MEAS_POUT (n : Nat) : Fld := ⟨0x4580 + 8*n, 32, 16, 0, .ro, .never⟩
def RAIL_MEAS_HOLDS (n : Nat) : Fld := ⟨0x4580 + 8*n, 48, 8, 0, .rc, .never⟩
def RAIL_MEAS_MISS (n : Nat) : Fld := ⟨0x4580 + 8*n, 56, 8, 0, .rc, .never⟩

/-! RAIL_CBAND, 0x4600 -/
def RAIL_CBAND_C_LO (n c : Nat) : Fld := ⟨0x4600 + 32*n + 8*c, 0, 16, 0, .rw, .retained⟩
def RAIL_CBAND_C_HI (n c : Nat) : Fld := ⟨0x4600 + 32*n + 8*c, 16, 16, 0, .rw, .retained⟩
def RAIL_CBAND_ESR_MAX (n c : Nat) : Fld := ⟨0x4600 + 32*n + 8*c, 32, 16, 0, .rw, .retained⟩

/-! RAIL_FF, 0x4800 -/
def RAIL_FF_KP (n : Nat) : Fld := ⟨0x4800 + 8*n, 0, 16, 0, .rw, .retained⟩
def RAIL_FF_KD (n : Nat) : Fld := ⟨0x4800 + 8*n, 16, 16, 0, .rw, .retained⟩
def RAIL_FF_SP (n : Nat) : Fld := ⟨0x4800 + 8*n, 32, 2, 0, .rw, .retained⟩
def RAIL_FF_SD (n : Nat) : Fld := ⟨0x4800 + 8*n, 34, 2, 0, .rw, .retained⟩
def RAIL_FF_FA (n : Nat) : Fld := ⟨0x4800 + 8*n, 36, 3, 0, .rw, .retained⟩
def RAIL_FF_LEAD (n : Nat) : Fld := ⟨0x4800 + 8*n, 39, 3, 0, .rw, .retained⟩
def RAIL_FF_FF_EN (n : Nat) : Fld := ⟨0x4800 + 8*n, 42, 1, 0, .rw, .retained⟩

/-! RAIL_LIM, 0x4880 -/
def RAIL_LIM_ILIM_PH (n : Nat) : Fld := ⟨0x4880 + 8*n, 0, 16, 0x780, .rw, .retained⟩
def RAIL_LIM_BAL_M (n : Nat) : Fld := ⟨0x4880 + 8*n, 16, 6, 4, .rw, .retained⟩
def RAIL_LIM_GRACE (n : Nat) : Fld := ⟨0x4880 + 8*n, 24, 16, 0x64, .rw, .retained⟩
def RAIL_LIM_N_MIN (n : Nat) : Fld := ⟨0x4880 + 8*n, 40, 5, 1, .rw, .retained⟩

/-! RAIL_SHED, 0x4900 -/
def RAIL_SHED_IPH_SHED (n : Nat) : Fld := ⟨0x4900 + 8*n, 0, 16, 0x280, .rw, .retained⟩
def RAIL_SHED_IPH_ADD (n : Nat) : Fld := ⟨0x4900 + 8*n, 16, 16, 0x380, .rw, .retained⟩
def RAIL_SHED_SHED_DWELL (n : Nat) : Fld := ⟨0x4900 + 8*n, 32, 8, 0x40, .rw, .retained⟩
def RAIL_SHED_SHED_EN (n : Nat) : Fld := ⟨0x4900 + 8*n, 40, 1, 0, .rw, .retained⟩

/-! RAIL_BURST, 0x4980 -/
def RAIL_BURST_BURST_IN (n : Nat) : Fld := ⟨0x4980 + 8*n, 0, 16, 0x50, .rw, .retained⟩
def RAIL_BURST_BURST_OUT (n : Nat) : Fld := ⟨0x4980 + 8*n, 16, 16, 0xa0, .rw, .retained⟩
def RAIL_BURST_BLO (n : Nat) : Fld := ⟨0x4980 + 8*n, 32, 8, 0xa, .rw, .retained⟩
def RAIL_BURST_BHI (n : Nat) : Fld := ⟨0x4980 + 8*n, 40, 8, 0xa, .rw, .retained⟩
def RAIL_BURST_BEXIT (n : Nat) : Fld := ⟨0x4980 + 8*n, 48, 8, 0x28, .rw, .retained⟩
def RAIL_BURST_BCNT (n : Nat) : Fld := ⟨0x4980 + 8*n, 56, 4, 4, .rw, .retained⟩
def RAIL_BURST_BEN (n : Nat) : Fld := ⟨0x4980 + 8*n, 60, 1, 0, .rw, .retained⟩

/-! RAIL_PROT, 0x4a00 -/
def RAIL_PROT_HICCUP_N (n : Nat) : Fld := ⟨0x4a00 + 8*n, 0, 8, 0x40, .rw, .retained⟩
def RAIL_PROT_HICCUP_OFF (n : Nat) : Fld := ⟨0x4a00 + 8*n, 8, 16, 0x2710, .rw, .retained⟩
def RAIL_PROT_HICCUP_MAXR (n : Nat) : Fld := ⟨0x4a00 + 8*n, 24, 8, 8, .rw, .retained⟩
def RAIL_PROT_OV_OFS (n : Nat) : Fld := ⟨0x4a00 + 8*n, 32, 8, 0x50, .rw, .retained⟩
def RAIL_PROT_UV_OFS (n : Nat) : Fld := ⟨0x4a00 + 8*n, 40, 8, 0x32, .rw, .retained⟩
def RAIL_PROT_DIEMASK (n : Nat) : Fld := ⟨0x4a00 + 8*n, 48, 8, 0, .rw, .retained⟩

/-! RAIL_PSTAT, 0x4a80 -/
def RAIL_PSTAT_N_USABLE (n : Nat) : Fld := ⟨0x4a80 + 8*n, 0, 5, 0, .ro, .never⟩
def RAIL_PSTAT_N_USE (n : Nat) : Fld := ⟨0x4a80 + 8*n, 5, 5, 0, .ro, .never⟩
def RAIL_PSTAT_NF (n : Nat) : Fld := ⟨0x4a80 + 8*n, 10, 5, 0, .ro, .never⟩
def RAIL_PSTAT_GRACE (n : Nat) : Fld := ⟨0x4a80 + 8*n, 15, 1, 0, .ro, .never⟩
def RAIL_PSTAT_HC (n : Nat) : Fld := ⟨0x4a80 + 8*n, 16, 8, 0, .ro, .never⟩
def RAIL_PSTAT_HR (n : Nat) : Fld := ⟨0x4a80 + 8*n, 24, 8, 0, .ro, .never⟩
def RAIL_PSTAT_ILIM_RAIL (n : Nat) : Fld := ⟨0x4a80 + 8*n, 32, 16, 0, .ro, .never⟩
def RAIL_PSTAT_FCAUSE (n : Nat) : Fld := ⟨0x4a80 + 8*n, 48, 3, 0, .ro, .never⟩
def RAIL_PSTAT_OV (n : Nat) : Fld := ⟨0x4a80 + 8*n, 51, 1, 0, .w1c, .never⟩
def RAIL_PSTAT_UV (n : Nat) : Fld := ⟨0x4a80 + 8*n, 52, 1, 0, .w1c, .never⟩
def RAIL_PSTAT_LIM_SEEN (n : Nat) : Fld := ⟨0x4a80 + 8*n, 53, 1, 0, .w1c, .never⟩
def RAIL_PSTAT_HIC_SEEN (n : Nat) : Fld := ⟨0x4a80 + 8*n, 54, 1, 0, .w1c, .never⟩

/-! RAIL_IMB, 0x4b00 -/
def RAIL_IMB_IMB_PCT (n : Nat) : Fld := ⟨0x4b00 + 8*n, 0, 6, 8, .rw, .retained⟩
def RAIL_IMB_IMB_DWELL (n : Nat) : Fld := ⟨0x4b00 + 8*n, 8, 8, 0x20, .rw, .retained⟩
def RAIL_IMB_IMB_MIN (n : Nat) : Fld := ⟨0x4b00 + 8*n, 16, 16, 0x140, .rw, .retained⟩
def RAIL_IMB_OPEN_FRAC (n : Nat) : Fld := ⟨0x4b00 + 8*n, 32, 4, 4, .rw, .retained⟩
def RAIL_IMB_OPEN_MIN (n : Nat) : Fld := ⟨0x4b00 + 8*n, 48, 16, 0xa0, .rw, .retained⟩

/-! VIN_PROT, 0x4b80 -/
def VIN_PROT_VIN_DWELL : Fld := ⟨0x4b80, 0, 16, 0x64, .rw, .retained⟩
def VIN_PROT_VIN_UVLO : Fld := ⟨0x4b80, 16, 12, 0x3e8, .rw, .retained⟩
def VIN_PROT_VIN : Fld := ⟨0x4b80, 32, 12, 0, .ro, .never⟩
def VIN_PROT_VIN_OUT : Fld := ⟨0x4b80, 48, 1, 0, .w1c, .never⟩
def VIN_PROT_UVLO : Fld := ⟨0x4b80, 49, 1, 0, .w1c, .never⟩

/-! RAIL_SEQ, 0x4c00 -/
def RAIL_SEQ_EN (n : Nat) : Fld := ⟨0x4c00 + 8*n, 0, 1, 0, .rw, .retained⟩
def RAIL_SEQ_GROUP (n : Nat) : Fld := ⟨0x4c00 + 8*n, 1, 4, 0, .rw, .retained⟩
def RAIL_SEQ_MODE (n : Nat) : Fld := ⟨0x4c00 + 8*n, 5, 2, 0, .rw, .retained⟩
def RAIL_SEQ_SRC (n : Nat) : Fld := ⟨0x4c00 + 8*n, 7, 4, 0, .rw, .retained⟩
def RAIL_SEQ_RAMP (n : Nat) : Fld := ⟨0x4c00 + 8*n, 11, 16, 0x3e8, .rw, .retained⟩
def RAIL_SEQ_DLY (n : Nat) : Fld := ⟨0x4c00 + 8*n, 27, 16, 0, .rw, .retained⟩
def RAIL_SEQ_PG_WIN (n : Nat) : Fld := ⟨0x4c00 + 8*n, 43, 5, 4, .rw, .retained⟩
def RAIL_SEQ_PG_TO (n : Nat) : Fld := ⟨0x4c00 + 8*n, 48, 16, 0x3e8, .rw, .retained⟩

/-! RAIL_PLAUS, 0x4c80 -/
def RAIL_PLAUS_C_MIN (n : Nat) : Fld := ⟨0x4c80 + 8*n, 0, 16, 0, .rw, .retained⟩
def RAIL_PLAUS_C_MAX (n : Nat) : Fld := ⟨0x4c80 + 8*n, 16, 16, 0xffff, .rw, .retained⟩
def RAIL_PLAUS_ESR_MAX (n : Nat) : Fld := ⟨0x4c80 + 8*n, 32, 16, 0xffff, .rw, .retained⟩
def RAIL_PLAUS_PROBE_DD (n : Nat) : Fld := ⟨0x4c80 + 8*n, 48, 16, 0x290, .rw, .retained⟩

/-! RAIL_PROBE, 0x4d00 -/
def RAIL_PROBE_C_EST (n : Nat) : Fld := ⟨0x4d00 + 8*n, 0, 16, 0, .ro, .never⟩
def RAIL_PROBE_ESR_EST (n : Nat) : Fld := ⟨0x4d00 + 8*n, 16, 16, 0, .ro, .never⟩
def RAIL_PROBE_CSET (n : Nat) : Fld := ⟨0x4d00 + 8*n, 32, 2, 0, .ro, .never⟩
def RAIL_PROBE_STAT (n : Nat) : Fld := ⟨0x4d00 + 8*n, 34, 3, 0, .ro, .never⟩
def RAIL_PROBE_ABORTS (n : Nat) : Fld := ⟨0x4d00 + 8*n, 40, 4, 0, .ro, .never⟩

/-! RAIL_COEF_LO, 0x5000 -/
def RAIL_COEF_LO_B0 (n c s : Nat) : Fld := ⟨0x5000 + 256*n + 64*c + 16*s, 0, 16, 0, .rw, .retained⟩
def RAIL_COEF_LO_B1 (n c s : Nat) : Fld := ⟨0x5000 + 256*n + 64*c + 16*s, 16, 16, 0, .rw, .retained⟩
def RAIL_COEF_LO_B2 (n c s : Nat) : Fld := ⟨0x5000 + 256*n + 64*c + 16*s, 32, 16, 0, .rw, .retained⟩
def RAIL_COEF_LO_A1 (n c s : Nat) : Fld := ⟨0x5000 + 256*n + 64*c + 16*s, 48, 16, 0, .rw, .retained⟩

/-! RAIL_COEF_HI, 0x5008 -/
def RAIL_COEF_HI_A2 (n c s : Nat) : Fld := ⟨0x5008 + 256*n + 64*c + 16*s, 0, 16, 0, .rw, .retained⟩
def RAIL_COEF_HI_SHIFT (n c s : Nat) : Fld := ⟨0x5008 + 256*n + 64*c + 16*s, 16, 2, 0, .rw, .retained⟩
def RAIL_COEF_HI_EN (n c s : Nat) : Fld := ⟨0x5008 + 256*n + 64*c + 16*s, 18, 1, 0, .rw, .retained⟩

/-! PH_STAT, 0x8000 -/
def PH_STAT_STATE (p : Nat) : Fld := ⟨0x8000 + 8*p, 0, 3, 0, .ro, .never⟩
def PH_STAT_CAUSE (p : Nat) : Fld := ⟨0x8000 + 8*p, 3, 3, 0, .ro, .never⟩
def PH_STAT_PFLT (p : Nat) : Fld := ⟨0x8000 + 8*p, 6, 1, 0, .ro, .never⟩
def PH_STAT_IMB (p : Nat) : Fld := ⟨0x8000 + 8*p, 7, 1, 0, .ro, .never⟩
def PH_STAT_IMB_SEEN (p : Nat) : Fld := ⟨0x8000 + 8*p, 8, 1, 0, .w1c, .never⟩
def PH_STAT_LIM_SEEN (p : Nat) : Fld := ⟨0x8000 + 8*p, 9, 1, 0, .w1c, .never⟩
def PH_STAT_IMEAN (p : Nat) : Fld := ⟨0x8000 + 8*p, 16, 16, 0, .ro, .never⟩
def PH_STAT_CUTS (p : Nat) : Fld := ⟨0x8000 + 8*p, 32, 8, 0, .rc, .never⟩
def PH_STAT_IMBCNT (p : Nat) : Fld := ⟨0x8000 + 8*p, 40, 8, 0, .rc, .never⟩

/-! PH_ID, 0x8c00 -/
def PH_ID_ID_V (p : Nat) : Fld := ⟨0x8c00 + 8*p, 0, 12, 0, .ro, .never⟩
def PH_ID_CODE (p : Nat) : Fld := ⟨0x8c00 + 8*p, 12, 3, 0, .ro, .never⟩
def PH_ID_RESULT (p : Nat) : Fld := ⟨0x8c00 + 8*p, 15, 3, 0, .ro, .never⟩
def PH_ID_RAIL (p : Nat) : Fld := ⟨0x8c00 + 8*p, 18, 4, 0, .ro, .never⟩
def PH_ID_MIXED (p : Nat) : Fld := ⟨0x8c00 + 8*p, 22, 1, 0, .ro, .never⟩

/-! DMD_CTL, 0xa000 -/
def DMD_CTL_AGE : Fld := ⟨0xa000, 0, 16, 0x64, .rw, .retained⟩
def DMD_CTL_HZ_EN : Fld := ⟨0xa000, 16, 1, 1, .rw, .retained⟩
def DMD_CTL_OVER_GAP : Fld := ⟨0xa000, 32, 16, 0x3e8, .rw, .retained⟩

/-! DMD_STAT, 0xa008 -/
def DMD_STAT_NGRANT : Fld := ⟨0xa008, 0, 16, 0, .ro, .never⟩
def DMD_STAT_NHELD : Fld := ⟨0xa008, 16, 16, 0, .ro, .never⟩
def DMD_STAT_BACKLOG : Fld := ⟨0xa008, 32, 15, 0, .ro, .never⟩
def DMD_STAT_LAG : Fld := ⟨0xa008, 47, 1, 0, .ro, .never⟩
def DMD_STAT_OVER_SEEN : Fld := ⟨0xa008, 48, 1, 0, .w1c, .never⟩
def DMD_STAT_PROTO_SEEN : Fld := ⟨0xa008, 49, 1, 0, .w1c, .never⟩
def DMD_STAT_DRAINING : Fld := ⟨0xa008, 50, 1, 0, .ro, .never⟩
def DMD_STAT_NWAIT : Fld := ⟨0xa008, 51, 9, 0, .ro, .never⟩

/-! DMD_CNT, 0xa040 -/
def DMD_CNT_COUNT (k : Nat) : Fld := ⟨0xa040 + 8*k, 0, 48, 0, .ro, .never⟩

/-! DMD_RAIL, 0xa100 -/
def DMD_RAIL_DIE (n : Nat) : Fld := ⟨0xa100 + 8*n, 0, 4, 0xf, .rw, .retained⟩
def DMD_RAIL_NFW (n : Nat) : Fld := ⟨0xa100 + 8*n, 4, 6, 0x10, .rw, .retained⟩

/-! DMD_RSTAT, 0xa180 -/
def DMD_RSTAT_LIM (n : Nat) : Fld := ⟨0xa180 + 8*n, 0, 16, 0, .ro, .never⟩
def DMD_RSTAT_PK (n : Nat) : Fld := ⟨0xa180 + 8*n, 16, 16, 0, .ro, .never⟩
def DMD_RSTAT_HNOW (n : Nat) : Fld := ⟨0xa180 + 8*n, 32, 16, 0, .ro, .never⟩
def DMD_RSTAT_NF (n : Nat) : Fld := ⟨0xa180 + 8*n, 48, 5, 0, .ro, .never⟩
def DMD_RSTAT_VALID (n : Nat) : Fld := ⟨0xa180 + 8*n, 53, 1, 0, .ro, .never⟩

/-! DMD_DIE, 0xa200 -/
def DMD_DIE_CEIL (d : Nat) : Fld := ⟨0xa200 + 8*d, 0, 16, 0, .ro, .never⟩
def DMD_DIE_PRED (d : Nat) : Fld := ⟨0xa200 + 8*d, 16, 16, 0, .ro, .never⟩
def DMD_DIE_TLVL (d : Nat) : Fld := ⟨0xa200 + 8*d, 32, 3, 0, .ro, .never⟩

/-! DMD_PART, 0xa240 -/
def DMD_PART_BUD (q : Nat) : Fld := ⟨0xa240 + 8*q, 0, 16, 0, .ro, .never⟩
def DMD_PART_USE (q : Nat) : Fld := ⟨0xa240 + 8*q, 16, 16, 0, .ro, .never⟩

/-! DMD_MOD, 0xa2c0 -/
def DMD_MOD_CAP : Fld := ⟨0xa2c0, 0, 16, 0, .ro, .never⟩
def DMD_MOD_PRED : Fld := ⟨0xa2c0, 16, 16, 0, .ro, .never⟩
def DMD_MOD_RSV : Fld := ⟨0xa2c0, 32, 6, 0, .ro, .never⟩

/-! DMD_HUB, 0xa300 -/
def DMD_HUB_OPEN (d : Nat) : Fld := ⟨0xa300 + 8*d, 0, 1, 0, .ro, .never⟩
def DMD_HUB_QFULL (d : Nat) : Fld := ⟨0xa300 + 8*d, 1, 4, 0, .ro, .never⟩
def DMD_HUB_DFULL (d : Nat) : Fld := ⟨0xa300 + 8*d, 5, 1, 0, .ro, .never⟩
def DMD_HUB_OUT (d : Nat) : Fld := ⟨0xa300 + 8*d, 16, 16, 0, .ro, .never⟩

/-! TH_CTL, 0xc000 -/
def TH_CTL_CHAT_MAX : Fld := ⟨0xc000, 0, 8, 4, .rw, .retained⟩
def TH_CTL_CHAT_WIN : Fld := ⟨0xc000, 8, 16, 0x3e8, .rw, .retained⟩
def TH_CTL_RCLAMP : Fld := ⟨0xc000, 24, 8, 0x10, .rw, .retained⟩
def TH_CTL_FT_AUTO : Fld := ⟨0xc000, 32, 1, 0, .rw, .retained⟩
def TH_CTL_FT_DERATE : Fld := ⟨0xc000, 33, 6, 0x10, .rw, .retained⟩
def TH_CTL_FAST : Fld := ⟨0xc000, 39, 1, 0, .rw, .retained⟩

/-! TH_STAT, 0xc008 -/
def TH_STAT_LOADED : Fld := ⟨0xc008, 0, 1, 0, .ro, .never⟩
def TH_STAT_RATE : Fld := ⟨0xc008, 1, 2, 0, .ro, .never⟩
def TH_STAT_NODES : Fld := ⟨0xc008, 3, 10, 0, .ro, .never⟩
def TH_STAT_ANY_WARN : Fld := ⟨0xc008, 13, 1, 0, .ro, .never⟩
def TH_STAT_ANY_THR : Fld := ⟨0xc008, 14, 1, 0, .ro, .never⟩
def TH_STAT_ANY_CRIT : Fld := ⟨0xc008, 15, 1, 0, .ro, .never⟩
def TH_STAT_ANY_SHUT : Fld := ⟨0xc008, 16, 1, 0, .ro, .never⟩
def TH_STAT_SAT : Fld := ⟨0xc008, 17, 1, 0, .w1c, .never⟩
def TH_STAT_DISAGREE : Fld := ⟨0xc008, 18, 1, 0, .w1c, .never⟩
def TH_STAT_HOTNODE : Fld := ⟨0xc008, 19, 9, 0, .ro, .never⟩
def TH_STAT_HOT_T : Fld := ⟨0xc008, 32, 16, 0, .ro, .never⟩
def TH_STAT_HOT_D : Fld := ⟨0xc008, 48, 16, 0, .ro, .never⟩

/-! TH_UPD, 0xc010 -/
def TH_UPD_SEQ : Fld := ⟨0xc010, 0, 32, 0, .ro, .never⟩
def TH_UPD_M : Fld := ⟨0xc010, 32, 5, 0, .ro, .never⟩

/-! TH_UPDT, 0xc018 -/
def TH_UPDT_GTIME : Fld := ⟨0xc018, 0, 64, 0, .ro, .never⟩

/-! TH_DIE, 0xc040 -/
def TH_DIE_CNOM (d : Nat) : Fld := ⟨0xc040 + 8*d, 0, 16, 0xffff, .rw, .retained⟩
def TH_DIE_CTHR (d : Nat) : Fld := ⟨0xc040 + 8*d, 16, 16, 0xffff, .rw, .retained⟩
def TH_DIE_CCRIT (d : Nat) : Fld := ⟨0xc040 + 8*d, 32, 16, 0xffff, .rw, .retained⟩
def TH_DIE_LEVEL (d : Nat) : Fld := ⟨0xc040 + 8*d, 48, 3, 0, .ro, .never⟩
def TH_DIE_BLIND (d : Nat) : Fld := ⟨0xc040 + 8*d, 51, 1, 0, .ro, .never⟩
def TH_DIE_MARGIN (d : Nat) : Fld := ⟨0xc040 + 8*d, 52, 12, 0x7ff, .ro, .never⟩

/-! TH_DIODE, 0xc100 -/
def TH_DIODE_NODE (k : Nat) : Fld := ⟨0xc100 + 8*k, 0, 9, 0, .rw, .retained⟩
def TH_DIODE_EN (k : Nat) : Fld := ⟨0xc100 + 8*k, 9, 1, 0, .rw, .retained⟩
def TH_DIODE_KC (k : Nat) : Fld := ⟨0xc100 + 8*k, 16, 16, 0x2000, .rw, .retained⟩
def TH_DIODE_RMAX (k : Nat) : Fld := ⟨0xc100 + 8*k, 32, 8, 0x28, .rw, .retained⟩
def TH_DIODE_DISAGREE (k : Nat) : Fld := ⟨0xc100 + 8*k, 40, 1, 0, .ro, .never⟩

/-! FT_CFG, 0xc200 -/
def FT_CFG_TRIP : Fld := ⟨0xc200, 0, 16, 0x3700, .rw, .retained⟩
def FT_CFG_RESTART : Fld := ⟨0xc200, 16, 16, 0x2800, .rw, .retained⟩
def FT_CFG_MIN_OFF : Fld := ⟨0xc200, 32, 10, 0x64, .rw, .retained⟩
def FT_CFG_LOCK : Fld := ⟨0xc200, 42, 1, 0, .rw, .retained⟩

/-! FT_ACT, 0xc208 -/
def FT_ACT_TRIP : Fld := ⟨0xc208, 0, 16, 0x3700, .ro, .alwaysOn⟩
def FT_ACT_RESTART : Fld := ⟨0xc208, 16, 16, 0x2800, .ro, .alwaysOn⟩
def FT_ACT_MIN_OFF : Fld := ⟨0xc208, 32, 10, 0x64, .ro, .alwaysOn⟩
def FT_ACT_LOCK : Fld := ⟨0xc208, 42, 1, 0, .ro, .alwaysOn⟩

/-! FT_STAT, 0xc210 -/
def FT_STAT_TRIPPED : Fld := ⟨0xc210, 0, 1, 0, .ro, .alwaysOn⟩
def FT_STAT_LATCHED : Fld := ⟨0xc210, 1, 1, 0, .ro, .alwaysOn⟩
def FT_STAT_DERATE : Fld := ⟨0xc210, 2, 1, 0, .ro, .alwaysOn⟩
def FT_STAT_TRIPS : Fld := ⟨0xc210, 3, 2, 0, .ro, .alwaysOn⟩
def FT_STAT_PEND : Fld := ⟨0xc210, 5, 1, 0, .ro, .alwaysOn⟩
def FT_STAT_CFG_REJ : Fld := ⟨0xc210, 6, 1, 0, .w1c, .alwaysOn⟩
def FT_STAT_BLIND : Fld := ⟨0xc210, 8, 8, 0, .ro, .alwaysOn⟩
def FT_STAT_EXCL : Fld := ⟨0xc210, 16, 32, 0, .ro, .alwaysOn⟩
def FT_STAT_TRIP_DIODE : Fld := ⟨0xc210, 48, 5, 0, .ro, .alwaysOn⟩
def FT_STAT_TRIPS_TOTAL : Fld := ⟨0xc210, 53, 11, 0, .ro, .alwaysOn⟩

/-! FT_DSTAT, 0xc300 -/
def FT_DSTAT_TEMP (k : Nat) : Fld := ⟨0xc300 + 8*k, 0, 16, 0, .ro, .alwaysOn⟩
def FT_DSTAT_FLT (k : Nat) : Fld := ⟨0xc300 + 8*k, 16, 1, 0, .ro, .alwaysOn⟩
def FT_DSTAT_EXCL (k : Nat) : Fld := ⟨0xc300 + 8*k, 17, 1, 0, .ro, .alwaysOn⟩
def FT_DSTAT_SCANS (k : Nat) : Fld := ⟨0xc300 + 8*k, 32, 32, 0, .ro, .alwaysOn⟩

/-! FT_DTRIM, 0xc400 -/
def FT_DTRIM_IDEAL (k : Nat) : Fld := ⟨0xc400 + 8*k, 0, 12, 0x83, .rw, .retained⟩
def FT_DTRIM_OFS (k : Nat) : Fld := ⟨0xc400 + 8*k, 16, 12, 0, .rw, .retained⟩

/-! BUD_MODCAP, 0xe000 -/
def BUD_MODCAP_LOCAL : Fld := ⟨0xe000, 0, 16, 0x2580, .rw, .retained⟩
def BUD_MODCAP_MAX : Fld := ⟨0xe000, 16, 16, 0x4b00, .rw, .retained⟩
def BUD_MODCAP_RSV : Fld := ⟨0xe000, 32, 6, 4, .rw, .retained⟩

/-! BUD_RAIL, 0xe040 -/
def BUD_RAIL_LIM (n : Nat) : Fld := ⟨0xe040 + 8*n, 0, 16, 0xffff, .rw, .retained⟩

/-! BUD_PART, 0xe0c0 -/
def BUD_PART_SHARE (q : Nat) : Fld := ⟨0xe0c0 + 8*q, 0, 9, 0x100, .rw, .retained⟩

/-! HR_CTL, 0xe200 -/
def HR_CTL_HOLD : Fld := ⟨0xe200, 0, 16, 0x3e8, .rw, .retained⟩

/-! HR_STAT, 0xe208 -/
def HR_STAT_EP_CUR : Fld := ⟨0xe208, 0, 16, 0, .ro, .never⟩
def HR_STAT_EP_NEXT : Fld := ⟨0xe208, 16, 16, 0, .ro, .never⟩
def HR_STAT_PENDING : Fld := ⟨0xe208, 32, 1, 0, .ro, .never⟩
def HR_STAT_ROOT : Fld := ⟨0xe208, 33, 1, 0, .ro, .never⟩
def HR_STAT_JOINED : Fld := ⟨0xe208, 34, 1, 0, .ro, .never⟩
def HR_STAT_ORPHAN : Fld := ⟨0xe208, 35, 1, 0, .ro, .never⟩
def HR_STAT_DEPTH : Fld := ⟨0xe208, 36, 3, 7, .ro, .never⟩
def HR_STAT_LATE : Fld := ⟨0xe208, 39, 1, 0, .w1c, .never⟩
def HR_STAT_FB_SHORT : Fld := ⟨0xe208, 40, 1, 0, .w1c, .never⟩
def HR_STAT_SYNC_ERR : Fld := ⟨0xe208, 41, 1, 0, .w1c, .never⟩
def HR_STAT_REFUSED : Fld := ⟨0xe208, 42, 1, 0, .w1c, .never⟩
def HR_STAT_SUBN : Fld := ⟨0xe208, 48, 16, 0, .ro, .never⟩

/-! HR_EPOCH, 0xe210 -/
def HR_EPOCH_HALL_CAP : Fld := ⟨0xe210, 0, 32, 0, .rw, .retained⟩
def HR_EPOCH_PER : Fld := ⟨0xe210, 32, 16, 0x3e8, .rw, .retained⟩
def HR_EPOCH_LEAD : Fld := ⟨0xe210, 48, 10, 0xc8, .rw, .retained⟩
def HR_EPOCH_NOW : Fld := ⟨0xe210, 58, 1, 0, .wo, .never⟩

/-! HR_NEXT, 0xe218 -/
def HR_NEXT_EP_TIME : Fld := ⟨0xe218, 0, 64, 0, .ro, .never⟩

/-! HR_TIME, 0xe220 -/
def HR_TIME_THETA : Fld := ⟨0xe220, 0, 24, 0, .ro, .never⟩
def HR_TIME_F : Fld := ⟨0xe220, 24, 24, 0, .ro, .never⟩

/-! HR_LINK, 0xe300 -/
def HR_LINK_TXLAT (k : Nat) : Fld := ⟨0xe300 + 8*k, 0, 12, 0, .rw, .retained⟩
def HR_LINK_RXLAT (k : Nat) : Fld := ⟨0xe300 + 8*k, 12, 12, 0, .rw, .retained⟩
def HR_LINK_RTT (k : Nat) : Fld := ⟨0xe300 + 8*k, 24, 24, 0, .ro, .never⟩
def HR_LINK_EN (k : Nat) : Fld := ⟨0xe300 + 8*k, 48, 1, 1, .rw, .retained⟩
def HR_LINK_FORGET (k : Nat) : Fld := ⟨0xe300 + 8*k, 49, 1, 0, .wo, .never⟩

/-! HR_LSTAT, 0xe380 -/
def HR_LSTAT_STATE (k : Nat) : Fld := ⟨0xe380 + 8*k, 0, 3, 0, .ro, .never⟩
def HR_LSTAT_REASON (k : Nat) : Fld := ⟨0xe380 + 8*k, 3, 4, 0, .ro, .never⟩
def HR_LSTAT_SKIP (k : Nat) : Fld := ⟨0xe380 + 8*k, 8, 8, 0, .rc, .never⟩
def HR_LSTAT_BAD (k : Nat) : Fld := ⟨0xe380 + 8*k, 16, 8, 0, .rc, .never⟩
def HR_LSTAT_LOSS (k : Nat) : Fld := ⟨0xe380 + 8*k, 24, 8, 0, .rc, .never⟩
def HR_LSTAT_PSUBN (k : Nat) : Fld := ⟨0xe380 + 8*k, 32, 16, 0, .ro, .never⟩
def HR_LSTAT_PHT (k : Nat) : Fld := ⟨0xe380 + 8*k, 48, 3, 0, .ro, .never⟩

/-! HR_CREP, 0xe400 -/
def HR_CREP_DEM (k : Nat) : Fld := ⟨0xe400 + 8*k, 0, 32, 0, .ro, .never⟩
def HR_CREP_FLOOR (k : Nat) : Fld := ⟨0xe400 + 8*k, 32, 32, 0, .ro, .never⟩

/-! HR_CALLOC, 0xe480 -/
def HR_CALLOC_CUR (k : Nat) : Fld := ⟨0xe480 + 8*k, 0, 32, 0, .ro, .never⟩
def HR_CALLOC_NEXT (k : Nat) : Fld := ⟨0xe480 + 8*k, 32, 32, 0, .ro, .never⟩

/-! PL_CTL, 0x10000 -/
def PL_CTL_MIGQ : Fld := ⟨0x10000, 0, 16, 0x400, .rw, .retained⟩
def PL_CTL_T2EN : Fld := ⟨0x10000, 16, 1, 0, .rw, .retained⟩

/-! PL_POLICY, 0x10008 -/
def PL_POLICY_WT : Fld := ⟨0x10008, 0, 8, 4, .rw, .retained⟩
def PL_POLICY_WE : Fld := ⟨0x10008, 8, 8, 4, .rw, .retained⟩
def PL_POLICY_WM : Fld := ⟨0x10008, 16, 8, 2, .rw, .retained⟩
def PL_POLICY_WF : Fld := ⟨0x10008, 24, 8, 1, .rw, .retained⟩
def PL_POLICY_TREF : Fld := ⟨0x10008, 32, 16, 0x50, .rw, .retained⟩
def PL_POLICY_EREF : Fld := ⟨0x10008, 48, 16, 0x640, .rw, .retained⟩

/-! PL_STAT, 0x10010 -/
def PL_STAT_STATE : Fld := ⟨0x10010, 0, 2, 0, .ro, .never⟩
def PL_STAT_FETCH_ERR : Fld := ⟨0x10010, 2, 1, 0, .w1c, .never⟩
def PL_STAT_REPLY_ERR : Fld := ⟨0x10010, 3, 1, 0, .w1c, .never⟩
def PL_STAT_LIVE : Fld := ⟨0x10010, 4, 11, 0, .ro, .never⟩
def PL_STAT_REFUSED : Fld := ⟨0x10010, 15, 1, 0, .w1c, .never⟩
def PL_STAT_PLIM : Fld := ⟨0x10010, 16, 21, 0x100000, .ro, .never⟩
def PL_STAT_FREEP : Fld := ⟨0x10010, 37, 21, 0x100000, .ro, .never⟩

/-! PL_LAST, 0x10018 -/
def PL_LAST_STEP : Fld := ⟨0x10018, 0, 32, 0, .ro, .never⟩
def PL_LAST_STATUS : Fld := ⟨0x10018, 32, 8, 0, .ro, .never⟩
def PL_LAST_APPLIED : Fld := ⟨0x10018, 40, 1, 0, .ro, .never⟩

/-! PL_SPILL, 0x10020 -/
def PL_SPILL_SPILLQ : Fld := ⟨0x10020, 0, 16, 0x100, .rw, .retained⟩
def PL_SPILL_SPILL_EN : Fld := ⟨0x10020, 16, 1, 1, .rw, .retained⟩

/-! PL_ORD, 0x10028 -/
def PL_ORD_OUT : Fld := ⟨0x10028, 0, 13, 0, .ro, .never⟩
def PL_ORD_NEXT_ID : Fld := ⟨0x10028, 16, 16, 0, .ro, .never⟩
def PL_ORD_WOFF : Fld := ⟨0x10028, 32, 13, 0, .ro, .never⟩
def PL_ORD_FULL : Fld := ⟨0x10028, 45, 1, 0, .ro, .never⟩
def PL_ORD_TIMEOUT : Fld := ⟨0x10028, 46, 1, 0, .w1c, .never⟩
def PL_ORD_PROTO : Fld := ⟨0x10028, 47, 1, 0, .w1c, .never⟩

/-! PL_TD, 0x10030 -/
def PL_TD_ORD_TO : Fld := ⟨0x10030, 0, 16, 0x2710, .rw, .retained⟩
def PL_TD_NTD : Fld := ⟨0x10030, 16, 13, 0, .ro, .never⟩
def PL_TD_LATE : Fld := ⟨0x10030, 32, 16, 0, .rc, .never⟩

/-! PL_CNT, 0x10080 -/
def PL_CNT_COUNT (k : Nat) : Fld := ⟨0x10080 + 8*k, 0, 48, 0, .ro, .never⟩

/-! PL_T0, 0x10100 -/
def PL_T0_FRAMES (d : Nat) : Fld := ⟨0x10100 + 8*d, 0, 18, 0, .rw, .retained⟩
def PL_T0_USED (d : Nat) : Fld := ⟨0x10100 + 8*d, 24, 18, 0, .ro, .never⟩

/-! PL_STACK, 0x10200 -/
def PL_STACK_FRAMES (k : Nat) : Fld := ⟨0x10200 + 8*k, 0, 18, 0, .rw, .retained⟩
def PL_STACK_DIE (k : Nat) : Fld := ⟨0x10200 + 8*k, 18, 4, 8, .rw, .retained⟩
def PL_STACK_USED (k : Nat) : Fld := ⟨0x10200 + 8*k, 24, 18, 0, .ro, .never⟩

/-! PL_PEER, 0x10300 -/
def PL_PEER_EN (k : Nat) : Fld := ⟨0x10300 + 8*k, 0, 1, 0, .rw, .retained⟩
def PL_PEER_LINK (k : Nat) : Fld := ⟨0x10300 + 8*k, 1, 4, 0xf, .rw, .retained⟩
def PL_PEER_FRAMES (k : Nat) : Fld := ⟨0x10300 + 8*k, 5, 18, 0, .rw, .retained⟩
def PL_PEER_USED (k : Nat) : Fld := ⟨0x10300 + 8*k, 23, 18, 0, .ro, .never⟩
def PL_PEER_UNREACH (k : Nat) : Fld := ⟨0x10300 + 8*k, 41, 1, 0, .ro, .never⟩
def PL_PEER_PATH (k : Nat) : Fld := ⟨0x10300 + 8*k, 42, 20, 0, .rw, .retained⟩

/-! PL_TPART, 0x10400 -/
def PL_TPART_PART (k j : Nat) : Fld := ⟨0x10400 + 8*k, 4*j, 4, 0, .rw, .retained⟩

/-! PL_DIE, 0x10500 -/
def PL_DIE_SHARDS (d : Nat) : Fld := ⟨0x10500 + 8*d, 0, 8, 0, .ro, .never⟩
def PL_DIE_AVAIL (d : Nat) : Fld := ⟨0x10500 + 8*d, 8, 7, 0, .ro, .never⟩
def PL_DIE_HE (d : Nat) : Fld := ⟨0x10500 + 8*d, 16, 16, 0, .ro, .never⟩
def PL_DIE_NT (d : Nat) : Fld := ⟨0x10500 + 8*d, 32, 11, 0, .ro, .never⟩
def PL_DIE_NF (d : Nat) : Fld := ⟨0x10500 + 8*d, 43, 11, 0, .ro, .never⟩

/-! REFSEL, 0x12000 -/
def REFSEL_SRC : Fld := ⟨0x12000, 0, 3, 4, .rw, .never⟩
def REFSEL_AUTO : Fld := ⟨0x12000, 3, 1, 0, .rw, .never⟩
def REFSEL_PREF : Fld := ⟨0x12000, 4, 2, 0, .rw, .never⟩

/-! REF_STAT, 0x12008 -/
def REF_STAT_REF_RDY : Fld := ⟨0x12008, 0, 5, 0, .ro, .never⟩
def REF_STAT_CUR : Fld := ⟨0x12008, 5, 3, 4, .ro, .never⟩
def REF_STAT_SWITCHING : Fld := ⟨0x12008, 8, 1, 0, .ro, .never⟩
def REF_STAT_LOCK : Fld := ⟨0x12008, 9, 1, 0, .ro, .never⟩
def REF_STAT_HOLDOVER : Fld := ⟨0x12008, 10, 1, 0, .ro, .never⟩
def REF_STAT_FORCED : Fld := ⟨0x12008, 11, 1, 0, .w1c, .never⟩
def REF_STAT_REFUSED : Fld := ⟨0x12008, 12, 1, 0, .w1c, .never⟩
def REF_STAT_LOST : Fld := ⟨0x12008, 13, 1, 0, .w1c, .never⟩

/-! XO_CTL, 0x12010 -/
def XO_CTL_XO_DLY : Fld := ⟨0x12010, 0, 4, 0xf, .rw, .alwaysOn⟩

/-! CLKOUT_CTL, 0x12018 -/
def CLKOUT_CTL_SRC : Fld := ⟨0x12018, 0, 4, 0, .rw, .never⟩
def CLKOUT_CTL_SLICE : Fld := ⟨0x12018, 4, 4, 0, .rw, .never⟩
def CLKOUT_CTL_DIV : Fld := ⟨0x12018, 8, 8, 0, .rw, .never⟩
def CLKOUT_CTL_EN : Fld := ⟨0x12018, 16, 1, 0, .rw, .never⟩

/-! CLKGATE_CTL, 0x12020 -/
def CLKGATE_CTL_DIS : Fld := ⟨0x12020, 0, 16, 0, .rw, .never⟩

/-! GTIME_LO, 0x12040 -/
def GTIME_LO_GTIME : Fld := ⟨0x12040, 0, 64, 0, .ro, .never⟩

/-! GTIME_HI, 0x12048 -/
def GTIME_HI_HI_LATCH : Fld := ⟨0x12048, 0, 32, 0, .ro, .never⟩

/-! GTIME_STAT, 0x12050 -/
def GTIME_STAT_ALIGNED : Fld := ⟨0x12050, 0, 1, 0, .ro, .never⟩
def GTIME_STAT_STEPPED : Fld := ⟨0x12050, 1, 1, 0, .w1c, .never⟩
def GTIME_STAT_TRIM : Fld := ⟨0x12050, 8, 24, 0, .ro, .never⟩

/-! BRG_CTL, 0x12100 -/
def BRG_CTL_START : Fld := ⟨0x12100, 0, 1, 0, .wo, .never⟩
def BRG_CTL_STOP : Fld := ⟨0x12100, 1, 1, 0, .wo, .never⟩
def BRG_CTL_AUTO : Fld := ⟨0x12100, 2, 1, 0, .rw, .retained⟩
def BRG_CTL_NOPROBE : Fld := ⟨0x12100, 3, 1, 0, .rw, .retained⟩
def BRG_CTL_HR_SKIP : Fld := ⟨0x12100, 4, 1, 0, .rw, .retained⟩
def BRG_CTL_VIN_MIN : Fld := ⟨0x12100, 16, 12, 0x546, .rw, .retained⟩
def BRG_CTL_VIN_MAX : Fld := ⟨0x12100, 28, 12, 0x672, .rw, .retained⟩
def BRG_CTL_PROBE_VMAX : Fld := ⟨0x12100, 40, 8, 8, .rw, .retained⟩

/-! BRG_STAT, 0x12108 -/
def BRG_STAT_STAGE : Fld := ⟨0x12108, 0, 4, 1, .ro, .never⟩
def BRG_STAT_ERR : Fld := ⟨0x12108, 8, 4, 0, .ro, .never⟩
def BRG_STAT_ERR_RAIL : Fld := ⟨0x12108, 12, 4, 0, .ro, .never⟩
def BRG_STAT_REFUSED : Fld := ⟨0x12108, 16, 1, 0, .w1c, .never⟩
def BRG_STAT_CFG_RETAINED : Fld := ⟨0x12108, 17, 1, 0, .ro, .never⟩
def BRG_STAT_UNALIGNED : Fld := ⟨0x12108, 18, 1, 0, .ro, .never⟩

/-! BRG_TIME, 0x12110 -/
def BRG_TIME_VIN_TO : Fld := ⟨0x12110, 0, 16, 0x3e8, .rw, .retained⟩
def BRG_TIME_HR_WAIT : Fld := ⟨0x12110, 16, 16, 0x3e8, .rw, .retained⟩
def BRG_TIME_PD_DRAIN : Fld := ⟨0x12110, 32, 16, 0x3e8, .rw, .retained⟩

/-! ST_CTL, 0x12200 -/
def ST_CTL_RDIV : Fld := ⟨0x12200, 0, 3, 2, .rw, .retained⟩
def ST_CTL_HOLD : Fld := ⟨0x12200, 8, 8, 0x20, .rw, .retained⟩
def ST_CTL_EVT_GAP : Fld := ⟨0x12200, 16, 16, 0x3e8, .rw, .retained⟩

/-! ST_STAT, 0x12208 -/
def ST_STAT_RING_OK : Fld := ⟨0x12208, 0, 8, 0, .ro, .never⟩
def ST_STAT_RING_ERR : Fld := ⟨0x12208, 8, 8, 0, .w1c, .never⟩

/-! ST_THR, 0x12240 -/
def ST_THR_D1 (d : Nat) : Fld := ⟨0x12240 + 8*d, 0, 8, 0x3c, .rw, .retained⟩
def ST_THR_D2 (d : Nat) : Fld := ⟨0x12240 + 8*d, 8, 8, 0x64, .rw, .retained⟩
def ST_THR_S1 (d : Nat) : Fld := ⟨0x12240 + 8*d, 16, 4, 2, .rw, .retained⟩
def ST_THR_S2 (d : Nat) : Fld := ⟨0x12240 + 8*d, 20, 4, 4, .rw, .retained⟩
def ST_THR_HYS (d : Nat) : Fld := ⟨0x12240 + 8*d, 24, 8, 0x14, .rw, .retained⟩
def ST_THR_RAIL (d : Nat) : Fld := ⟨0x12240 + 8*d, 32, 4, 0, .rw, .retained⟩
def ST_THR_MODE (d : Nat) : Fld := ⟨0x12240 + 8*d, 36, 2, 0, .rw, .retained⟩
def ST_THR_TLVL (d : Nat) : Fld := ⟨0x12240 + 8*d, 38, 3, 0, .ro, .never⟩

/-! ST_TILE, 0x13000 -/
def ST_TILE_OFS (t : Nat) : Fld := ⟨0x13000 + 8*t, 0, 8, 0, .rw, .retained⟩
def ST_TILE_HOLD_OFF (t : Nat) : Fld := ⟨0x13000 + 8*t, 8, 1, 0, .rw, .never⟩
def ST_TILE_EN (t : Nat) : Fld := ⟨0x13000 + 8*t, 9, 1, 0, .ro, .never⟩
def ST_TILE_DLVL (t : Nat) : Fld := ⟨0x13000 + 8*t, 10, 2, 0, .ro, .never⟩
def ST_TILE_HACK (t : Nat) : Fld := ⟨0x13000 + 8*t, 12, 2, 0, .ro, .never⟩
def ST_TILE_NOREP (t : Nat) : Fld := ⟨0x13000 + 8*t, 14, 1, 0, .ro, .never⟩
def ST_TILE_GAP (t : Nat) : Fld := ⟨0x13000 + 8*t, 15, 1, 0, .w1c, .never⟩

/-! DW_CTL, 0x14000 -/
def DW_CTL_AUTO : Fld := ⟨0x14000, 0, 1, 1, .rw, .retained⟩
def DW_CTL_MAXSTEP : Fld := ⟨0x14000, 1, 3, 3, .rw, .retained⟩
def DW_CTL_ENG_MAX : Fld := ⟨0x14000, 4, 4, 2, .rw, .retained⟩
def DW_CTL_ENG_WIN : Fld := ⟨0x14000, 8, 16, 0x3e8, .rw, .retained⟩
def DW_CTL_FLAP_MAX : Fld := ⟨0x14000, 24, 8, 8, .rw, .retained⟩

/-! DW_GTO, 0x14008 -/
def DW_GTO_GTO0 : Fld := ⟨0x14008, 0, 16, 0xa, .rw, .retained⟩
def DW_GTO_GTO1 : Fld := ⟨0x14008, 16, 16, 0x32, .rw, .retained⟩
def DW_GTO_GTO2 : Fld := ⟨0x14008, 32, 16, 0x32, .rw, .retained⟩
def DW_GTO_GTO3 : Fld := ⟨0x14008, 48, 16, 0x1f4, .rw, .retained⟩

/-! DW_TO, 0x14010 -/
def DW_TO_DRAIN_TO : Fld := ⟨0x14010, 0, 16, 0xa, .rw, .retained⟩
def DW_TO_PART_TO : Fld := ⟨0x14010, 16, 16, 0x64, .rw, .retained⟩
def DW_TO_CHIP_TO : Fld := ⟨0x14010, 32, 16, 0x1f4, .rw, .retained⟩
def DW_TO_DMA_TO : Fld := ⟨0x14010, 48, 16, 0x2710, .rw, .retained⟩

/-! DW_STAT, 0x14018 -/
def DW_STAT_CAUSE : Fld := ⟨0x14018, 0, 4, 0, .ro, .never⟩
def DW_STAT_STEP : Fld := ⟨0x14018, 4, 3, 7, .ro, .never⟩
def DW_STAT_OBJECT : Fld := ⟨0x14018, 7, 12, 0, .ro, .never⟩
def DW_STAT_ACTIVE : Fld := ⟨0x14018, 19, 1, 0, .ro, .never⟩
def DW_STAT_BLOCKED : Fld := ⟨0x14018, 20, 1, 0, .w1c, .never⟩
def DW_STAT_DETECT : Fld := ⟨0x14018, 32, 16, 0, .ro, .never⟩

/-! DW_LAST, 0x14020 -/
def DW_LAST_GTIME : Fld := ⟨0x14020, 0, 64, 0, .ro, .never⟩

/-! RCV_HOLD, 0x14028 -/
def RCV_HOLD_PART : Fld := ⟨0x14028, 0, 16, 0, .w1c, .never⟩
def RCV_HOLD_CHIP : Fld := ⟨0x14028, 16, 1, 0, .w1c, .never⟩
def RCV_HOLD_REL_PEND : Fld := ⟨0x14028, 32, 16, 0, .ro, .never⟩
def RCV_HOLD_REL_PEND_CHIP : Fld := ⟨0x14028, 48, 1, 0, .ro, .never⟩

/-! RCV_PGEN, 0x14030 -/
def RCV_PGEN_PGEN (j : Nat) : Fld := ⟨0x14030, 4*j, 4, 0, .ro, .never⟩

/-! SVC_CAUSE, 0x14038 -/
def SVC_CAUSE_CAUSE : Fld := ⟨0x14038, 0, 16, 0, .w1c, .alwaysOn⟩

/-! SVC_MASK, 0x14040 -/
def SVC_MASK_MASK : Fld := ⟨0x14040, 0, 16, 0, .rw, .alwaysOn⟩

/-! STORE_RET, 0x14048 -/
def STORE_RET_BANKS : Fld := ⟨0x14048, 0, 48, 0, .ro, .alwaysOn⟩
def STORE_RET_NRET : Fld := ⟨0x14048, 48, 6, 0, .ro, .alwaysOn⟩

/-! STORE_ECC, 0x14050 -/
def STORE_ECC_CE : Fld := ⟨0x14050, 0, 24, 0, .rc, .never⟩
def STORE_ECC_UE : Fld := ⟨0x14050, 24, 8, 0, .rc, .never⟩
def STORE_ECC_LAST_BANK : Fld := ⟨0x14050, 32, 6, 0, .ro, .never⟩
def STORE_ECC_CE_MAX : Fld := ⟨0x14050, 48, 16, 0x100, .rw, .retained⟩

/-! RCV_CNT, 0x14080 -/
def RCV_CNT_COUNT (k : Nat) : Fld := ⟨0x14080 + 8*k, 0, 48, 0, .ro, .never⟩

/-! REC_HEAD, 0x16000 -/
def REC_HEAD_NEXT : Fld := ⟨0x16000, 0, 32, 0, .ro, .never⟩
def REC_HEAD_SLOTS : Fld := ⟨0x16000, 32, 16, 0x8000, .ro, .never⟩

/-! REC_STAT, 0x16008 -/
def REC_STAT_QLEV : Fld := ⟨0x16008, 0, 9, 0, .ro, .never⟩
def REC_STAT_DROP_SEEN : Fld := ⟨0x16008, 9, 1, 0, .w1c, .never⟩

/-! REC_CNT, 0x16040 -/
def REC_CNT_COUNT (k : Nat) : Fld := ⟨0x16040 + 8*k, 0, 48, 0, .ro, .never⟩

/-! UTIL_CNT, 0x16080 -/
def UTIL_CNT_COUNT (k : Nat) : Fld := ⟨0x16080 + 8*k, 0, 48, 0, .ro, .alwaysOn⟩

/-! ERR_CNT, 0x160c0 -/
def ERR_CNT_COUNT (k : Nat) : Fld := ⟨0x160c0 + 8*k, 0, 48, 0, .ro, .alwaysOn⟩

/-! HIST_CTL, 0x16100 -/
def HIST_CTL_EN : Fld := ⟨0x16100, 0, 1, 1, .rw, .retained⟩
def HIST_CTL_CLEAR : Fld := ⟨0x16100, 1, 1, 0, .wo, .never⟩
def HIST_CTL_GONE : Fld := ⟨0x16100, 2, 1, 0, .ro, .never⟩

/-! HIST_CFG, 0x16200 -/
def HIST_CFG_LO (h : Nat) : Fld := ⟨0x16200 + 8*h, 0, 32, histLo h, .rw, .retained⟩
def HIST_CFG_SHIFT (h : Nat) : Fld := ⟨0x16200 + 8*h, 32, 6, histShift h, .rw, .retained⟩
def HIST_CFG_LOG (h : Nat) : Fld := ⟨0x16200 + 8*h, 38, 1, histLog h, .rw, .retained⟩
def HIST_CFG_EN (h : Nat) : Fld := ⟨0x16200 + 8*h, 39, 1, 1, .rw, .retained⟩

/-! TRC_CTL, 0x16400 -/
def TRC_CTL_EN : Fld := ⟨0x16400, 0, 8, 0, .rw, .never⟩
def TRC_CTL_GONE : Fld := ⟨0x16400, 8, 8, 0, .ro, .never⟩

/-! TRC_RING, 0x16408 -/
def TRC_RING_ADDR : Fld := ⟨0x16408, 0, 56, 0, .rw, .never⟩

/-! TRC_SIZE, 0x16410 -/
def TRC_SIZE_SIZE : Fld := ⟨0x16410, 0, 32, 0, .rw, .never⟩

/-! TRC_PROD, 0x16418 -/
def TRC_PROD_PROD : Fld := ⟨0x16418, 0, 32, 0, .ro, .never⟩

/-! TRC_CONS, 0x16420 -/
def TRC_CONS_CONS : Fld := ⟨0x16420, 0, 32, 0, .rw, .never⟩

/-! TRC_STAT, 0x16428 -/
def TRC_STAT_FULL : Fld := ⟨0x16428, 0, 8, 0, .ro, .never⟩
def TRC_STAT_LOSS : Fld := ⟨0x16428, 8, 8, 0, .w1c, .never⟩
def TRC_STAT_RING_FULL : Fld := ⟨0x16428, 16, 1, 0, .ro, .never⟩
def TRC_STAT_NORING : Fld := ⟨0x16428, 17, 1, 1, .ro, .never⟩
def TRC_STAT_BADCONS : Fld := ⟨0x16428, 18, 1, 0, .w1c, .never⟩

/-! TRC_SEL, 0x16440 -/
def TRC_SEL_SEL (b : Nat) : Fld := ⟨0x16440 + 8*b, 0, 32, 0, .rw, .retained⟩

/-! DUMP_ADDR, 0x16500 -/
def DUMP_ADDR_ADDR : Fld := ⟨0x16500, 0, 56, 0, .rw, .never⟩

/-! DUMP_LEN, 0x16508 -/
def DUMP_LEN_LEN : Fld := ⟨0x16508, 0, 32, 0, .rw, .never⟩

/-! DUMP_CTL, 0x16510 -/
def DUMP_CTL_ARM : Fld := ⟨0x16510, 0, 1, 0, .rw, .never⟩
def DUMP_CTL_AUTO_STEP : Fld := ⟨0x16510, 1, 3, 2, .rw, .retained⟩
def DUMP_CTL_ON_TRIP : Fld := ⟨0x16510, 4, 1, 1, .rw, .retained⟩

/-! DUMP_STAT, 0x16518 -/
def DUMP_STAT_BUSY : Fld := ⟨0x16518, 0, 1, 0, .ro, .never⟩
def DUMP_STAT_SEQ_ARMED : Fld := ⟨0x16518, 1, 1, 0, .ro, .never⟩
def DUMP_STAT_HOLD : Fld := ⟨0x16518, 2, 1, 0, .w1c, .never⟩
def DUMP_STAT_DONE_SEEN : Fld := ⟨0x16518, 3, 1, 0, .w1c, .never⟩
def DUMP_STAT_LAST_STATUS : Fld := ⟨0x16518, 4, 4, 0, .ro, .never⟩

/-! TEST_STAT, 0x18000 -/
def TEST_STAT_ID : Fld := ⟨0x18000, 0, 8, 0, .ro, .never⟩
def TEST_STAT_OBJECT : Fld := ⟨0x18000, 8, 16, 0, .ro, .never⟩
def TEST_STAT_BUSY : Fld := ⟨0x18000, 24, 1, 0, .ro, .never⟩
def TEST_STAT_PASS : Fld := ⟨0x18000, 25, 1, 0, .ro, .never⟩
def TEST_STAT_PEND : Fld := ⟨0x18000, 26, 1, 0, .ro, .never⟩
def TEST_STAT_ITEM : Fld := ⟨0x18000, 32, 16, 0, .ro, .never⟩
def TEST_STAT_RUNS : Fld := ⟨0x18000, 48, 16, 0, .ro, .never⟩

/-! CAL_IMON, 0x18400 -/
def CAL_IMON_GAIN (p : Nat) : Fld := ⟨0x18400 + 8*p, 0, 16, 0, .rw, .retained⟩
def CAL_IMON_OFS (p : Nat) : Fld := ⟨0x18400 + 8*p, 16, 12, 0, .rw, .retained⟩

end F

/-! ## The table of registers -/

/-- Registers of Table 17.2, piece 0. -/
def regTable0 : List RegSpec := [
  ⟨0x0, [], .always, fun _ _ _ => [F.GOV_IDENT_PART_CODE, F.GOV_IDENT_VENDOR]⟩,
  ⟨0x8, [], .always, fun _ _ _ => [F.GOV_VERSION_MINOR, F.GOV_VERSION_MAJOR]⟩,
  ⟨0x10, [], .always, fun _ _ _ => [F.GOV_BUILD_DIES, F.GOV_BUILD_TILES_PER_DIE, F.GOV_BUILD_RAILS, F.GOV_BUILD_PHASES, F.GOV_BUILD_STACKS, F.GOV_BUILD_REQUESTERS, F.GOV_BUILD_PARTITIONS]⟩,
  ⟨0x18, [], .always, fun _ _ _ => [F.HOST_LOT_LOT]⟩,
  ⟨0x20, [], .always, fun _ _ _ => [F.HOST_POS_WAFER, F.HOST_POS_X, F.HOST_POS_Y, F.HOST_POS_FSTAT]⟩,
  ⟨0x1000, [(16, 64)], .always, fun i _ _ => [F.MBX_CMD_WORD i]⟩,
  ⟨0x1008, [(16, 64)], .always, fun i _ _ => [F.MBX_RPL_WORD i]⟩,
  ⟨0x1010, [(16, 64)], .always, fun i _ _ => [F.MBX_STAT_CQ_FREE i, F.MBX_STAT_RQ_CNT i, F.MBX_STAT_RDY i, F.MBX_STAT_PEND i, F.MBX_STAT_MGEN i, F.MBX_STAT_STALE i, F.MBX_STAT_CQ_OVF i, F.MBX_STAT_UNDER i, F.MBX_STAT_TRUNC i, F.MBX_STAT_PORTERR i, F.MBX_STAT_RLOST i, F.MBX_STAT_DROP i, F.MBX_STAT_NDROP i]⟩,
  ⟨0x1018, [(16, 64)], .always, fun i _ _ => [F.MBX_ACK_OPCODE i, F.MBX_ACK_CLASS i, F.MBX_ACK_TAG i, F.MBX_ACK_CODE i, F.MBX_ACK_ACNT i]⟩,
  ⟨0x1020, [(16, 64)], .always, fun i _ _ => [F.MBX_CTL_OWNER i, F.MBX_CTL_C0ONLY i, F.MBX_CTL_RONLY i, F.MBX_CTL_EN i, F.MBX_CTL_PART i, F.MBX_CTL_RST i]⟩,
  ⟨0x2000, [], .always, fun _ _ _ => [F.GOV_STAT_STAGE, F.GOV_STAT_READY, F.GOV_STAT_SVC, F.GOV_STAT_TRIPPED, F.GOV_STAT_LATCHED, F.GOV_STAT_ALIGNED, F.GOV_STAT_LOCKERR, F.GOV_STAT_LOCK_OWNER, F.GOV_STAT_STAGE_OPEN, F.GOV_STAT_COMMITTING, F.GOV_STAT_DIRTY, F.GOV_STAT_RDYMAP, F.GOV_STAT_RSTCNT]⟩,
  ⟨0x2008, [], .always, fun _ _ _ => [F.GOV_LOCK_OWNER, F.GOV_LOCK_GOT, F.GOV_LOCK_RELEASE, F.GOV_LOCK_FORCE, F.GOV_LOCK_BROKEN, F.GOV_LOCK_LOCK_TO]⟩]

/-- Registers of Table 17.2, piece 1. -/
def regTable1 : List RegSpec := [
  ⟨0x2010, [], .always, fun _ _ _ => [F.MBX_TO_PKT_TO, F.MBX_TO_RPL_TO, F.MBX_TO_EXE_TO]⟩,
  ⟨0x2018, [], .always, fun _ _ _ => [F.DMA_STAT_TRACE_ERR, F.DMA_STAT_DUMP_ERR, F.DMA_STAT_MIR_ERR, F.DMA_STAT_PL_ERR, F.DMA_STAT_OUT]⟩,
  ⟨0x2020, [], .always, fun _ _ _ => [F.MIR_ADDR_ADDR]⟩,
  ⟨0x2028, [], .always, fun _ _ _ => [F.MIR_CTL_EN, F.MIR_CTL_SKIP, F.MIR_CTL_MSEQ]⟩,
  ⟨0x2040, [], .always, fun _ _ _ => [F.CFG_STAGE_OPEN, F.CFG_STAGE_ABORT]⟩,
  ⟨0x2048, [], .always, fun _ _ _ => [F.CFG_COMMIT_AT]⟩,
  ⟨0x2050, [], .always, fun _ _ _ => [F.CFG_STAT_STATE, F.CFG_STAT_OWNER, F.CFG_STAT_DIRTY, F.CFG_STAT_REFUSED, F.CFG_STAT_RESULT, F.CFG_STAT_NCHG, F.CFG_STAT_BADOFS]⟩,
  ⟨0x2058, [], .always, fun _ _ _ => [F.CFG_TC_TC]⟩,
  ⟨0x2060, [], .always, fun _ _ _ => [F.STORE_PAGE_PAGE]⟩,
  ⟨0x2100, [(48, 8)], .always, fun i _ _ => [F.STORE_MAP_PHYS i, F.STORE_MAP_COPY i, F.STORE_MAP_FUNC i]⟩,
  ⟨0x2300, [(10, 8)], .always, fun i _ _ => [F.STORE_RGN_BASE i, F.STORE_RGN_LEN i, F.STORE_RGN_BANKS i]⟩,
  ⟨0x4000, [(16, 8)], .rail, fun i _ _ => [F.RAIL_CTL_CSET i, F.RAIL_CTL_OPEN i, F.RAIL_CTL_SYNC_EN i, F.RAIL_CTL_SYNC_DIV i, F.RAIL_CTL_DMIN i, F.RAIL_CTL_DMAX i]⟩]

/-- Registers of Table 17.2, piece 2. -/
def regTable2 : List RegSpec := [
  ⟨0x4080, [(16, 8)], .rail, fun i _ _ => [F.RAIL_CFG_PER i, F.RAIL_CFG_RATE i, F.RAIL_CFG_FIRST i, F.RAIL_CFG_COUNT i, F.RAIL_CFG_SOFS i]⟩,
  ⟨0x4100, [(16, 64), (8, 8)], .rail, fun i j _ => [F.RAIL_OPT_VSET i j]⟩,
  ⟨0x4500, [(16, 8)], .rail, fun i _ _ => [F.RAIL_STAT_DUTY i, F.RAIL_STAT_VREF i, F.RAIL_STAT_MODE i, F.RAIL_STAT_OPT i, F.RAIL_STAT_CSET_ACT i, F.RAIL_STAT_FF_ACT i, F.RAIL_STAT_SYNC_LOCK i, F.RAIL_STAT_PEND i, F.RAIL_STAT_CFG_PEND i, F.RAIL_STAT_SAT_SEC i, F.RAIL_STAT_SAT_FF i, F.RAIL_STAT_SAT_SUM i, F.RAIL_STAT_CLAMP_HI i, F.RAIL_STAT_CLAMP_LO i, F.RAIL_STAT_NOINT i, F.RAIL_STAT_SYNC_LOST i, F.RAIL_STAT_REFUSED i]⟩,
  ⟨0x4580, [(16, 8)], .rail, fun i _ _ => [F.RAIL_MEAS_VS i, F.RAIL_MEAS_ISUM i, F.RAIL_MEAS_POUT i, F.RAIL_MEAS_HOLDS i, F.RAIL_MEAS_MISS i]⟩,
  ⟨0x4600, [(16, 32), (4, 8)], .rail, fun i j _ => [F.RAIL_CBAND_C_LO i j, F.RAIL_CBAND_C_HI i j, F.RAIL_CBAND_ESR_MAX i j]⟩,
  ⟨0x4800, [(16, 8)], .rail, fun i _ _ => [F.RAIL_FF_KP i, F.RAIL_FF_KD i, F.RAIL_FF_SP i, F.RAIL_FF_SD i, F.RAIL_FF_FA i, F.RAIL_FF_LEAD i, F.RAIL_FF_FF_EN i]⟩,
  ⟨0x4880, [(16, 8)], .rail, fun i _ _ => [F.RAIL_LIM_ILIM_PH i, F.RAIL_LIM_BAL_M i, F.RAIL_LIM_GRACE i, F.RAIL_LIM_N_MIN i]⟩,
  ⟨0x4900, [(16, 8)], .rail, fun i _ _ => [F.RAIL_SHED_IPH_SHED i, F.RAIL_SHED_IPH_ADD i, F.RAIL_SHED_SHED_DWELL i, F.RAIL_SHED_SHED_EN i]⟩,
  ⟨0x4980, [(16, 8)], .rail, fun i _ _ => [F.RAIL_BURST_BURST_IN i, F.RAIL_BURST_BURST_OUT i, F.RAIL_BURST_BLO i, F.RAIL_BURST_BHI i, F.RAIL_BURST_BEXIT i, F.RAIL_BURST_BCNT i, F.RAIL_BURST_BEN i]⟩,
  ⟨0x4a00, [(16, 8)], .rail, fun i _ _ => [F.RAIL_PROT_HICCUP_N i, F.RAIL_PROT_HICCUP_OFF i, F.RAIL_PROT_HICCUP_MAXR i, F.RAIL_PROT_OV_OFS i, F.RAIL_PROT_UV_OFS i, F.RAIL_PROT_DIEMASK i]⟩,
  ⟨0x4a80, [(16, 8)], .rail, fun i _ _ => [F.RAIL_PSTAT_N_USABLE i, F.RAIL_PSTAT_N_USE i, F.RAIL_PSTAT_NF i, F.RAIL_PSTAT_GRACE i, F.RAIL_PSTAT_HC i, F.RAIL_PSTAT_HR i, F.RAIL_PSTAT_ILIM_RAIL i, F.RAIL_PSTAT_FCAUSE i, F.RAIL_PSTAT_OV i, F.RAIL_PSTAT_UV i, F.RAIL_PSTAT_LIM_SEEN i, F.RAIL_PSTAT_HIC_SEEN i]⟩,
  ⟨0x4b00, [(16, 8)], .rail, fun i _ _ => [F.RAIL_IMB_IMB_PCT i, F.RAIL_IMB_IMB_DWELL i, F.RAIL_IMB_IMB_MIN i, F.RAIL_IMB_OPEN_FRAC i, F.RAIL_IMB_OPEN_MIN i]⟩]

/-- Registers of Table 17.2, piece 3. -/
def regTable3 : List RegSpec := [
  ⟨0x4b80, [], .always, fun _ _ _ => [F.VIN_PROT_VIN_DWELL, F.VIN_PROT_VIN_UVLO, F.VIN_PROT_VIN, F.VIN_PROT_VIN_OUT, F.VIN_PROT_UVLO]⟩,
  ⟨0x4c00, [(16, 8)], .rail, fun i _ _ => [F.RAIL_SEQ_EN i, F.RAIL_SEQ_GROUP i, F.RAIL_SEQ_MODE i, F.RAIL_SEQ_SRC i, F.RAIL_SEQ_RAMP i, F.RAIL_SEQ_DLY i, F.RAIL_SEQ_PG_WIN i, F.RAIL_SEQ_PG_TO i]⟩,
  ⟨0x4c80, [(16, 8)], .rail, fun i _ _ => [F.RAIL_PLAUS_C_MIN i, F.RAIL_PLAUS_C_MAX i, F.RAIL_PLAUS_ESR_MAX i, F.RAIL_PLAUS_PROBE_DD i]⟩,
  ⟨0x4d00, [(16, 8)], .rail, fun i _ _ => [F.RAIL_PROBE_C_EST i, F.RAIL_PROBE_ESR_EST i, F.RAIL_PROBE_CSET i, F.RAIL_PROBE_STAT i, F.RAIL_PROBE_ABORTS i]⟩,
  ⟨0x5000, [(16, 256), (4, 64), (4, 16)], .rail, fun i j k => [F.RAIL_COEF_LO_B0 i j k, F.RAIL_COEF_LO_B1 i j k, F.RAIL_COEF_LO_B2 i j k, F.RAIL_COEF_LO_A1 i j k]⟩,
  ⟨0x5008, [(16, 256), (4, 64), (4, 16)], .rail, fun i j k => [F.RAIL_COEF_HI_A2 i j k, F.RAIL_COEF_HI_SHIFT i j k, F.RAIL_COEF_HI_EN i j k]⟩,
  ⟨0x8000, [(96, 8)], .phase, fun i _ _ => [F.PH_STAT_STATE i, F.PH_STAT_CAUSE i, F.PH_STAT_PFLT i, F.PH_STAT_IMB i, F.PH_STAT_IMB_SEEN i, F.PH_STAT_LIM_SEEN i, F.PH_STAT_IMEAN i, F.PH_STAT_CUTS i, F.PH_STAT_IMBCNT i]⟩,
  ⟨0x8c00, [(96, 8)], .phase, fun i _ _ => [F.PH_ID_ID_V i, F.PH_ID_CODE i, F.PH_ID_RESULT i, F.PH_ID_RAIL i, F.PH_ID_MIXED i]⟩,
  ⟨0xa000, [], .always, fun _ _ _ => [F.DMD_CTL_AGE, F.DMD_CTL_HZ_EN, F.DMD_CTL_OVER_GAP]⟩,
  ⟨0xa008, [], .always, fun _ _ _ => [F.DMD_STAT_NGRANT, F.DMD_STAT_NHELD, F.DMD_STAT_BACKLOG, F.DMD_STAT_LAG, F.DMD_STAT_OVER_SEEN, F.DMD_STAT_PROTO_SEEN, F.DMD_STAT_DRAINING, F.DMD_STAT_NWAIT]⟩,
  ⟨0xa040, [(8, 8)], .always, fun i _ _ => [F.DMD_CNT_COUNT i]⟩,
  ⟨0xa100, [(16, 8)], .rail, fun i _ _ => [F.DMD_RAIL_DIE i, F.DMD_RAIL_NFW i]⟩]

/-- Registers of Table 17.2, piece 4. -/
def regTable4 : List RegSpec := [
  ⟨0xa180, [(16, 8)], .rail, fun i _ _ => [F.DMD_RSTAT_LIM i, F.DMD_RSTAT_PK i, F.DMD_RSTAT_HNOW i, F.DMD_RSTAT_NF i, F.DMD_RSTAT_VALID i]⟩,
  ⟨0xa200, [(8, 8)], .die, fun i _ _ => [F.DMD_DIE_CEIL i, F.DMD_DIE_PRED i, F.DMD_DIE_TLVL i]⟩,
  ⟨0xa240, [(16, 8)], .part, fun i _ _ => [F.DMD_PART_BUD i, F.DMD_PART_USE i]⟩,
  ⟨0xa2c0, [], .always, fun _ _ _ => [F.DMD_MOD_CAP, F.DMD_MOD_PRED, F.DMD_MOD_RSV]⟩,
  ⟨0xa300, [(8, 8)], .die, fun i _ _ => [F.DMD_HUB_OPEN i, F.DMD_HUB_QFULL i, F.DMD_HUB_DFULL i, F.DMD_HUB_OUT i]⟩,
  ⟨0xc000, [], .always, fun _ _ _ => [F.TH_CTL_CHAT_MAX, F.TH_CTL_CHAT_WIN, F.TH_CTL_RCLAMP, F.TH_CTL_FT_AUTO, F.TH_CTL_FT_DERATE, F.TH_CTL_FAST]⟩,
  ⟨0xc008, [], .always, fun _ _ _ => [F.TH_STAT_LOADED, F.TH_STAT_RATE, F.TH_STAT_NODES, F.TH_STAT_ANY_WARN, F.TH_STAT_ANY_THR, F.TH_STAT_ANY_CRIT, F.TH_STAT_ANY_SHUT, F.TH_STAT_SAT, F.TH_STAT_DISAGREE, F.TH_STAT_HOTNODE, F.TH_STAT_HOT_T, F.TH_STAT_HOT_D]⟩,
  ⟨0xc010, [], .always, fun _ _ _ => [F.TH_UPD_SEQ, F.TH_UPD_M]⟩,
  ⟨0xc018, [], .always, fun _ _ _ => [F.TH_UPDT_GTIME]⟩,
  ⟨0xc040, [(8, 8)], .die, fun i _ _ => [F.TH_DIE_CNOM i, F.TH_DIE_CTHR i, F.TH_DIE_CCRIT i, F.TH_DIE_LEVEL i, F.TH_DIE_BLIND i, F.TH_DIE_MARGIN i]⟩,
  ⟨0xc100, [(32, 8)], .diode, fun i _ _ => [F.TH_DIODE_NODE i, F.TH_DIODE_EN i, F.TH_DIODE_KC i, F.TH_DIODE_RMAX i, F.TH_DIODE_DISAGREE i]⟩,
  ⟨0xc200, [], .always, fun _ _ _ => [F.FT_CFG_TRIP, F.FT_CFG_RESTART, F.FT_CFG_MIN_OFF, F.FT_CFG_LOCK]⟩]

/-- Registers of Table 17.2, piece 5. -/
def regTable5 : List RegSpec := [
  ⟨0xc208, [], .always, fun _ _ _ => [F.FT_ACT_TRIP, F.FT_ACT_RESTART, F.FT_ACT_MIN_OFF, F.FT_ACT_LOCK]⟩,
  ⟨0xc210, [], .always, fun _ _ _ => [F.FT_STAT_TRIPPED, F.FT_STAT_LATCHED, F.FT_STAT_DERATE, F.FT_STAT_TRIPS, F.FT_STAT_PEND, F.FT_STAT_CFG_REJ, F.FT_STAT_BLIND, F.FT_STAT_EXCL, F.FT_STAT_TRIP_DIODE, F.FT_STAT_TRIPS_TOTAL]⟩,
  ⟨0xc300, [(32, 8)], .diode, fun i _ _ => [F.FT_DSTAT_TEMP i, F.FT_DSTAT_FLT i, F.FT_DSTAT_EXCL i, F.FT_DSTAT_SCANS i]⟩,
  ⟨0xc400, [(32, 8)], .diode, fun i _ _ => [F.FT_DTRIM_IDEAL i, F.FT_DTRIM_OFS i]⟩,
  ⟨0xe000, [], .always, fun _ _ _ => [F.BUD_MODCAP_LOCAL, F.BUD_MODCAP_MAX, F.BUD_MODCAP_RSV]⟩,
  ⟨0xe040, [(16, 8)], .rail, fun i _ _ => [F.BUD_RAIL_LIM i]⟩,
  ⟨0xe0c0, [(16, 8)], .part, fun i _ _ => [F.BUD_PART_SHARE i]⟩,
  ⟨0xe200, [], .always, fun _ _ _ => [F.HR_CTL_HOLD]⟩,
  ⟨0xe208, [], .always, fun _ _ _ => [F.HR_STAT_EP_CUR, F.HR_STAT_EP_NEXT, F.HR_STAT_PENDING, F.HR_STAT_ROOT, F.HR_STAT_JOINED, F.HR_STAT_ORPHAN, F.HR_STAT_DEPTH, F.HR_STAT_LATE, F.HR_STAT_FB_SHORT, F.HR_STAT_SYNC_ERR, F.HR_STAT_REFUSED, F.HR_STAT_SUBN]⟩,
  ⟨0xe210, [], .always, fun _ _ _ => [F.HR_EPOCH_HALL_CAP, F.HR_EPOCH_PER, F.HR_EPOCH_LEAD, F.HR_EPOCH_NOW]⟩,
  ⟨0xe218, [], .always, fun _ _ _ => [F.HR_NEXT_EP_TIME]⟩,
  ⟨0xe220, [], .always, fun _ _ _ => [F.HR_TIME_THETA, F.HR_TIME_F]⟩]

/-- Registers of Table 17.2, piece 6. -/
def regTable6 : List RegSpec := [
  ⟨0xe300, [(9, 8)], .always, fun i _ _ => [F.HR_LINK_TXLAT i, F.HR_LINK_RXLAT i, F.HR_LINK_RTT i, F.HR_LINK_EN i, F.HR_LINK_FORGET i]⟩,
  ⟨0xe380, [(9, 8)], .always, fun i _ _ => [F.HR_LSTAT_STATE i, F.HR_LSTAT_REASON i, F.HR_LSTAT_SKIP i, F.HR_LSTAT_BAD i, F.HR_LSTAT_LOSS i, F.HR_LSTAT_PSUBN i, F.HR_LSTAT_PHT i]⟩,
  ⟨0xe400, [(9, 8)], .always, fun i _ _ => [F.HR_CREP_DEM i, F.HR_CREP_FLOOR i]⟩,
  ⟨0xe480, [(9, 8)], .always, fun i _ _ => [F.HR_CALLOC_CUR i, F.HR_CALLOC_NEXT i]⟩,
  ⟨0x10000, [], .always, fun _ _ _ => [F.PL_CTL_MIGQ, F.PL_CTL_T2EN]⟩,
  ⟨0x10008, [], .always, fun _ _ _ => [F.PL_POLICY_WT, F.PL_POLICY_WE, F.PL_POLICY_WM, F.PL_POLICY_WF, F.PL_POLICY_TREF, F.PL_POLICY_EREF]⟩,
  ⟨0x10010, [], .always, fun _ _ _ => [F.PL_STAT_STATE, F.PL_STAT_FETCH_ERR, F.PL_STAT_REPLY_ERR, F.PL_STAT_LIVE, F.PL_STAT_REFUSED, F.PL_STAT_PLIM, F.PL_STAT_FREEP]⟩,
  ⟨0x10018, [], .always, fun _ _ _ => [F.PL_LAST_STEP, F.PL_LAST_STATUS, F.PL_LAST_APPLIED]⟩,
  ⟨0x10020, [], .always, fun _ _ _ => [F.PL_SPILL_SPILLQ, F.PL_SPILL_SPILL_EN]⟩,
  ⟨0x10028, [], .always, fun _ _ _ => [F.PL_ORD_OUT, F.PL_ORD_NEXT_ID, F.PL_ORD_WOFF, F.PL_ORD_FULL, F.PL_ORD_TIMEOUT, F.PL_ORD_PROTO]⟩,
  ⟨0x10030, [], .always, fun _ _ _ => [F.PL_TD_ORD_TO, F.PL_TD_NTD, F.PL_TD_LATE]⟩,
  ⟨0x10080, [(8, 8)], .always, fun i _ _ => [F.PL_CNT_COUNT i]⟩]

/-- Registers of Table 17.2, piece 7. -/
def regTable7 : List RegSpec := [
  ⟨0x10100, [(8, 8)], .die, fun i _ _ => [F.PL_T0_FRAMES i, F.PL_T0_USED i]⟩,
  ⟨0x10200, [(24, 8)], .stack, fun i _ _ => [F.PL_STACK_FRAMES i, F.PL_STACK_DIE i, F.PL_STACK_USED i]⟩,
  ⟨0x10300, [(32, 8)], .always, fun i _ _ => [F.PL_PEER_EN i, F.PL_PEER_LINK i, F.PL_PEER_FRAMES i, F.PL_PEER_USED i, F.PL_PEER_UNREACH i, F.PL_PEER_PATH i]⟩,
  ⟨0x10400, [(32, 8)], .always, fun i _ _ => [F.PL_TPART_PART i 0, F.PL_TPART_PART i 1, F.PL_TPART_PART i 2, F.PL_TPART_PART i 3, F.PL_TPART_PART i 4, F.PL_TPART_PART i 5, F.PL_TPART_PART i 6, F.PL_TPART_PART i 7, F.PL_TPART_PART i 8, F.PL_TPART_PART i 9, F.PL_TPART_PART i 10, F.PL_TPART_PART i 11, F.PL_TPART_PART i 12, F.PL_TPART_PART i 13, F.PL_TPART_PART i 14, F.PL_TPART_PART i 15]⟩,
  ⟨0x10500, [(8, 8)], .die, fun i _ _ => [F.PL_DIE_SHARDS i, F.PL_DIE_AVAIL i, F.PL_DIE_HE i, F.PL_DIE_NT i, F.PL_DIE_NF i]⟩,
  ⟨0x12000, [], .always, fun _ _ _ => [F.REFSEL_SRC, F.REFSEL_AUTO, F.REFSEL_PREF]⟩,
  ⟨0x12008, [], .always, fun _ _ _ => [F.REF_STAT_REF_RDY, F.REF_STAT_CUR, F.REF_STAT_SWITCHING, F.REF_STAT_LOCK, F.REF_STAT_HOLDOVER, F.REF_STAT_FORCED, F.REF_STAT_REFUSED, F.REF_STAT_LOST]⟩,
  ⟨0x12010, [], .always, fun _ _ _ => [F.XO_CTL_XO_DLY]⟩,
  ⟨0x12018, [], .always, fun _ _ _ => [F.CLKOUT_CTL_SRC, F.CLKOUT_CTL_SLICE, F.CLKOUT_CTL_DIV, F.CLKOUT_CTL_EN]⟩,
  ⟨0x12020, [], .always, fun _ _ _ => [F.CLKGATE_CTL_DIS]⟩,
  ⟨0x12040, [], .always, fun _ _ _ => [F.GTIME_LO_GTIME]⟩,
  ⟨0x12048, [], .always, fun _ _ _ => [F.GTIME_HI_HI_LATCH]⟩]

/-- Registers of Table 17.2, piece 8. -/
def regTable8 : List RegSpec := [
  ⟨0x12050, [], .always, fun _ _ _ => [F.GTIME_STAT_ALIGNED, F.GTIME_STAT_STEPPED, F.GTIME_STAT_TRIM]⟩,
  ⟨0x12100, [], .always, fun _ _ _ => [F.BRG_CTL_START, F.BRG_CTL_STOP, F.BRG_CTL_AUTO, F.BRG_CTL_NOPROBE, F.BRG_CTL_HR_SKIP, F.BRG_CTL_VIN_MIN, F.BRG_CTL_VIN_MAX, F.BRG_CTL_PROBE_VMAX]⟩,
  ⟨0x12108, [], .always, fun _ _ _ => [F.BRG_STAT_STAGE, F.BRG_STAT_ERR, F.BRG_STAT_ERR_RAIL, F.BRG_STAT_REFUSED, F.BRG_STAT_CFG_RETAINED, F.BRG_STAT_UNALIGNED]⟩,
  ⟨0x12110, [], .always, fun _ _ _ => [F.BRG_TIME_VIN_TO, F.BRG_TIME_HR_WAIT, F.BRG_TIME_PD_DRAIN]⟩,
  ⟨0x12200, [], .always, fun _ _ _ => [F.ST_CTL_RDIV, F.ST_CTL_HOLD, F.ST_CTL_EVT_GAP]⟩,
  ⟨0x12208, [], .always, fun _ _ _ => [F.ST_STAT_RING_OK, F.ST_STAT_RING_ERR]⟩,
  ⟨0x12240, [(8, 8)], .die, fun i _ _ => [F.ST_THR_D1 i, F.ST_THR_D2 i, F.ST_THR_S1 i, F.ST_THR_S2 i, F.ST_THR_HYS i, F.ST_THR_RAIL i, F.ST_THR_MODE i, F.ST_THR_TLVL i]⟩,
  ⟨0x13000, [(512, 8)], .tile, fun i _ _ => [F.ST_TILE_OFS i, F.ST_TILE_HOLD_OFF i, F.ST_TILE_EN i, F.ST_TILE_DLVL i, F.ST_TILE_HACK i, F.ST_TILE_NOREP i, F.ST_TILE_GAP i]⟩,
  ⟨0x14000, [], .always, fun _ _ _ => [F.DW_CTL_AUTO, F.DW_CTL_MAXSTEP, F.DW_CTL_ENG_MAX, F.DW_CTL_ENG_WIN, F.DW_CTL_FLAP_MAX]⟩,
  ⟨0x14008, [], .always, fun _ _ _ => [F.DW_GTO_GTO0, F.DW_GTO_GTO1, F.DW_GTO_GTO2, F.DW_GTO_GTO3]⟩,
  ⟨0x14010, [], .always, fun _ _ _ => [F.DW_TO_DRAIN_TO, F.DW_TO_PART_TO, F.DW_TO_CHIP_TO, F.DW_TO_DMA_TO]⟩,
  ⟨0x14018, [], .always, fun _ _ _ => [F.DW_STAT_CAUSE, F.DW_STAT_STEP, F.DW_STAT_OBJECT, F.DW_STAT_ACTIVE, F.DW_STAT_BLOCKED, F.DW_STAT_DETECT]⟩]

/-- Registers of Table 17.2, piece 9. -/
def regTable9 : List RegSpec := [
  ⟨0x14020, [], .always, fun _ _ _ => [F.DW_LAST_GTIME]⟩,
  ⟨0x14028, [], .always, fun _ _ _ => [F.RCV_HOLD_PART, F.RCV_HOLD_CHIP, F.RCV_HOLD_REL_PEND, F.RCV_HOLD_REL_PEND_CHIP]⟩,
  ⟨0x14030, [], .always, fun _ _ _ => [F.RCV_PGEN_PGEN 0, F.RCV_PGEN_PGEN 1, F.RCV_PGEN_PGEN 2, F.RCV_PGEN_PGEN 3, F.RCV_PGEN_PGEN 4, F.RCV_PGEN_PGEN 5, F.RCV_PGEN_PGEN 6, F.RCV_PGEN_PGEN 7, F.RCV_PGEN_PGEN 8, F.RCV_PGEN_PGEN 9, F.RCV_PGEN_PGEN 10, F.RCV_PGEN_PGEN 11, F.RCV_PGEN_PGEN 12, F.RCV_PGEN_PGEN 13, F.RCV_PGEN_PGEN 14, F.RCV_PGEN_PGEN 15]⟩,
  ⟨0x14038, [], .always, fun _ _ _ => [F.SVC_CAUSE_CAUSE]⟩,
  ⟨0x14040, [], .always, fun _ _ _ => [F.SVC_MASK_MASK]⟩,
  ⟨0x14048, [], .always, fun _ _ _ => [F.STORE_RET_BANKS, F.STORE_RET_NRET]⟩,
  ⟨0x14050, [], .always, fun _ _ _ => [F.STORE_ECC_CE, F.STORE_ECC_UE, F.STORE_ECC_LAST_BANK, F.STORE_ECC_CE_MAX]⟩,
  ⟨0x14080, [(8, 8)], .always, fun i _ _ => [F.RCV_CNT_COUNT i]⟩,
  ⟨0x16000, [], .always, fun _ _ _ => [F.REC_HEAD_NEXT, F.REC_HEAD_SLOTS]⟩,
  ⟨0x16008, [], .always, fun _ _ _ => [F.REC_STAT_QLEV, F.REC_STAT_DROP_SEEN]⟩,
  ⟨0x16040, [(8, 8)], .always, fun i _ _ => [F.REC_CNT_COUNT i]⟩,
  ⟨0x16080, [(8, 8)], .always, fun i _ _ => [F.UTIL_CNT_COUNT i]⟩]

/-- Registers of Table 17.2, piece 10. -/
def regTable10 : List RegSpec := [
  ⟨0x160c0, [(8, 8)], .always, fun i _ _ => [F.ERR_CNT_COUNT i]⟩,
  ⟨0x16100, [], .always, fun _ _ _ => [F.HIST_CTL_EN, F.HIST_CTL_CLEAR, F.HIST_CTL_GONE]⟩,
  ⟨0x16200, [(64, 8)], .always, fun i _ _ => [F.HIST_CFG_LO i, F.HIST_CFG_SHIFT i, F.HIST_CFG_LOG i, F.HIST_CFG_EN i]⟩,
  ⟨0x16400, [], .always, fun _ _ _ => [F.TRC_CTL_EN, F.TRC_CTL_GONE]⟩,
  ⟨0x16408, [], .always, fun _ _ _ => [F.TRC_RING_ADDR]⟩,
  ⟨0x16410, [], .always, fun _ _ _ => [F.TRC_SIZE_SIZE]⟩,
  ⟨0x16418, [], .always, fun _ _ _ => [F.TRC_PROD_PROD]⟩,
  ⟨0x16420, [], .always, fun _ _ _ => [F.TRC_CONS_CONS]⟩,
  ⟨0x16428, [], .always, fun _ _ _ => [F.TRC_STAT_FULL, F.TRC_STAT_LOSS, F.TRC_STAT_RING_FULL, F.TRC_STAT_NORING, F.TRC_STAT_BADCONS]⟩,
  ⟨0x16440, [(8, 8)], .always, fun i _ _ => [F.TRC_SEL_SEL i]⟩,
  ⟨0x16500, [], .always, fun _ _ _ => [F.DUMP_ADDR_ADDR]⟩,
  ⟨0x16508, [], .always, fun _ _ _ => [F.DUMP_LEN_LEN]⟩]

/-- Registers of Table 17.2, piece 11. -/
def regTable11 : List RegSpec := [
  ⟨0x16510, [], .always, fun _ _ _ => [F.DUMP_CTL_ARM, F.DUMP_CTL_AUTO_STEP, F.DUMP_CTL_ON_TRIP]⟩,
  ⟨0x16518, [], .always, fun _ _ _ => [F.DUMP_STAT_BUSY, F.DUMP_STAT_SEQ_ARMED, F.DUMP_STAT_HOLD, F.DUMP_STAT_DONE_SEEN, F.DUMP_STAT_LAST_STATUS]⟩,
  ⟨0x18000, [], .always, fun _ _ _ => [F.TEST_STAT_ID, F.TEST_STAT_OBJECT, F.TEST_STAT_BUSY, F.TEST_STAT_PASS, F.TEST_STAT_PEND, F.TEST_STAT_ITEM, F.TEST_STAT_RUNS]⟩,
  ⟨0x18400, [(96, 8)], .phase, fun i _ _ => [F.CAL_IMON_GAIN i, F.CAL_IMON_OFS i]⟩]

/-- Every register of Table 17.2. -/
def regTable : List RegSpec :=
  regTable0 ++ regTable1 ++ regTable2 ++ regTable3 ++ regTable4 ++ regTable5 ++ regTable6 ++ regTable7 ++ regTable8 ++ regTable9 ++ regTable10 ++ regTable11

end Sys2Proof.Machine
end

