-- ==== Sys2Proof/Machine/Sparse.lean ====
section
/-! DEFINITION. Named operations over sparse maps, bit fields and two's-complement numbers: the arithmetic helpers
that every engine uses (R6 encodings, R8 fields). -/

namespace Sys2Proof.Machine

/-! ## Sparse maps -/

/-- The value at key `k`, or `d` where the map lists none. -/
def mget {α : Type} (d : α) : Sparse α → Nat → α
  | [], _ => d
  | (k', v) :: r, k => if k = k' then v else mget d r k

/-- The map with key `k` set to `v`; a sorted list stays sorted. -/
def mput {α : Type} : Sparse α → Nat → α → Sparse α
  | [], k, v => [(k, v)]
  | (k', v') :: r, k, v =>
    if k < k' then (k, v) :: (k', v') :: r
    else if k = k' then (k, v) :: r
    else (k', v') :: mput r k v

/-- The map without key `k`. -/
def mdel {α : Type} (m : Sparse α) (k : Nat) : Sparse α :=
  m.filter (fun e => e.1 != k)

/-- The listed entry at key `k`, if there is one. -/
def mfind {α : Type} : Sparse α → Nat → Option α
  | [], _ => none
  | (k', v) :: r, k => if k = k' then some v else mfind r k

/-- The map with every listed value changed by `f`. -/
def mmap {α : Type} (f : Nat → α → α) (m : Sparse α) : Sparse α :=
  m.map (fun e => (e.1, f e.1 e.2))

/-- The keys whose entries satisfy `p`, in rising order for a sorted map. -/
def mkeys {α : Type} (p : Nat → α → Bool) (m : Sparse α) : List Nat :=
  (m.filter (fun e => p e.1 e.2)).map (·.1)

/-! ## Numbers and bits -/

/-- `len` bits of `v` from bit `lo`. -/
def bits (v lo len : Nat) : Nat := v / 2 ^ lo % 2 ^ len

/-- Bit `i` of `v`. -/
def bit (v i : Nat) : Bool := v / 2 ^ i % 2 == 1

/-- `v` with bit `i` set. -/
def withBit (v i : Nat) : Nat := if bit v i then v else v + 2 ^ i

/-- `v` with bit `i` clear. -/
def withoutBit (v i : Nat) : Nat := if bit v i then v - 2 ^ i else v

/-- A truth value as a bit. -/
def b2n (b : Bool) : Nat := if b then 1 else 0

/-- The low `len` bits of `v` read as two's complement. -/
def sx (len v : Nat) : Int :=
  if v % 2 ^ len < 2 ^ (len - 1) then (v % 2 ^ len : Nat) else (v % 2 ^ len : Nat) - (2 ^ len : Nat)

/-- The two's-complement code of `i` in `len` bits, wrapping. -/
def ux (len : Nat) (i : Int) : Nat := (i % ((2 ^ len : Nat) : Int)).toNat

/-- `i` kept between `lo` and `hi`. -/
def clampI (lo hi i : Int) : Int := if i < lo then lo else if hi < i then hi else i

/-- `i` saturated to an unsigned number of `len` bits. -/
def satU (len : Nat) (i : Int) : Nat := (clampI 0 ((2 ^ len : Nat) - 1) i).toNat

/-- `i` saturated to a signed number of `len` bits. -/
def satS (len : Nat) (i : Int) : Int := clampI (-((2 ^ (len - 1) : Nat) : Int)) ((2 ^ (len - 1) : Nat) - 1) i

/-- `n` saturated to `len` bits. -/
def satN (len n : Nat) : Nat := min n (2 ^ len - 1)

/-- `a / b` rounded to the nearest integer, ties upward; `b` positive. -/
def rndUp (a b : Int) : Int := (2 * a + b) / (2 * b)

/-- `a / b` rounded to the nearest integer, ties away from zero; `b` positive. -/
def rndAway (a b : Int) : Int := if 0 ≤ a then rndUp a b else -(rndUp (-a) b)

/-- Number of bits of `n`: 0 for 0, 1 for 1, 2 for 2 and 3 (R459). -/
def bitLen (n : Nat) : Nat := if n = 0 then 0 else Nat.log2 n + 1

/-- Number of one bits among the low `len` bits of `v`. -/
def popCount (len v : Nat) : Nat := ((List.range len).filter (fun i => bit v i)).length

/-- The lowest index below `n` that satisfies `p`. -/
def lowest (n : Nat) (p : Nat → Bool) : Option Nat := (List.range n).find? p

/-- The sum of `f i` for `i` below `n`. -/
def sumTo (n : Nat) (f : Nat → Nat) : Nat := ((List.range n).map f).foldl (· + ·) 0

/-- The greatest of `f i` for `i` in the list, 0 for none. -/
def maxOf (l : List Nat) (f : Nat → Nat) : Nat := (l.map f).foldl max 0

/-- A mean of a non-empty list, rounded to nearest with ties upward; 0 for the empty list. -/
def meanUp (l : List Nat) : Nat :=
  if l.length = 0 then 0 else (2 * l.foldl (· + ·) 0 + l.length) / (2 * l.length)

/-! ## Memory: raw store bytes at store offsets -/

/-- The byte at address `a`; an unlisted address reads 0, as clearing leaves it (R103). (DESIGN CHOICE, log 24) -/
def memGet : List (Nat × Byte) → Nat → Byte
  | [], _ => 0
  | (a', v) :: r, a => if a = a' then v else memGet r a

/-- Memory with byte `a` set to `v`, in the canonical form: strictly rising addresses, no zero byte listed. -/
def memPut : List (Nat × Byte) → Nat → Byte → List (Nat × Byte)
  | [], a, v => if v = 0 then [] else [(a, v)]
  | (a', v') :: r, a, v =>
    if a < a' then (if v = 0 then (a', v') :: r else (a, v) :: (a', v') :: r)
    else if a = a' then (if v = 0 then r else (a, v) :: r)
    else (a', v') :: memPut r a v

/-- The canonical form of the memory above address bound `lo`. -/
def memWfFrom : Nat → List (Nat × Byte) → Bool
  | _, [] => true
  | lo, (a, v) :: r => decide (lo ≤ a) && (v != 0) && memWfFrom (a + 1) r

/-- Memory is in canonical form: strictly rising addresses and no entry equal to what an unlisted address reads as. -/
def memWf (m : List (Nat × Byte)) : Bool := memWfFrom 0 m

/-- The 64-bit little-endian word at byte address `a`. -/
def memWord (m : List (Nat × Byte)) (a : Nat) : Nat :=
  sumTo 8 (fun i => (memGet m (a + i)).toNat * 2 ^ (8 * i))

/-- Memory with `n` bytes of the little-endian value `v` stored from address `a` upward. -/
def memPutBytes (m : List (Nat × Byte)) (a v : Nat) : Nat → List (Nat × Byte)
  | 0 => m
  | n + 1 => memPutBytes (memPut m a (BitVec.ofNat 8 v)) (a + 1) (v / 256) n

end Sys2Proof.Machine
end

