-- ==== Sys2Proof/Config.lean ====
section
/-! DEFINITION. What an implementation fixes or the spec leaves open: free values. A free value is a constant with no
body, so no proof can see what it is; each one is applied to a plain counter of State or to the operands it depends
on, and each is named in the assumption log. -/

namespace Sys2Proof.Config

/-- Whether a GOV_PORST_N pulse shorter than 5 ns resets the governor: "may or may not" (R68). -/
opaque shortPulseResets : Nat → Bool

/-- Whether a PFAULT_N pulse of 20 ns or more but under 40 ns is recognised: R40 leaves it open. (DESIGN CHOICE, log 99) -/
opaque shortFaultSeen : Nat → Bool

/-- NF of R230 where IPH_ADD is 0, by the greatest horizon current in the window: the spec states no quotient.
(DESIGN CHOICE, log 77) -/
opaque nfByZero : Nat → Nat

/-- A value that the spec leaves open for a command that otherwise completes; applied to the fresh counter of State.
(log 3) -/
opaque freeNat : Nat → Nat

/-- Whether a clock source of which the state does not say whether it runs does run, at a write of CLKOUT_CTL that is no
CLKOUT_CTL_WRITE (R93); applied to the fresh counter of State. (log 3) -/
opaque sourceRuns : Nat → Bool

end Sys2Proof.Config
end

