-- ==== Sys2Proof/Machine/State.lean ====
section
/-! DEFINITION. The machine's state as plain data: build parameters, raw store bytes, every register field, every
engine's state the spec names beside its registers, the outputs, and the queue of waiting commands; and the state
right after reset. A register of Table 17.2 has its home in `regs`, keyed by `Fld.key`; a store region other than
the signature store and bytes 0 to 95 of the thermal records has its home in the engine state it images. -/

namespace Sys2Proof.Machine

/-! ## Outcomes that stop -/

/-- Faults. -/
inductive Fault where
  /-- Raised by no meaning: the spec gives every command of a built block an effect, so none ends in a fault. Its name is
  R490's: a block whose build parameters lie outside Table 18.1 is no Yarrov YG4 Power Governor. Safe. -/
  | notAGovernor
  deriving DecidableEq, Repr

/-- Refusals. -/
inductive Refusal where
  /-- Raised by an arm of Dispatch whose command has no meaning yet; safe. -/
  | notModelled (mnemonic : String)
  deriving DecidableEq, Repr

/-! ## Build parameters (Table 18.1) -/

/-- What the integrator fixes when the block is built (R490). -/
structure Build where
  dies : Nat
  tiles : Nat
  rails : Nat
  phases : Nat
  nStacks : Nat
  requesters : Nat
  partitions : Nat
  /-- First phase wired to slice n, and the number of its channels (Table 18.1, R491). -/
  slices : List (Nat × Nat)
  /-- Requesters served by hub d, in ascending d (Table 18.1). -/
  hubs : List Nat
  /-- 7-bit SMBus address (R71). -/
  smbAddr : Nat
  /-- IDCODE manufacturer identity, 11 bits (R78). -/
  idMfr : Nat
  deriving DecidableEq, Repr

/-! ## Recorder state (spec/16) -/

/-- One event on its way to the ring, or in it (Table 16.1). -/
structure Evt where
  code : Nat := 0
  time : Nat := 0
  port : Nat := 15
  sat : Bool := false
  capt : Bool := false
  unal : Bool := false
  p0 : Nat := 0
  p1 : Nat := 0
  p2 : Nat := 0
  p3 : Nat := 0
  deriving DecidableEq, Repr

/-- One slot of the event ring: a record with its sequence number (R449). -/
structure RingRec where
  valid : Bool := false
  seq : Nat := 0
  evt : Evt := {}
  deriving DecidableEq, Repr

/-- Running statistics of a histogram (Table 16.6). -/
structure HStat where
  total : Nat := 0
  sum : Int := 0
  min : Int := 0
  max : Int := 0
  tMin : Nat := 0
  tMax : Nat := 0
  deriving DecidableEq, Repr

/-- One histogram: accumulators since the last flush, statistics since the last flush and since the last clear, and
the image last written to the store (R459 to R462). -/
structure Hist where
  acc : Sparse Nat := []
  since : HStat := {}
  run : HStat := {}
  image : HStat := {}
  buckets : Sparse Nat := []
  seq : Nat := 0
  clears : Nat := 0
  clearPend : Bool := false
  deriving DecidableEq, Repr

/-- One trace entry (Table 16.8). -/
structure TEntry where
  kind : Nat := 0
  buf : Nat := 0
  loss : Bool := false
  sat : Bool := false
  capt : Bool := false
  tseq : Nat := 0
  time : Nat := 0
  p0 : Nat := 0
  p1 : Nat := 0
  p2 : Nat := 0
  p3 : Nat := 0
  deriving DecidableEq, Repr

/-- One trace buffer: its image by entry place (R482), the next place, the number of entries not yet drained, the next
TSEQ, and whether entries were refused since the last one taken (R463, R465). -/
structure TBuf where
  img : Sparse TEntry := []
  pos : Nat := 0
  held : Nat := 0
  tseq : Nat := 0
  lossPend : Bool := false
  deriving DecidableEq, Repr

/-- A dump being written, armed or waiting (R468 to R471). `kind` is 0 STATE or 1 SEQUENCE. -/
structure Dump where
  kind : Nat := 0
  addr : Nat := 0
  len : Nat := 0
  trig : Nat := 0
  tStart : Nat := 0
  step : Nat := 0
  nextSeq : Nat := 0
  status : Nat := 0
  /-- Section lengths written, in order. -/
  sects : List Nat := []
  /-- The SKEY and context named, for a SEQUENCE dump. -/
  skey : Nat := 0
  ctx : Nat := 0
  /-- The sequence slot found and the pages copied into staging. -/
  sid : Option Nat := none
  pages : List Nat := []
  deriving DecidableEq, Repr

/-- The recorder's state beside its registers. -/
structure Recr where
  queue : List Evt := []
  /-- The port whose access or command is being carried out, 15 for none: PORT of the events it causes (Table 16.1). -/
  cause : Nat := 15
  dropped : Nat := 0
  dropTime : Nat := 0
  ring : Sparse RingRec := []
  /-- REC_START has been written (R453). -/
  started : Bool := false
  hists : Sparse Hist := []
  tbufs : Sparse TBuf := []
  /-- Buffer last served by the drain (R466). -/
  drainLast : Nat := 7
  /-- A new drain ring waits for the entry being drained (R467). -/
  ringNew : Option (Nat × Nat) := none
  /-- The ring in force: address and size. -/
  ringCur : Nat × Nat := (0, 0)
  /-- The entry whose write responses are awaited (R466), by buffer. -/
  draining : Option Nat := none
  dump : Option Dump := none
  armed : Option Dump := none
  /-- A trigger that arose while a dump was running: its TRIG word (R470). -/
  dumpTrig : Option Nat := none
  /-- A SEQUENCE dump whose copy is taken and which waits for the dump that runs (R471). -/
  seqWait : Option Dump := none
  /-- Pages held for a SEQUENCE dump until DUMP_STAT.HOLD is cleared (R471). -/
  dumpHold : List Nat := []
  /-- Header of the dump last completed, as 24 words (Table 16.10). -/
  header : List Nat := []
  /-- Dump staging has been written since reset. -/
  staged : Bool := false
  /-- Sum of POUT not yet counted in UTIL_CNT[7], 1/8 W µs (Table 16.5). -/
  energyAcc : Nat := 0
  /-- Some rail had a limited period in this µs (UTIL_CNT[5]). -/
  limitedUs : Bool := false
  /-- Tiles whose reports in this µs gave DLVL 2 or more (histogram 63). -/
  deepTiles : List Nat := []
  /-- Last µs instant counted, and last 10 µs flush. -/
  lastUs : Nat := 0
  lastFlush : Nat := 0
  deriving DecidableEq, Repr

/-! ## Clocks (spec/03) -/

/-- Clock state beside its registers. -/
structure Clk where
  /-- XO start delay not yet elapsed: the GPLL is held (R81). -/
  xoWait : Bool := true
  /-- XO cycles of the start delay that runs or ran last (R81, R82). -/
  xoCycles : Nat := 0
  /-- GTIME since which the XO has not been ready, while GCLK runs (R83). -/
  xoDownAt : Option Nat := none
  /-- A switch has been completed since the reference was last lost (R86). -/
  switched : Bool := false
  /-- GTIME at which HR_RCK[PREF] last became ready, per source (R87). -/
  readySince : Sparse Nat := []
  /-- Setting that drives GOV_CLKOUT: source, slice, divider; none: low (R93). -/
  clkout : Option (Nat × Nat × Nat) := none
  /-- Latched upper half of GTIME, per port (R97). -/
  hiLatch : Sparse Nat := []
  /-- VSEL code valid (R69), and whether one has been taken. -/
  vsel : Nat := 0
  /-- HR_ROOT as sampled (R69). -/
  hrRoot : Bool := false
  deriving DecidableEq, Repr

/-! ## Bring-up (spec/04) -/

/-- Probe of one rail (R119). Sums are over kept repetitions; voltages in codes and currents in codes, each
referred to the sum of 32 reference samples and so scaled by 32. -/
structure Probe where
  rail : Nat := 0
  reps : Nat := 0
  kept : Nat := 0
  aborts : Nat := 0
  inPulse : Bool := false
  v0 : Int := 0
  i0 : Int := 0
  d0 : Nat := 0
  t0 : Nat := 0
  sqq : Int := 0
  sqi : Int := 0
  sii : Int := 0
  sqv : Int := 0
  siv : Int := 0
  /-- A CAL_PROBE rather than the probe of bring-up (R501): whether it may switch sets, and the number of its command
  in progress where its reply waits. -/
  cal : Bool := false
  pick : Bool := false
  cmd : Option Nat := none
  /-- GTIME at which the present pulse began, and its duty for the second 2 µs (R119 item 3). -/
  tp : Nat := 0
  d2 : Nat := 0
  /-- STOP has arrived: Seq-down begins when the pulse ends (Table 4.4). -/
  stopPend : Bool := false
  deriving DecidableEq, Repr

/-- Bring-up state beside its registers. -/
structure Brg where
  /-- The store stage's clearing has ended (R104). -/
  cleared : Bool := false
  /-- Identification, and the sense checks of Discover, are done (R105, R107). -/
  idDone : Bool := false
  /-- GTIME of the accepted START whose VIN wait is running (R110). -/
  startAt : Option Nat := none
  /-- VIN has settled after START: sense checks run, then groups (R108, R110). -/
  vinOk : Bool := false
  /-- GTIME since which VIN has been continuously in window, and continuously out of it. -/
  vinIn : Option Nat := none
  vinOutSince : Option Nat := none
  vinSettled : Bool := false
  /-- Consecutive conversions below VIN_UVLO (R206). -/
  uvloCnt : Nat := 0
  /-- Groups started in Seq-up so far are those below or equal to this one; none before the first. -/
  group : Option Nat := none
  /-- Group coming down in Seq-down (R125). -/
  downGroup : Option Nat := none
  /-- Seq-down waits for outstanding grants since this GTIME (R125 item 2). -/
  drainAt : Option Nat := none
  /-- GTIME of entry to the Links stage (R122), and a Ready stage waiting for the satellites (R123). -/
  linksAt : Nat := 0
  readyWait : Option Nat := none
  /-- The Ready stage had been reached when Seq-down began. -/
  wasReady : Bool := false
  /-- The Ready stage has been reached since the last reset (R124). -/
  everReady : Bool := false
  /-- GOV_READY as driven. -/
  govReady : Bool := false
  /-- Fuse identity captured (R76). -/
  fuseDone : Bool := false
  deriving DecidableEq, Repr

/-! ## Rails (spec/06) and phases (spec/07) -/

/-- State of one second-order section (R158). -/
structure Sec where
  x1 : Int := 0
  x2 : Int := 0
  y1 : Int := 0
  y2 : Int := 0
  deriving DecidableEq, Repr

/-- A reference ramp (R113, R125): start instant, start voltage, end voltage and duration in ns. -/
structure Ramp where
  t0 : Nat := 0
  v0 : Nat := 0
  v1 : Nat := 0
  dur : Nat := 0
  deriving DecidableEq, Repr

/-- A change of set-point on its way to the rail (R166): operating point, value, earliest GTIME. -/
structure VChange where
  opt : Nat := 0
  v : Nat := 0
  atT : Nat := 0
  deriving DecidableEq, Repr

/-- One rail's state beside its registers. -/
structure Rail where
  /-- RAIL_CFG in force (R152). -/
  per : Nat := 0
  k : Nat := 1
  sofs : Nat := 0
  first : Nat := 0
  count : Nat := 0
  /-- A slice marked failed (R45). -/
  sliceFail : Bool := false
  /-- Measured voltage of the last sense-line check, codes (R107), and whether the check failed. -/
  vpre : Nat := 0
  senseBad : Bool := false
  senseDone : Bool := false
  /-- Sequencing: the rail's group has started it; PEN has risen; the 2 µs at mid level are over; it is good. -/
  dlyAt : Option Nat := none
  started : Bool := false
  midAt : Option Nat := none
  switching : Bool := false
  good : Bool := false
  goodCnt : Nat := 0
  ramp : Ramp := {}
  overDuty : Nat := 0
  overVolt : Nat := 0
  /-- Set-point in force, or target of the ramp (R111, R165). -/
  vset : Nat := 0
  vchg : Option VChange := none
  /-- Set-point from which over-voltage is judged, and the thresholds of R148 are computed. -/
  vov : Nat := 0
  vthr : Nat := 0
  winCnt : Nat := 0
  /-- Compensator and feed-forward state (R158, R163). -/
  secs : List Sec := [{}, {}, {}, {}]
  ff : Int := 0
  uff : Int := 0
  /-- A CLOSE waiting for the next pass: its duty (R171). -/
  close : Option Int := none
  /-- The next sample is held for a set switch, and the rail goes back to RAMP after it (R169). -/
  hold : Bool := false
  holdRamp : Bool := false
  /-- Instant of the rail's last CLOSE or OFFSET, units of 62.5 ps (R156). -/
  initAt : Option Nat := none
  csetReq : Option Nat := none
  /-- The phases have been cut since the previous pass, and in the present period (R160, R194). -/
  cutPass : Bool := false
  limited : Bool := false
  /-- Last boundary and period in force, units of 62.5 ps; index of the next update instant (R153, R155). -/
  bnd : Nat := 0
  perCur : Nat := 0
  jIdx : Nat := 0
  /-- PWM_SYNC (R174, R175): last rising edge, consecutive good edges, edge index, period returning to PER. -/
  syncEdge : Option Nat := none
  syncGood : Nat := 0
  syncIdx : Nat := 0
  syncInt : Nat := 0
  slewLeft : Nat := 0
  slewFrom : Nat := 0
  /-- ISUM of the last 16 passes, newest first (IF of R188). -/
  isums : List Nat := []
  /-- Boundaries at which n_use exceeded n_shed; boundaries of the burst condition (R188, R191). -/
  shedCnt : Nat := 0
  burstCnt : Nat := 0
  addSeen : Bool := false
  /-- Burst state (R191 to R193). -/
  db : Nat := 0
  bursting : Nat := 0
  wake : Bool := false
  /-- End of the last burst, units of 62.5 ps, while the rail sleeps after it (R192). -/
  sleepFrom : Option Nat := none
  burstExit : Bool := false
  /-- The rail comes down once it has left BURST (R125, R193). -/
  downPend : Bool := false
  /-- Hiccup and grace (R194 to R197). -/
  graceAt : Option Nat := none
  penFell : Option Nat := none
  /-- GTIME of the entry to HICCUP; the voltage measured when HICCUP_OFF had elapsed, while the retry waits for its
  boundary; a failed retry that waits for its boundary (Table 7.2). -/
  hicAt : Option Nat := none
  retryV : Option Nat := none
  retry : Bool := false
  retryFail : Bool := false
  steadyAt : Option Nat := none
  /-- Consecutive samples above the over-voltage limit and below the under-voltage limit (R203, R204). -/
  ovCnt : Nat := 0
  uvCnt : Nat := 0
  /-- Over-voltage clamp: every phase held low since this GTIME (R203). -/
  clampAt : Option Nat := none
  /-- A staged commit waits for the rail's boundary: earliest GTIME (R176), and the values it brings, by field key. -/
  commitAt : Option Nat := none
  staged : Sparse Nat := []
  /-- RAIL_LIM, RAIL_SHED, RAIL_BURST, RAIL_PROT and RAIL_IMB as in force since the last boundary (R209). -/
  lim : Sparse Nat := []
  /-- Lowest stage rating on the rail, current codes (R106, R185). -/
  rating : Nat := 0
  /-- The previous pass was limited at DMAX (R188 emergency add). -/
  clampPrev : Bool := false
  /-- The bring-up probe of the rail is over (R119). -/
  probed : Bool := false
  deriving DecidableEq, Repr

/-- Level driven on PWM[p] (Table 2.2). -/
inductive Pwm where
  | hiZ | mid | low | high
  deriving DecidableEq, Repr

/-- One phase's state beside its registers. -/
structure Phase where
  pen : Bool := false
  /-- Level as of the instant up to which the rail's phases have been followed, units of 62.5 ps. -/
  pwm : Pwm := .hiZ
  /-- The phase switches at the rail's duty; the instant at which its present pulse rose; its next period start (R154,
  R182), none where that start follows only from the next boundary. Instants are units of 62.5 ps. -/
  sw : Bool := false
  rise : Nat := 0
  next : Option Nat := none
  /-- Start offset in the period, 62.5 ps units (R181). -/
  offs : Nat := 0
  /-- Conversions of the window so far: currents and raw codes, and whether the window is discarded. -/
  win : List Int := []
  raw : List Nat := []
  spoiled : Bool := false
  last : Int := 0
  /-- Latest window mean, current codes, signed. -/
  mean : Int := 0
  imbOut : Nat := 0
  imbIn : Nat := 0
  imbAt : Option Nat := none
  openCnt : Nat := 0
  /-- Usable: counted in N_u (R180); kept through HICCUP (R196). -/
  usable : Bool := false
  /-- Shed at a boundary, IDLE from this instant, 62.5 ps units (R190). -/
  shedAt : Option Nat := none
  /-- Retired, mid level from this instant, 62.5 ps units (R201). -/
  retireAt : Option Nat := none
  /-- Shutdown delays after mid level: 2 PEN still high, 1 PEN low and PWM still mid, 0 none (R196, R201); and the
  GTIME at which the running delay began. -/
  shut : Nat := 0
  shutAt : Nat := 0
  deriving DecidableEq, Repr

/-- One IMON converter of a slice: its LFSR, its position in the round, the wait last chosen (R183). -/
structure Conv where
  lfsr : Nat := 0
  pos : Nat := 0
  wait : Nat := 0
  deriving DecidableEq, Repr

/-! ## Springtail (spec/05) -/

/-- The settings of a ring header (Table 5.2), without FNUM and CRC. `noRail` is no bit of the header: it marks a die
whose ST_THR.RAIL names a rail that is not built, for which no threshold stands (R131). -/
structure StSet where
  hseq : Nat := 0
  tlvl : Nat := 0
  mode : Nat := 0
  l1 : Nat := 0
  s1 : Nat := 0
  l2 : Nat := 0
  s2 : Nat := 0
  hys : Nat := 0
  hold : Nat := 0
  rdiv : Nat := 0
  noRail : Bool := false
  deriving DecidableEq, Repr

/-- A whole ring header as sent (Table 5.2). -/
structure StHdr where
  fnum : Nat := 0
  set : StSet := {}
  enm : Nat := 0
  ofs : Nat := 0
  deriving DecidableEq, Repr

/-- A header received whole and not yet applied: the settings, and where it carries them the tile's ENMASK bit and OFS
(R48, R139, R140). -/
structure StPend where
  set : StSet := {}
  en : Option Bool := none
  ofs : Option Nat := none
  deriving DecidableEq, Repr

/-- One satellite (R128 to R138): its supply, its TCLK_EN, the settings it holds, the droop level with its hold and
ramp, the throttle floor with its ramp, and its counts. -/
structure Sat where
  supply : Bool := false
  en : Bool := false
  /-- A valid header has come within the ring-loss time, and the ENMASK bit last carried for the tile since. -/
  ringOk : Bool := false
  enBit : Bool := false
  set : StSet := {}
  ofs : Nat := 0
  /-- A header received whole, applied at the next tile clock edge (R48). -/
  pend : Option StPend := none
  /-- GTIME at which the counts are latched for the report slot of the frame that passes, and the report written into the
  slot, on its way to the core (R141). -/
  latch : Option Nat := none
  slot : Option Nat := none
  /-- Supply last seen by the detector, nV, and the droop level it gives. -/
  vs : Option Int := none
  level : Nat := 0
  stretch : Nat := 0
  holdCnt : Nat := 0
  rampCnt : Nat := 0
  floor : Nat := 0
  floorCnt : Nat := 0
  /-- Highest level in the interval since the last report, and whether every decision of it stood at level 2. -/
  dmax : Nat := 0
  dall : Bool := true
  tcyc : Nat := 0
  tstr : Nat := 0
  tstop : Nat := 0
  /-- TCLK_OUT has stopped: GTIME up to which TSTOP has been counted (R137). -/
  stopAt : Option Nat := none
  deriving DecidableEq, Repr

/-- One Springtail ring as the core keeps it: next FNUM, the settings last sent, the header in flight, the FNUMs of
frames not yet returned, the run of returned frames that passed, and the tile indices, as bits, whose report slots have gone
out and not come back (R47, R139, R145). -/
structure Ring where
  fnum : Nat := 0
  sent : StSet := {}
  hdr : Option StHdr := none
  out : List Nat := []
  okRun : Nat := 0
  due : Nat := 0
  deriving DecidableEq, Repr

/-- A tile's record (Table 5.4) and what the core keeps with it: low bits last reported, whether a valid report has
come since reset, the run of lost reports, NOREP's start, and the gap of DROOP events (R142, R146). -/
structure TRec where
  cap : Nat := 0
  tcyc : Nat := 0
  tstr : Nat := 0
  tstop : Nat := 0
  n1 : Nat := 0
  n2 : Nat := 0
  n3 : Nat := 0
  lost : Nat := 0
  seq : Nat := 0
  valid : Bool := false
  lowC : Nat := 0
  lowS : Nat := 0
  lowP : Nat := 0
  lostRun : Nat := 0
  lastRep : Nat := 0
  norepAt : Nat := 0
  /-- This NOREP has been reported (R144, R420 cause 9): the model's own note that the watch acts once. -/
  norepTold : Bool := false
  droopT : Option Nat := none
  droopN : Nat := 0
  droopS : Nat := 0
  /-- A word of the record was lost in the store, and the record has not been written since (Table 15.6). -/
  wiped : Bool := false
  deriving DecidableEq, Repr

/-- Springtail's state: satellites by global tile index, rings by die, ENMASK as 64 bits per die, tile records. -/
structure StState where
  sats : Sparse Sat := []
  rings : Sparse Ring := []
  enmask : Sparse Nat := []
  recs : Sparse TRec := []
  /-- End of the last hiccup or recovery hold of each die (R422). -/
  holdEnd : Sparse Nat := []
  deriving DecidableEq, Repr


/-! ## Placement (spec/11, spec/12) -/

/-- One page: its residency entry (Table 11.8) without WREF and RREF, which the reference table gives, and what the
engine keeps with it while it moves (R320, R322). A frame is named as tier × 2^23 + LOC. -/
structure Page where
  state : Nat := 0
  tier : Nat := 0
  sid : Nat := 0
  ver : Nat := 0
  loc : Nat := 0
  next : Nat := 0
  /-- The sequence instance that owns the page: slots are used again, instances are not. -/
  uid : Nat := 0
  /-- Context, generation and partition of that instance, for its orders (Table 12.2). -/
  ctx : Nat := 0
  cgen : Nat := 0
  part : Nat := 0
  /-- Destination frame reserved, and old frame kept. -/
  dst : Option Nat := none
  old : Option Nat := none
  abort : Bool := false
  spill : Bool := false
  /-- Step and GTIME of the selection; last write handle that a DEFERRED page waited on. -/
  selStep : Nat := 0
  selT : Nat := 0
  waitH : Option Nat := none
  /-- The XLATE_INV of the page's move has completed. -/
  invDone : Bool := false
  deriving DecidableEq, Repr

/-- One grant naming a page, in the reference table (R305, R322 item 5). -/
structure PRef where
  h : Nat := 0
  page : Nat := 0
  wr : Bool := false
  after : Bool := false
  deriving DecidableEq, Repr

/-- One placement order (Table 12.2), waiting to be issued or outstanding. -/
structure Ord where
  id : Nat := 0
  kind : Nat := 0
  page : Nat := 0
  ver : Nat := 0
  spill : Bool := false
  src : Nat := 0
  dst : Nat := 0
  ctx : Nat := 0
  cgen : Nat := 0
  part : Nat := 0
  pgen : Nat := 0
  sid : Nat := 0
  uid : Nat := 0
  step : Nat := 0
  tIssue : Nat := 0
  issued : Bool := false
  wo : Bool := false
  late : Bool := false
  retried : Bool := false
  /-- The step whose reply waits for this RELEASE (R326). -/
  replyWait : Bool := false
  deriving DecidableEq, Repr

/-- One sequence slot (Table 11.7, Table 12.11); page counts are taken from the pages. -/
structure Seqn where
  state : Nat := 0
  prio : Nat := 0
  ctx : Nat := 0
  cgen : Nat := 0
  part : Nat := 0
  home : Nat := 0
  skey : Nat := 0
  head : Nat := 0
  tail : Nat := 0
  jstep : Nat := 0
  last : Nat := 0
  shard : Nat := 0
  upd : Nat := 0
  spilled : Nat := 0
  dstep : Nat := 0
  dcnt : Nat := 0
  revoked : Bool := false
  ttd : Nat := 0
  uid : Nat := 0
  /-- Pages whose entries were lost with a residency bank (R440). -/
  lostPg : Nat := 0
  deriving DecidableEq, Repr

/-- A step whose descriptor is being fetched, or whose reply is being written: where its descriptor lies, when PL_STEP
accepted it, and the reply words that wait for their write responses (R293, R311). -/
structure PStep where
  addr : Nat := 0
  tCmd : Nat := 0
  fetched : Bool := false
  replyAddr : Nat := 0
  reply : List Nat := []
  deriving DecidableEq, Repr

/-- Placement's state beside its registers. -/
structure PlState where
  /-- Context policy table (Table 11.5). -/
  policy : Sparse Nat := []
  seqs : Sparse Seqn := []
  pages : Sparse Page := []
  refs : List PRef := []
  /-- Frames in use, by container tier × 32 + index, in ascending order; withheld frames stay in it. -/
  used : Sparse (List Nat) := []
  held : List Nat := []
  ords : List Ord := []
  nextId : Nat := 0
  uids : Nat := 1
  /-- STEP of the last step applied since reset (R295). -/
  lastApplied : Nat := 0
  cur : Option PStep := none
  pend : Option PStep := none
  /-- Contexts revoked while a step was in progress, with generation (R333). -/
  revoked : List (Nat × Nat) := []
  /-- Residency banks given up, and lost entries whose walk is running (R309, R440). -/
  given : Nat := 0
  walk : Bool := false
  lostPages : List Nat := []
  /-- The order last sent on the placement port. -/
  plo : Option Ord := none
  deriving DecidableEq, Repr


/-! ## Demand (spec/08) -/

/-- The decoded form of a signature: its rails with their segments as (I, START) pairs (R210, R211). -/
structure Sig where
  railA : Nat := 0
  railB : Nat := 0
  segA : List (Nat × Nat) := []
  segB : List (Nat × Nat) := []
  ver : Nat := 0
  /-- The 64 bytes of the image as loaded, byte 0 lowest. -/
  img : Nat := 0
  deriving DecidableEq, Repr

/-- An announcement (Table 2.6) on its way to its lane. -/
structure Ann where
  req : Nat := 0
  sig : Nat := 0
  ctx : Nat := 0
  cgen : Nat := 0
  cls : Nat := 0
  slot : Nat := 0
  pmode : Nat := 0
  page : Nat := 0
  /-- GTIME of its first decision, where it waits for an entry (R218). -/
  t0 : Option Nat := none
  deriving DecidableEq, Repr

/-- A completion on its way to the core. -/
structure Done where
  req : Nat := 0
  handle : Nat := 0
  kind : Nat := 0
  deriving DecidableEq, Repr

/-- A grant table entry (Table 8.2) and what the engine keeps with it. `st` is 0 FREE, 1 HELD, 2 GRANTED. -/
structure Grant where
  sig : Nat := 0
  ctx : Nat := 0
  cgen : Nat := 0
  req : Nat := 0
  slot : Nat := 0
  cls : Nat := 0
  st : Nat := 0
  pmode : Nat := 0
  demoted : Bool := false
  past : Bool := false
  part : Nat := 0
  pwr : Nat := 0
  page : Nat := 0
  gslot : Nat := 0
  dec : Sig := {}
  /-- Order of decision, first decision, HELD since, granted at. -/
  age : Nat := 0
  t0 : Nat := 0
  heldAt : Nat := 0
  grantAt : Nat := 0
  blocking : Bool := false
  /-- To be re-tested (R226). -/
  due : Bool := false
  /-- First failed test, and the scope that failed last: kind × 16 + index (R464). -/
  failAt : Nat := 0
  scope : Nat := 0
  /-- Deathwatch has named the entry (R421). -/
  named : Bool := false
  deriving DecidableEq, Repr

/-- A context (R214): 0 FREE, 1 LIVE, 2 DRAIN. -/
structure Ctx where
  st : Nat := 0
  cgen : Nat := 0
  part : Nat := 0
  cmin : Nat := 0
  /-- GTIME of the revocation whose drain runs. -/
  drainAt : Nat := 0
  /-- The drain has ended (R233). -/
  ended : Bool := false
  deriving DecidableEq, Repr

/-- One delta in the backlog (R227, R231); `gid` names the grant whose start delta it is, 0 for a completion. -/
structure Delta where
  rail : Nat := 0
  slot : Nat := 0
  v : Int := 0
  cls : Nat := 0
  start : Bool := false
  gid : Nat := 0
  deriving DecidableEq, Repr

/-- A grant whose peaks a scan must still add: its rails with peaks, and its start deltas not yet written (R229). -/
structure PkPend where
  gid : Nat := 0
  peaks : List (Nat × Nat) := []
  left : Nat := 0
  deriving DecidableEq, Repr

/-- One admission hub: class queues, completion queue, the links with at most 9 announcements and 8 completions on
them, and the GCLK cycle up to which the links have moved (R215, R216). -/
structure Hub where
  q : Sparse (List Ann) := []
  link : List Ann := []
  cq : List Done := []
  clink : List Done := []
  tick : Nat := 0
  deriving DecidableEq, Repr

/-- The latest completed entry that touched a scope (R464). -/
structure Rel where
  t : Nat := 0
  handle : Nat := 0
  ctx : Nat := 0
  req : Nat := 0
  cls : Nat := 0
  deriving DecidableEq, Repr

/-- The pins of a requester's last result: slot, code, handle (Table 2.6). -/
structure Gnt where
  slot : Nat := 0
  code : Nat := 0
  handle : Nat := 0
  deriving DecidableEq, Repr

/-- Demand's state beside its registers. -/
structure DmState where
  sigs : Sparse Sig := []
  ctxs : Sparse Ctx := []
  grants : Sparse Grant := []
  hubs : Sparse Hub := []
  wait : List Ann := []
  /-- Hub counts, disabled requesters, and the last result on each requester's pins. -/
  reqCnt : Sparse Nat := []
  /-- Requesters of the completions accepted in GTIME cycle `freedAt` (R52). -/
  freed : List Nat := []
  freedAt : Nat := 0
  disabled : Sparse Bool := []
  gnt : Sparse Gnt := []
  isOpen : Bool := false
  ages : Nat := 1
  /-- Horizon: slot begun last, levels, rings, snapshot, results, and the slot of the results (R227 to R229). -/
  slot : Nat := 0
  lvl : Sparse Int := []
  ring : Sparse Int := []
  snapL : Sparse Int := []
  snapD : Sparse Int := []
  snapSlot : Nat := 0
  snapNew : Bool := false
  h : Sparse Nat := []
  hSlot : Nat := 0
  pk : Sparse Nat := []
  /-- Consecutive scans at which PK[n] was 0 (R501). -/
  pkZero : Sparse Nat := []
  pend : List PkPend := []
  backlog : List Delta := []
  /-- DMD_C0_OVER: last event, and grants since it (R223). -/
  overT : Option Nat := none
  overN : Nat := 0
  rel : Sparse Rel := []
  /-- Rails that a class-0 grant of this decision draws on (R501). -/
  c0rails : List Nat := []
  deriving DecidableEq, Repr


/-! ## Mailboxes, lock and configuration (spec/13) -/

/-- A packet in a command queue: header word, the port that pushed it, GTIME of its header and of its last word once
it is whole, MBX_CTL.OWNER as it stood at its header, its parameter words, and what it has waited on (Table 16.9, buffer 6). -/
structure Pkt where
  hdr : Nat := 0
  port : Nat := 0
  own : Nat := 7
  t0 : Nat := 0
  whole : Option Nat := none
  params : List Nat := []
  waited : Nat := 0
  deriving DecidableEq, Repr

/-- One mailbox: packets of its command queue, oldest first (only the last may be partial), its reply words, the half
words held by port, and GTIME of the last pop or of the reply that ended an empty queue (R339, R340, R353). -/
structure Mbx where
  q : List Pkt := []
  rq : List Nat := []
  half : Sparse Nat := []
  popT : Nat := 0
  deriving DecidableEq, Repr

/-- A command in progress (R348). `wait` says what it waits for: 0 nothing, 1 CFG_OPEN, 2 CFG_COMMIT, 3 RAIL_CSET,
4 TH_LOAD, 5 CAL_PROBE, 6 TEST_RUN; `obj` the object it waits on. -/
structure Cmd where
  mbx : Nat := 0
  port : Nat := 0
  cls : Nat := 0
  op : Nat := 0
  tag : Nat := 0
  mgen : Nat := 0
  arg : Nat := 0
  len : Nat := 0
  rsv : Nat := 0
  params : List Nat := []
  tWhole : Nat := 0
  tTake : Nat := 0
  waited : Nat := 0
  queued : Bool := false
  hres : Nat := 0
  wait : Nat := 0
  obj : Nat := 0
  late : Bool := false
  deriving DecidableEq, Repr

/-- The command engine: mailboxes, commands in progress, the last mailbox served by class, and the reply words last
posted. -/
structure MbxState where
  boxes : Sparse Mbx := []
  cmds : Sparse Cmd := []
  nextCmd : Nat := 1
  served : Sparse Nat := []
  deriving DecidableEq, Repr

/-- A commit in progress (R365 to R367). -/
structure Commit where
  atT : Nat := 0
  t0 : Nat := 0
  tc : Nat := 0
  staged : Bool := false
  applied : Bool := false
  nchg : Nat := 0
  /-- When the last change so far was applied, at Tc or by a rail (R367). -/
  last : Nat := 0
  deriving DecidableEq, Repr

/-- A check-word rewrite in progress: its start, whether its end clears DIRTY, and whether a write has left the image
uncovered meanwhile (R362, R364). -/
structure Rewrite where
  start : Nat := 0
  clears : Bool := false
  spoiled : Bool := false
  deriving DecidableEq, Repr

/-- Configuration state beside its registers: the shadow image by field key, the copy in progress, the commit. -/
structure CfgState where
  shadow : Sparse Nat := []
  copyAt : Option Nat := none
  abandon : Bool := false
  dirtyAtOpen : Bool := false
  /-- The shadow has been changed since the last commit (R442). -/
  changed : Bool := false
  atHi : Nat := 0
  commit : Option Commit := none
  rewrite : Option Rewrite := none
  /-- The live and shadow images over which the check word was last computed, none before the first; and whether it has
  been complemented since (R103, R366). -/
  chk : Option (Sparse Nat × Sparse Nat) := none
  chkInv : Bool := false
  /-- GTIME of the last access by port, for the lock timeout (R361). -/
  access : Sparse Nat := []
  deriving DecidableEq, Repr

/-- The status mirror: the snapshot being written, as its words 0 to 30, one that waits for its writes to begin, and
the 10 µs instant last passed (R358). -/
structure MirState where
  snap : Option (List Nat) := none
  wait : Option (List Nat) := none
  lastJ : Nat := 0
  deriving DecidableEq, Repr

/-- A DMA transaction outstanding (Table 2.10): DRQ_ID, the bytes `lo` to `hi` − 1 of its structure that it carries, in
beats from byte `off`, the GTIME of its request, and whether Deathwatch has named it. -/
structure DmaReq where
  id : Nat := 0
  off : Nat := 0
  lo : Nat := 0
  hi : Nat := 0
  t : Nat := 0
  late : Bool := false
  deriving DecidableEq, Repr

/-- A structure that a function of Table 13.19 (0 trace, 1 dump, 2 mirror, 3 placement) writes, or reads, through the DMA
port: address, words written, whether it writes. -/
structure DmaTx where
  addr : Nat := 0
  words : List Nat := []
  wr : Bool := true
  /-- Bytes of the present range still to request, the ranges after it as (from, to, after all responses before), and the
  transactions outstanding, oldest first (R62). -/
  pos : Nat := 0
  stop : Nat := 0
  parts : List (Nat × Nat × Bool) := []
  out : List DmaReq := []
  deriving DecidableEq, Repr


/-! ## Recovery and the store (spec/15, spec/17) -/

/-- A ladder step in progress (Table 15.2): step code, object, cause, start, the contexts it revoked with generation,
the partition steps a chip step has taken over, and whether its timeout has been acted on. -/
structure RStep where
  step : Nat := 0
  obj : Nat := 0
  cause : Nat := 0
  start : Nat := 0
  ctxs : List (Nat × Nat) := []
  parts : List Nat := []
  toDone : Bool := false
  deriving DecidableEq, Repr

/-- Deathwatch and the ladder beside their registers. -/
structure RcvState where
  steps : List RStep := []
  /-- Requesters disabled by a hold's step, by partition (16: the chip). -/
  holdReqs : Sparse (List Nat) := []
  /-- Completed partition steps whose hold stands; the chip's. -/
  blocked : List (Nat × Nat) := []
  /-- Engine steps: requester, GTIME, partition of the entry that triggered it. -/
  engT : List (Nat × Nat × Nat) := []
  /-- The ladder step last taken, its object and cause (R415). -/
  lastStep : Nat := 0
  lastObj : Nat := 0
  lastCause : Nat := 0
  /-- Next handle of the scan (R421). -/
  scan : Nat := 0
  /-- Link losses: link and GTIME. -/
  flaps : List (Nat × Nat) := []
  /-- TRAY_PWRCYC_N is asserted. -/
  pwrcyc : Bool := false
  deriving DecidableEq, Repr

/-- The store's banks: retirements waiting, by physical bank with their case, the bank whose copy runs, corrected errors by
bank, and functions waiting for a bank of the residency table (R437, R443, R444). -/
structure StoreState where
  queue : List (Nat × Nat) := []
  copying : Option (Nat × Nat) := none
  ce : Sparse (List Nat) := []
  /-- Logical banks that a function has given up or lost, by bank. -/
  gone : List Nat := []
  /-- Logical banks that wait for the residency bank given up, with that bank. -/
  waits : List (Nat × Nat) := []
  /-- GTIME from which the images in a bank are rewritten after its copy, by logical bank (Tables 8.6 and 9.5). -/
  rewrites : Sparse Nat := []
  deriving DecidableEq, Repr



/-! ## Thermal model and Firethorn (spec/09) -/

/-- A node record as decoded (Table 9.1): couplings in use as (node, C), enabled sources as (rail, W), the diode whose
corrections it also takes, thresholds WARN to SHUT (32,767: disabled), and HYST and DWELL with their defaults. -/
structure ThCfg where
  fixed : Bool := false
  die : Nat := 0
  act : Bool := false
  tInit : Int := 0
  cpl : List (Nat × Nat) := []
  g : Nat := 0
  gs : Nat := 0
  lk : Nat := 0
  tlref : Int := 0
  src : List (Nat × Nat) := []
  tile : Nat := 0
  cgrp : Option Nat := none
  thr : List Int := []
  hyst : Nat := 256
  dwell : Nat := 8
  /-- Bytes 0 to 95 of the record as loaded, byte 0 lowest. -/
  raw : Nat := 0
  deriving DecidableEq, Repr

/-- An enabled node of the working model: its record, state, and the chatter window of R255 with what it counts. -/
structure ThNode where
  cfg : ThCfg := {}
  s : Int := 0
  t : Int := 0
  te : Int := 0
  p : Nat := 0
  level : Nat := 0
  sat : Bool := false
  peak : Int := 0
  chg : Nat := 0
  cnt : List Nat := [0, 0, 0, 0]
  pend : Int := 0
  /-- Boundary value of a FIXED node (R241). -/
  bound : Int := 0
  /-- CAP and TSTOP of the previous update, none at the first after a load, and the activity a (R245). -/
  base : Option (Nat × Nat) := none
  a : Nat := 65536
  winAt : Option Nat := none
  winN : Nat := 0
  winLost : Nat := 0
  winLv : Nat := 0
  winHot : Nat := 0
  hotAt : Option Nat := none
  winTop : Int := 0
  deriving DecidableEq, Repr

/-- A model accepted by TH_LOAD and waiting for its first update (R240). -/
structure ThLoad where
  keep : Bool := false
  nodes : Sparse ThCfg := []
  ready : Bool := false
  deriving DecidableEq, Repr

/-- What the core keeps of one backstop diode: the latest reading that was not faulted with its arrival, the copy last
passed (temperature code and fault), and the runs of R251. -/
structure ThDiode where
  good : Option (Int × Nat) := none
  temp : Nat := 0
  flt : Bool := false
  out : Nat := 0
  inn : Nat := 0
  deriving DecidableEq, Repr

/-- The thermal engine's state beside its registers. -/
structure ThState where
  nodes : Sparse ThNode := []
  load : Option ThLoad := none
  /-- Last tick, tick of the last update, updates of the fall of R243. -/
  tick : Nat := 0
  updTick : Nat := 0
  fall : Nat := 0
  /-- The model in use has had no update yet. -/
  firstUpd : Bool := true
  /-- POUT of the passes since the last update, by rail: sum and number (R244). -/
  pout : Sparse (Nat × Nat) := []
  diodes : Sparse ThDiode := []
  /-- Bytes 96 to 103 and 104 to 111 of the node records as last written (R248). -/
  img : Sparse (Nat × Nat) := []
  /-- The first Firethorn status after REC_START has been taken (R511); the core has acted on a trip (R261). -/
  ftSeen : Bool := false
  tripSeen : Bool := false
  deriving DecidableEq, Repr

/-- What Firethorn keeps of one diode beside FT_DSTAT: runs of faulted and of good conversions, and the run of
readings at or above TRIP. -/
structure FtDiode where
  bad : Nat := 0
  good : Nat := 0
  above : Nat := 0
  deriving DecidableEq, Repr

/-- Firethorn's state beside FT_ACT, FT_STAT and FT_DSTAT: held in the always-on domain (R256). -/
structure FtState where
  /-- FCLK cycles since always-on power-up, up to the conversion that ended last (R263). -/
  cyc : Nat := 0
  /-- Diodes converted so far in the present scan. -/
  pos : Nat := 0
  diodes : Sparse FtDiode := []
  /-- Accepted trims, IDEAL and OFS, by diode (R265). -/
  trims : Sparse (Nat × Nat) := []
  /-- Stamps of the trips, newest first. -/
  stamps : List Nat := []
  /-- Override of the output cells: 0 none, 1 PWM at mid level, 2 and PEN low, 3 and PWM at high impedance (R260). -/
  ovr : Nat := 0
  /-- Consecutive completed scans in which every diode was below RESTART (R262). -/
  cool : Nat := 0
  /-- The shadow as last read at a scan end (R265). -/
  shadow : Option (List Nat) := none
  deriving DecidableEq, Repr


/-! ## The Hedgerow cascade (spec/10) -/

/-- One Hedgerow link: HRL_UP, whether it is joined (at the parent: admitted) and whether a frame of the joined kind has
come, the result a parent sends, frames sent with their latest captures as (TX_SEQ, GTIME), the last valid frame
received with its capture, the run of one RX_SEQ, the round-trip measurement in 1/8 ns (R122, R276), and what the
partner last reported. -/
structure HLink where
  up : Bool := false
  join : Bool := false
  sawJoined : Bool := false
  res : Nat := 0
  seq : Nat := 0
  txT : List (Nat × Nat) := []
  rxSeq : Nat := 0
  rxT : Option Nat := none
  lastRxSeq : Option Nat := none
  rep : Nat := 0
  lastRx : Nat := 0
  rtts : List Int := []
  rttDone : Bool := false
  pFlags : Nat := 0
  pTx : Nat := 0
  pRx : Nat := 0
  pAck : Nat := 0
  pHead : Int := 0
  pNder : Nat := 0
  /-- GTIME at which a joined child link was lost, while its charge is held (R285). -/
  hold : Option Nat := none
  /-- The frame last sent, as a number of 64 bytes, byte 0 lowest. -/
  tx : Nat := 0
  deriving DecidableEq, Repr

/-- A pending epoch: number, instant, the budget it divides, a[self], and the budget of each party by link; `from_` is
the earliest GTIME at which DOWN frames carry it, `leave` marks an epoch at which the device leaves the accounting,
`done` one already applied late that is still forwarded (R282 to R286). -/
structure Epoch where
  num : Nat := 0
  time : Nat := 0
  bud : Nat := 0
  aSelf : Nat := 0
  alloc : List (Nat × Nat) := []
  from_ : Nat := 0
  leave : Bool := false
  own : Bool := false
  done : Bool := false
  /-- The device has been admitted to a parent since: the epoch no longer concerns its own cap (R288). -/
  past : Bool := false
  deriving DecidableEq, Repr

/-- The cascade's state beside its registers. -/
structure HrState where
  /-- The Links stage has been reached: links that are up exchange frames (R122). -/
  isOpen : Bool := false
  links : Sparse HLink := []
  quota : Nat := 0
  path : Nat := 0
  pend : List Epoch := []
  /-- Highest epoch number received or announced, and the number last received from the present parent. -/
  epRx : Nat := 0
  got : Option Nat := none
  /-- A_self of the last applied epoch while the device is inside the accounting (R269), and a higher one waiting for
  its GTIME (R283). -/
  inForce : Option Nat := none
  raise : Option (Nat × Nat) := none
  /-- Pk of R270. -/
  pk : Nat := 0
  /-- GTIME at which a scheduled announcement last fell due; index of the last frame slot. -/
  lastA : Nat := 0
  slot : Nat := 0
  /-- θ values of the present group, 1/16 ns; the sum of the previous group; F in 1/128 ppb; runs of groups beyond and
  within 4 ns; whether a first θ̄ has been formed (R277, R278, R279, R289). -/
  thetas : List Int := []
  prev : Option Int := none
  f : Int := 0
  past : Nat := 0
  within : Nat := 0
  first : Bool := true
  deriving DecidableEq, Repr

/-! ## Ports (spec/02, spec/18) -/

/-- What an interface of the host register port last answered: read data and response code, 0 done, 1 COLLIDE
(Table 2.9). -/
structure Resp where
  data : Nat := 0
  code : Nat := 0
  deriving DecidableEq, Repr

/-- The SMBus target (R71 to R74): selected page and mailbox, the PMBus status bits of each rail and of the module as
latched, and what the last transaction answered: its bytes and whether it was acknowledged. -/
structure Smb where
  page : Nat := 0
  sel : Nat := 15
  vout : Sparse Nat := []
  iout : Sparse Nat := []
  input : Nat := 0
  temp : Nat := 0
  cml : Nat := 0
  out : List Nat := []
  nack : Bool := false
  deriving DecidableEq, Repr

/-- The test access port (R78, R79, R503, R504): the instruction in force, the data register last captured, the
boundary register as preloaded, whether EXTEST drives the cells, and the data and status of port 5's last access. -/
structure Tap where
  instr : Nat := 1
  dr : Nat := 0
  boundary : Nat := 0
  drives : Bool := false
  data : Nat := 0
  status : Nat := 0
  deriving DecidableEq, Repr

/-- The ports: answers by interface, STORE_PAGE by port (R478), the SMBus target and the test access port. -/
structure Io where
  hrs : Sparse Resp := []
  page : Sparse Nat := []
  smb : Smb := {}
  tap : Tap := {}
  deriving DecidableEq, Repr

/-- A self-test that runs or waits (R498): test, object, and the number of the command to answer, none where its reply
has been posted. -/
structure TestRun where
  id : Nat := 0
  obj : Nat := 0
  cmd : Option Nat := none
  /-- Physical bank under STORE_BANK (R500). -/
  bank : Nat := 0
  deriving DecidableEq, Repr

/-- A CAL_PROBE that waits for its rail's conditions: whether it may switch sets, and the number of the command to
answer, none where 0x51 has been posted (R417, R501). -/
structure CalWait where
  pick : Bool := false
  cmd : Option Nat := none
  deriving DecidableEq, Repr

/-- The self-tests: the one that runs and the one that waits. -/
structure TestState where
  run : Option TestRun := none
  pend : Option TestRun := none
  deriving DecidableEq, Repr


/-! ## What stands between the engines (R22, R91) -/

/-- A request of an engine for port A of a store bank that has not been served: the logical bank, the engine by its bit in
CLKGATE_CTL (Table 3.7), and the GCLK cycles it has waited (R22). -/
structure PortReq where
  bank : Nat := 0
  eng : Nat := 0
  waited : Nat := 0
  deriving DecidableEq, Repr

/-- The mask of blocks of Table 3.7 whose GCLK gate is closed (R91), and the requests for port A that wait, oldest first
(R22). -/
structure Bus where
  gates : Nat := 0
  portA : List PortReq := []
  deriving DecidableEq, Repr

/-! ## The whole governor -/

/-- Everything the governor holds apart from the raw store bytes and the queue of waiting commands. -/
structure Gov where
  /-- The always-on supplies are up (R494). -/
  aon : Bool := true
  /-- GOV_PORST_N is asserted (R32). -/
  porst : Bool := true
  /-- GCLK has been released after the first lock: the host register port is out of reset (R88, R102). -/
  gclk : Bool := false
  /-- The start is cold: a rise of the always-on supply came before it (R103). -/
  cold : Bool := true
  /-- GTIME, nanoseconds modulo 2^64 (R94). -/
  gtime : Nat := 0
  /-- Counter that the free values of Config are applied to: the model's own field, no state of the spec. -/
  fresh : Nat := 0
  /-- Every register field, keyed by `Fld.key`; an unlisted field has its reset value. -/
  regs : Sparse Nat := []
  /-- Retained fields carried through GOV_PORST_N until the check of R103 decides on them. -/
  kept : Option (Sparse Nat) := none
  clk : Clk := {}
  brg : Brg := {}
  recr : Recr := {}
  rails : Sparse Rail := []
  phs : Sparse Phase := []
  convs : Sparse Conv := []
  /-- Probes running, by rail, and CAL_PROBEs that wait, in order of rail (R119, R501). -/
  probes : Sparse Probe := []
  calWait : Sparse CalWait := []
  st : StState := {}
  pl : PlState := {}
  th : ThState := {}
  ft : FtState := {}
  hr : HrState := {}
  dm : DmState := {}
  mb : MbxState := {}
  cfg : CfgState := {}
  mir : MirState := {}
  /-- DMA functions with transactions outstanding (R61 to R63). -/
  dma : Sparse DmaTx := []
  rcv : RcvState := {}
  store : StoreState := {}
  io : Io := {}
  test : TestState := {}
  bus : Bus := {}
  deriving DecidableEq, Repr

/-- The machine: what was built, the store bytes that port B may write, the governor, and the commands waiting. -/
structure State where
  build : Build
  /-- Raw bytes of the signature store and of bytes 0 to 95 of the thermal records, at store offsets. -/
  mem : List Host.Cell
  gov : Gov
  /-- Commands waiting, first in, first out. -/
  pending : List Instr
  deriving DecidableEq, Repr

/-- The build that the model takes: every parameter of Table 18.1 at its greatest value (DESIGN CHOICE, log 2). -/
def Build.full : Build :=
  { dies := 8, tiles := 64, rails := 16, phases := 96, nStacks := 24, requesters := 1024, partitions := 16,
    slices := [(0, 6), (6, 6), (12, 6), (18, 6), (24, 6), (30, 6), (36, 6), (42, 6),
      (48, 6), (54, 6), (60, 6), (66, 6), (72, 6), (78, 6), (84, 6), (90, 6)],
    hubs := [128, 128, 128, 128, 128, 128, 128, 128], smbAddr := 0x40, idMfr := 0 }

/-- The machine right after reset: the always-on supply has come up, GOV_PORST_N is still asserted, every register
holds its reset value, no store word is written and no command waits (R31, R33, R476). (DESIGN CHOICE, log 23) -/
def State.reset : State :=
  { build := Build.full, mem := [], gov := {}, pending := [] }

end Sys2Proof.Machine
end

