-- ==== Sys2Proof/Machine/Ops.lean ====
section
/-! DEFINITION. The named operations every engine shares: register fields, counters, time, events, service causes,
histogram samples and trace entries. -/

namespace Sys2Proof.Machine

/-! ## Register fields -/

/-- The key under which a field is held. -/
def Fld.key (f : Fld) : Nat := f.off * 64 + f.lo

/-- The value of a field as the governor holds it. -/
def Gov.rd (g : Gov) (f : Fld) : Nat := mget f.rst g.regs f.key

/-- The governor sets a field (its low `len` bits). -/
def Gov.wr (g : Gov) (f : Fld) (v : Nat) : Gov := { g with regs := mput g.regs f.key (v % 2 ^ f.len) }

/-- A one-bit field as a truth value. -/
def Gov.flag (g : Gov) (f : Fld) : Bool := g.rd f == 1

/-- The governor sets a one-bit field to a truth value. -/
def Gov.wrB (g : Gov) (f : Fld) (v : Bool) : Gov := g.wr f (b2n v)

/-- Bit `i` of a field is set. -/
def Gov.setBit (g : Gov) (f : Fld) (i : Nat) : Gov := g.wr f (withBit (g.rd f) i)

/-- Bit `i` of a field is cleared. -/
def Gov.clrBit (g : Gov) (f : Fld) (i : Nat) : Gov := g.wr f (withoutBit (g.rd f) i)

/-- A count field increases by `n`: fields of 48 bits wrap, narrower ones saturate (R455). -/
def Gov.count (g : Gov) (f : Fld) (n : Nat) : Gov :=
  g.wr f (if f.len = 48 then (g.rd f + n) % 2 ^ 48 else satN f.len (g.rd f + n))

/-! ## Time -/

/-- GTIME is carried forward to an instant that a timed row asserts has come (R94: it never runs backward).
(DEDUCED, log 25) -/
def Gov.runTo (g : Gov) (t : Nat) : Gov := { g with gtime := max g.gtime t }

/-- The governor is out of reset with GCLK running: its engines act and its registers answer (R33, R88). -/
def Gov.live (g : Gov) : Bool := g.aon && !g.porst && g.gclk

/-- One value that the spec leaves open, and the counter moved on (log 3). -/
def Gov.openValue (g : Gov) : Nat := Config.freeNat g.fresh

/-- The counter that free values are applied to moves on. -/
def Gov.nextFresh (g : Gov) : Gov := { g with fresh := g.fresh + 1 }

/-! ## Indexed state -/

/-- Rail `n`. -/
def Gov.rail (g : Gov) (n : Nat) : Rail := mget {} g.rails n
/-- Rail `n` replaced. -/
def Gov.setRail (g : Gov) (n : Nat) (r : Rail) : Gov := { g with rails := mput g.rails n r }
/-- Phase `p`. -/
def Gov.ph (g : Gov) (p : Nat) : Phase := mget {} g.phs p
/-- Phase `p` replaced. -/
def Gov.setPh (g : Gov) (p : Nat) (x : Phase) : Gov := { g with phs := mput g.phs p x }

/-- The mode of rail `n` (Table 6.6). -/
def Gov.mode (g : Gov) (n : Nat) : Nat := g.rd (F.RAIL_STAT_MODE n)

/-- Modes of Table 6.6. -/
def mOFF : Nat := 0
def mRAMP : Nat := 1
def mCLOSED : Nat := 2
def mOPEN : Nat := 3
def mBURST : Nat := 4
def mHICCUP : Nat := 5
def mFAULT : Nat := 6
def mDOWN : Nat := 7

/-- A limit field as in force: since the last boundary of a running rail, or as written where no timer runs. -/
def Gov.lf (g : Gov) (n : Nat) (f : Fld) : Nat :=
  if g.mode n = mOFF then g.rd f else mget (g.rd f) (g.rail n).lim f.key

/-- The bring-up stage (Table 4.1). -/
def Gov.stage (g : Gov) : Nat := g.rd F.BRG_STAT_STAGE

/-- Stages of Table 4.1. -/
def sSTORE : Nat := 1
def sDISCOVER : Nat := 2
def sWAITCFG : Nat := 3
def sSEQUP : Nat := 4
def sPROBE : Nat := 5
def sLINKS : Nat := 6
def sREADY : Nat := 7
def sSEQDOWN : Nat := 8
def sOFF : Nat := 9

/-- `f` applied in turn for each index of a list. -/
def Gov.each (g : Gov) (l : List Nat) (f : Gov → Nat → Gov) : Gov := l.foldl f g

/-! ## Events (R447, R448) -/

/-- Rank of an event's source in the queue order of R447. -/
def evRank (code : Nat) : Nat :=
  if code = 0x0004 ∨ code = 0x0001 then 0
  else if 0x4010 ≤ code ∧ code ≤ 0x4015 then 10
  else if code = 0x2001 ∨ code = 0x2002 ∨ code = 0x2003 then 21
  else if 0x2000 ≤ code ∧ code < 0x3000 then 20
  else if 0x3000 ≤ code ∧ code < 0x4000 then 30
  else if 0x4000 ≤ code ∧ code < 0x5000 then 31
  else if 0xA000 ≤ code then 40
  else if 0x1000 ≤ code ∧ code < 0x2000 then 50
  else if 0x5000 ≤ code ∧ code < 0x6000 then 60
  else if 0x6000 ≤ code ∧ code < 0x7000 then 70
  else if 0x7000 ≤ code ∧ code < 0x9000 ∨ code = 0x0003 then 80
  else if 0x9000 ≤ code then 81
  else 90

/-- An event enters the queue behind every event of an earlier cycle and behind those of its own cycle whose source
comes no later (R447). -/
def evInsert (e : Evt) : List Evt → List Evt
  | [] => [e]
  | x :: r =>
    if x.time = e.time ∧ evRank e.code < evRank x.code then e :: x :: r else x :: evInsert e r

/-- A parameter limited to its 32 bits. -/
def p32 (n : Nat) : Nat := min n 0xFFFFFFFF

/-- An event is passed to the recorder: queued, or dropped and counted where the queue holds 256 (R447). -/
def Gov.evt (g : Gov) (e : Evt) : Gov :=
  if g.recr.queue.length < 256 then
    { g with recr := { g.recr with queue := evInsert e g.recr.queue } }
  else
    ({ g with recr := { g.recr with
        dropped := g.recr.dropped + 1,
        dropTime := if g.recr.dropped = 0 then e.time else g.recr.dropTime } }.count
      (F.REC_CNT_COUNT 1) 1).wr F.REC_STAT_DROP_SEEN 1

/-- An event of code `code` with parameters, caused by the access or command of `port` (15: none), recognised now.
Events that arise while the core is in reset or has no GCLK follow R511, not this. -/
def Gov.evp (g : Gov) (port code a b c d : Nat) : Gov :=
  g.evt { code := code, time := g.gtime, port := port,
          sat := decide (0xFFFFFFFF < a ∨ 0xFFFFFFFF < b ∨ 0xFFFFFFFF < c ∨ 0xFFFFFFFF < d),
          unal := !g.flag F.GTIME_STAT_ALIGNED,
          p0 := p32 a, p1 := p32 b, p2 := p32 c, p3 := p32 d }

/-- An event caused by the access or command that is being carried out, by no port where none is. -/
def Gov.ev (g : Gov) (code a b c d : Nat) : Gov := g.evp g.recr.cause code a b c d

/-- `f` carried out as an access or a command of `port`, to which the events it causes belong (Table 16.1). -/
def Gov.caused (g : Gov) (port : Nat) (f : Gov → Gov) : Gov :=
  let t := f { g with recr := { g.recr with cause := port } }
  { t with recr := { t.recr with cause := g.recr.cause } }

/-! ## Service causes (R434, R435) -/

/-- SVC_CAUSE bit `i` is set. -/
def Gov.svc (g : Gov) (i : Nat) : Gov := g.setBit F.SVC_CAUSE_CAUSE i

/-- SERVICE_REQ_N is asserted (R435); released while the supply is absent, in reset and until GCLK runs (Table 1.8). -/
def Gov.serviceReq (g : Gov) : Bool :=
  g.live && (List.range 16).any (fun i => bit (g.rd F.SVC_CAUSE_CAUSE) i && !bit (g.rd F.SVC_MASK_MASK) i)

/-! ## Histograms (R459) -/

/-- Histogram `h`. -/
def Gov.hist (g : Gov) (h : Nat) : Hist := mget {} g.recr.hists h

/-- Histogram `h` replaced. -/
def Gov.setHist (g : Gov) (h : Nat) (x : Hist) : Gov :=
  { g with recr := { g.recr with hists := mput g.recr.hists h x } }

/-- The bucket of value `v` under LO, SHIFT and LOG (R459). -/
def histBucket (lo : Int) (shift : Nat) (log : Bool) (v : Int) : Nat :=
  let x := v - lo
  if x < 0 then 0
  else if !log then min 55 (1 + x.toNat / 2 ^ shift)
  else min 55 (1 + bitLen (x.toNat / 2 ^ shift))

/-- One more sample in running statistics; MIN and MAX are signed 32-bit, MAX saturating (Table 16.6). -/
def HStat.add (s : HStat) (v : Int) (t : Nat) : HStat :=
  let w := satS 32 v
  if s.total = 0 then { total := 1, sum := v, min := w, max := w, tMin := t, tMax := t }
  else
    { total := s.total + 1, sum := s.sum + v,
      min := if w < s.min then w else s.min, tMin := if w < s.min then t else s.tMin,
      max := if s.max < w then w else s.max, tMax := if s.max < w then t else s.tMax }

/-- The buckets with the accumulators of a flush added. -/
def histMerge (bk acc : Sparse Nat) : Sparse Nat :=
  acc.foldl (fun m e => mput m e.1 (mget 0 m e.1 + e.2)) bk

/-- Histogram `h` is flushed into the store; a pending clear is applied at this flush (R459, R460, R462). -/
def Gov.flushHist (g : Gov) (h : Nat) : Gov :=
  let x := g.hist h
  if g.flag F.HIST_CTL_GONE then g
  else if x.since.total = 0 ∧ x.clearPend = false then g
  else
    let run := if x.clearPend then x.since else x.run
    let bk := if x.clearPend then x.acc else histMerge x.buckets x.acc
    (g.setHist h { x with
        acc := [], since := {}, run := run, image := run, buckets := bk, seq := x.seq + 2,
        clears := if x.clearPend then x.clears + 1 else x.clears, clearPend := false }).count
      (F.REC_CNT_COUNT 7) 1

/-- Histogram `h` takes a sample of value `v` (R459). -/
def Gov.histo (g : Gov) (h : Nat) (v : Int) : Gov :=
  if g.rd (F.HIST_CTL_EN) = 1 ∧ g.rd (F.HIST_CFG_EN h) = 1 then
    let x := g.hist h
    let b := histBucket (sx 32 (g.rd (F.HIST_CFG_LO h))) (g.rd (F.HIST_CFG_SHIFT h)) (g.flag (F.HIST_CFG_LOG h)) v
    let n := mget 0 x.acc b + 1
    let g' := g.setHist h { x with acc := mput x.acc b n, since := x.since.add v g.gtime,
                                   run := x.run.add v g.gtime }
    if n = 65535 then g'.flushHist h else g'
  else g

/-! ## Trace (R463 to R465) -/

/-- Trace buffer `b`. -/
def Gov.tbuf (g : Gov) (b : Nat) : TBuf := mget {} g.recr.tbufs b

/-- Trace buffer `b` replaced. -/
def Gov.setTbuf (g : Gov) (b : Nat) (x : TBuf) : Gov :=
  { g with recr := { g.recr with tbufs := mput g.recr.tbufs b x } }

/-- Buffer `b` takes an entry, or refuses it where it holds 2,048 not yet drained (R465). TSEQ moves on either way,
so that the gap in TSEQ gives the number refused (DEDUCED, log 4). -/
def Gov.traceAt (g : Gov) (b kind t : Nat) (capt : Bool) (a c d e : Nat) : Gov :=
  if bit (g.rd F.TRC_CTL_EN) b && !bit (g.rd F.TRC_CTL_GONE) b then
    let x := g.tbuf b
    if x.held < 2048 then
      let ent : TEntry := { kind := kind, buf := b, loss := x.lossPend,
                            sat := decide (0xFFFFFFFF < a ∨ 0xFFFFFFFF < c ∨ 0xFFFFFFFF < d ∨ 0xFFFFFFFF < e),
                            capt := capt, tseq := x.tseq % 2 ^ 32, time := t,
                            p0 := p32 a, p1 := p32 c, p2 := p32 d, p3 := p32 e }
      (g.setTbuf b { x with
        img := mput x.img x.pos ent, pos := (x.pos + 1) % 2048, held := x.held + 1, tseq := x.tseq + 1,
        lossPend := false }).count
        (F.REC_CNT_COUNT 2) 1
    else
      ((g.setTbuf b { x with tseq := x.tseq + 1, lossPend := true }).count (F.REC_CNT_COUNT 3) 1).setBit
        F.TRC_STAT_LOSS b
  else g

/-- An entry stamped with the present GTIME. -/
def Gov.trace (g : Gov) (b kind a c d e : Nat) : Gov := g.traceAt b kind g.gtime false a c d e

/-! ## Built objects (R475) -/

/-- Whether the instance with index `i` of an object of kind `k` is built. -/
def Build.has (b : Build) (k : BuiltKind) (i : Nat) : Bool :=
  match k with
  | .always => true
  | .rail => decide (i < b.rails)
  | .phase => decide (i < b.phases)
  | .die => decide (i < b.dies)
  | .part => decide (i < b.partitions)
  | .tile => decide (i / 64 < b.dies ∧ i % 64 < b.tiles)
  | .stack => decide (i < b.nStacks)
  | .diode => decide (i < 4 * b.dies)

/-- The hub, and so the die, that serves requester `r` (Table 18.1). -/
def hubOfReq : List Nat → Nat → Nat → Nat
  | [], _, d => d
  | n :: l, r, d => if r < n then d else hubOfReq l (r - n) (d + 1)

/-- The die whose hub serves requester `r`. -/
def Build.hubOf (b : Build) (r : Nat) : Nat := hubOfReq b.hubs r 0

end Sys2Proof.Machine
end

