-- ==== Sys2Proof/Machine/Bus.lean ====
section
/-! DEFINITION. What stands between the engines: the GCLK gate of each block (R91, R92), and the arbiter of port A of the
store banks (R22). Blocks and engines are named by their bit in CLKGATE_CTL.DIS (Table 3.7). -/

namespace Sys2Proof.Machine

/-! ## Clock gates (R91, R92) -/

/-- Work or an access opens the gate of block `k` (R91). (DEDUCED, log 32) -/
def Gov.openGate (g : Gov) (k : Nat) : Gov := { g with bus := { g.bus with gates := withoutBit g.bus.gates k } }

/-- The block that holds the register at window offset `off`: that of the engine whose registers stand there. -/
def blockOf (off : Nat) : Nat :=
  if off < 0x4000 then 0 else if off < 0x8000 then 1 else if off < 0xA000 then 2 else if off < 0xC000 then 3
  else if off < 0xE000 then 4 else if off < 0x10000 then 5 else if off < 0x12000 then 6 else if off < 0x14000 then 0
  else if off < 0x16000 then 7 else 8

/-- An access to the register at `off` opens the gate of its block (R91). -/
def Gov.openFor (g : Gov) (off : Nat) : Gov := g.openGate (blockOf off)

/-- The block's state differs from `g` to `t`: it had work, since a gated block keeps all its state (R91). -/
def worked (g t : Gov) (k : Nat) : Bool :=
  match k with
  | 0 => t.mb != g.mb || t.cfg.shadow != g.cfg.shadow || t.cfg.commit != g.cfg.commit
  | 1 => t.rails != g.rails
  | 2 => t.phs != g.phs
  | 3 => t.dm != g.dm
  | 4 => t.th != g.th
  | 5 => t.hr != g.hr
  | 6 => t.pl != g.pl
  | 7 => t.rcv != g.rcv
  | 8 => t.recr != g.recr
  | 9 => t.dma != g.dma
  | 10 => t.io.hrs != g.io.hrs
  | 11 => t.pl.plo != g.pl.plo
  | _ => false

/-- Block `k` has work that stands: its gate stays open (R91). The loop engine's gate is open whenever any rail is on. -/
def Gov.hasWork (g : Gov) (k : Nat) : Bool :=
  match k with
  | 0 => !g.mb.cmds.isEmpty || g.cfg.commit.isSome || g.cfg.rewrite.isSome || g.cfg.copyAt.isSome
  | 1 => (List.range 16).any (fun n => g.mode n != mOFF)
  | 2 => g.phs.any (fun e => e.2.pen)
  | 3 => !g.dm.backlog.isEmpty || !g.dm.pend.isEmpty || g.dm.grants.any (fun e => e.2.due)
      || g.dm.hubs.any (fun e => !e.2.link.isEmpty || !e.2.clink.isEmpty || !e.2.cq.isEmpty || e.2.q.any (fun q => !q.2.isEmpty))
  | 4 => g.th.load.isSome
  | 6 => g.pl.cur.isSome || g.pl.walk || g.pl.ords.any (fun o => !o.issued)
  | 7 => !g.rcv.steps.isEmpty
  | 8 => !g.recr.queue.isEmpty || g.recr.draining.isSome || g.recr.dump.isSome
  | 9 => !g.dma.isEmpty
  | 11 => g.pl.ords.any (fun o => !o.issued)
  | _ => false

/-! ## Port A (R22) -/

/-- Engines in the fixed priority of R22: demand engine, thermal engine, phase manager, budget unit, placement engine,
Deathwatch, command engine, recorder. -/
def portAOrder : List Nat := [3, 4, 2, 5, 6, 7, 0, 8]

/-- The request that bank `k` serves next: one that has waited 64 cycles, the longest waiting of these (DESIGN CHOICE, log
80), else the first in the fixed priority. -/
def portANext (l : List PortReq) (k : Nat) : Option PortReq :=
  let of := l.filter (fun r => r.bank == k)
  match of.find? (fun r => decide (64 ≤ r.waited)) with
  | some r => some r
  | none => portAOrder.findSome? (fun e => of.find? (fun r => r.eng == e))

/-- One GCLK cycle: each bank serves one request, and the others have waited one cycle more. -/
def portACycle (l : List PortReq) : List PortReq :=
  (l.filter (fun r => portANext l r.bank != some r)).map (fun r => { r with waited := r.waited + 1 })

/-- `n` cycles. -/
def portARun : Nat → List PortReq → List PortReq
  | 0, l => l
  | n + 1, l => portARun n (portACycle l)

/-- Engine `e` requests bank `k`; it makes its next access to a bank once the one that waits has been served. -/
def portARequest (l : List PortReq) (k e : Nat) : List PortReq :=
  if l.any (fun r => r.bank == k && r.eng == e) then l else l ++ [{ bank := k, eng := e }]

/-- The logical banks that the engines have written from `g` to `t`, each with its engine (Table 17.11). -/
def portAUses (g t : Gov) : List (Nat × Nat) :=
  let part := fun (α : Type) (_ : DecidableEq α) (m m' : Sparse α) (per base n e : Nat) =>
    ((List.range n).filter (fun i =>
      m.filter (fun x => x.1 / per == i) != m'.filter (fun x => x.1 / per == i))).map (fun i => (base + i, e))
  part Grant inferInstance g.dm.grants t.dm.grants 16384 32 2 3
  ++ (if t.dm.sigs != g.dm.sigs then [(34, 3)] else [])
  ++ (if t.th.img != g.th.img then [(42, 4)] else [])
  ++ part Page inferInstance g.pl.pages t.pl.pages 32768 0 32 6
  ++ (if t.pl.seqs != g.pl.seqs then [(35, 6)] else [])
  ++ (if t.rcv.scan != g.rcv.scan then [(32 + t.rcv.scan / 16384 % 2, 7)] else [])
  ++ (if t.cfg.shadow != g.cfg.shadow then [(44, 0)] else [])
  ++ part RingRec inferInstance g.recr.ring t.recr.ring 8192 36 4 8
  ++ part TBuf inferInstance g.recr.tbufs t.recr.tbufs 4 40 2 8
  ++ (if t.recr.hists != g.recr.hists || t.st.recs != g.st.recs then [(42, 8)] else [])

/-! ## What follows every row -/

/-- The requests that wait after a row that took the governor from `g` to `t`: the cycles that passed have served some,
and the engines' writes have made new ones at the physical banks. An access that the spec gives a row has the row's
effect; the arbiter gives the order in which the banks serve them. (DEDUCED, log 80) -/
def portAAfter (g t : Gov) : List PortReq :=
  let l := portARun (min (t.gtime - g.gtime) g.bus.portA.length) t.bus.portA
  (portAUses g t).foldl (fun l e =>
    let p := t.rd (F.STORE_MAP_PHYS e.1)
    if p = 63 then l else portARequest l p e.2) l

/-- What every row leaves at the bus: gates of blocks that worked, or have work, are open, and port A has its requests. A
governor that is not live has all its gates open and no request. (DEDUCED, log 32) -/
def Gov.busAfter (g t : Gov) : Bus :=
  if g.live && t.live then
    { gates := if t.bus.gates = 0 then 0
        else (List.range 12).foldl (fun m k => if worked g t k || t.hasWork k then withoutBit m k else m) t.bus.gates,
      portA := portAAfter g t }
  else {}

/-- The governor with its bus as a row leaves it. -/
def Gov.wake (g t : Gov) : Gov := { t with bus := g.busAfter t }

end Sys2Proof.Machine
end

