-- ==== Sys2Proof/Machine/Regs.lean ====
section
/-! DEFINITION. Finding a register of Table 17.2 at a window offset, the fields of its instance, and the parts of the
register file that survive a reset (R475, R476, Table 17.3, R486). -/

namespace Sys2Proof.Machine

/-- The indices of the instance at `rel` bytes from the first one, by (count, stride) from the outer index inward;
none where no instance lies there. -/
def instIdx : List (Nat × Nat) → Nat → Option (List Nat)
  | [], rel => if rel = 0 then some [] else none
  | (c, s) :: r, rel =>
    if rel / s < c then (instIdx r (rel - s * (rel / s))).map (fun l => rel / s :: l)
    else none

/-- The register at a window offset: its line of Table 17.2 and the instance's indices. -/
def regFindIn : List RegSpec → Nat → Option (RegSpec × List Nat)
  | [], _ => none
  | s :: r, off =>
    if off < s.base then regFindIn r off
    else
      match instIdx s.dims (off - s.base) with
      | some l => some (s, l)
      | none => regFindIn r off

/-- The register at window offset `off`, if Table 17.2 places one there. -/
def regFind (off : Nat) : Option (RegSpec × List Nat) := regFindIn regTable off

/-- The fields of the instance with indices `l`. -/
def RegSpec.at (s : RegSpec) (l : List Nat) : List Fld :=
  s.flds (l.getD 0 0) (l.getD 1 0) (l.getD 2 0)

/-- The fields of the register at `off`; none where no register lies or its instance is not built (R11, R475). -/
def Build.fieldsAt (b : Build) (off : Nat) : List Fld :=
  match regFind off with
  | some (s, l) => if b.has s.kind (l.getD 0 0) then s.at l else []
  | none => []

/-- The field with a given key. -/
def fldOfKey (key : Nat) : Option Fld :=
  match regFind (key / 64) with
  | some (s, l) => (s.at l).find? (fun f => f.lo == key % 64)
  | none => none

/-- A field held in the always-on domain (Table 17.3). -/
def keyAlwaysOn (key : Nat) : Bool :=
  match fldOfKey key with
  | some f => f.keep == .alwaysOn
  | none => false

/-- A retained field: one held in the configuration region (R486). -/
def keyRetained (key : Nat) : Bool :=
  match fldOfKey key with
  | some f => f.keep == .retained
  | none => false

/-- The fields of the register file that a warm reset keeps (R476). -/
def regsAlwaysOn (m : Sparse Nat) : Sparse Nat := m.filter (fun e => keyAlwaysOn e.1)

/-- The retained fields of the register file: the live configuration image (R486). -/
def regsRetained (m : Sparse Nat) : Sparse Nat := m.filter (fun e => keyRetained e.1)

/-- A register's word assembled from its fields, each read by `val`. -/
def wordOf (fs : List Fld) (val : Fld → Nat) : Nat :=
  (fs.map (fun f => val f % 2 ^ f.len * 2 ^ f.lo)).foldl (· + ·) 0

/-- Field `f` of a register word. -/
def Fld.of (f : Fld) (w : Nat) : Nat := bits w f.lo f.len

end Sys2Proof.Machine
end

