-- ==== Sys2Proof/Machine/Clocks.lean ====
section
/-! DEFINITION. Clocks, domains and governor time (spec/03): reference selection, switches, holdover, clock gates,
GOV_CLKOUT and the reading of GTIME. -/

namespace Sys2Proof.Machine

/-! ## Reference selection -/

/-- Source `j` is ready (R83): 0 to 3 recovered clocks, 4 the XO. -/
def Gov.refReady (g : Gov) (j : Nat) : Bool := bit (g.rd F.REF_STAT_REF_RDY) j

/-- XO start delay by XO_DLY, in µs (Table 3.2). -/
def xoDelays : List Nat :=
  [250, 500, 750, 1000, 1500, 2000, 3000, 4000, 6000, 8000, 10000, 12000, 16000, 20000, 24000, 32000]

/-- The start delay of code `c` in XO cycles at 156.25 MHz, rounded up to a whole cycle (R81). -/
def xoDelayCycles (c : Nat) : Nat := (xoDelays.getD c 32000 * 625 + 3) / 4

/-- `n` XO cycles of 6.4 ns in ns, rounded up. -/
def xoNs (n : Nat) : Nat := (32 * n + 4) / 5

/-- A switch to source `j` starts (R84, R85). -/
def Gov.startSwitch (g : Gov) (j : Nat) : Gov := (g.wr F.REFSEL_SRC j).wr F.REF_STAT_SWITCHING 1

/-- The source AUTO chooses on a loss: HR_RCK[PREF], the other recovered clocks in ascending order, the XO (R87). -/
def Gov.autoChoice (g : Gov) : Option Nat :=
  let p := g.rd F.REFSEL_PREF
  (p :: ((List.range 4).filter (fun j => j != p) ++ [4])).find? (fun j => g.refReady j)

/-- With AUTO set, the governor switches to the first ready source after a loss (R87). R87 chooses on a loss only: where no
source is ready then, one that becomes ready later starts no automatic switch (DEDUCED, log 81). -/
def Gov.autoSwitch (g : Gov) : Gov :=
  if g.flag F.REFSEL_AUTO && !g.flag F.REF_STAT_SWITCHING then
    match g.autoChoice with
    | some j => g.startSwitch j
    | none => g
  else g

/-- Source `j` ceases to be ready (R83); the XO's start delay counts anew from this instant. -/
def Gov.refDown (g : Gov) (j : Nat) : Gov :=
  let g := g.clrBit F.REF_STAT_REF_RDY j
  if j = 4 then { g with clk := { g.clk with xoDownAt := some g.gtime } } else g

/-- The current reference is lost: holdover, LOST and the event, then the choice of AUTO (R86, R87). -/
def Gov.refLost (g : Gov) : Gov :=
  let cur := g.rd F.REF_STAT_CUR
  let g := if g.refReady cur then g.refDown cur else g
  let g := (g.wr F.REF_STAT_HOLDOVER 1).wr F.REF_STAT_LOST 1
  let g := { g with clk := { g.clk with switched := false } }
  let g := g.ev 0x9001 3 cur cur 0
  g.autoSwitch

/-- A source completes 1,024 good cycles and becomes ready; the XO only once its start delay, as XO_DLY now selects it, has
elapsed since it was last not ready (R82, R83). With AUTO set and the current reference lost it starts no automatic switch.
(DEDUCED, log 81) -/
def refSourceReady (j : Nat) (g : Gov) : Gov :=
  if g.live ∧ j < 5 ∧ g.refReady j = false then
    let g := if j = 4 then
        match g.clk.xoDownAt with
        | some t => g.runTo (t + xoNs (xoDelayCycles (g.rd F.XO_CTL_XO_DLY)))
        | none => g
      else g
    let g := g.setBit F.REF_STAT_REF_RDY j
    { g with clk := { g.clk with
        readySince := mput g.clk.readySince j g.gtime,
        xoDownAt := if j = 4 then none else g.clk.xoDownAt } }
  else g

/-- A source that is not the current one ceases to be ready; for the current one this is the loss of R86. -/
def refSourceUnready (j : Nat) (g : Gov) : Gov :=
  if g.live ∧ j < 5 ∧ g.refReady j then
    if j = g.rd F.REF_STAT_CUR then g.refLost else g.refDown j
  else g

/-- The current reference stops being ready (R86). (DEDUCED, log 31) -/
def referenceLost (g : Gov) : Gov :=
  if g.live ∧ g.refReady (g.rd F.REF_STAT_CUR) then g.refLost else g

/-- A write of REFSEL.SRC with value `src` starts a switch: AUTO is 0, the source is ready and no switch is in progress
(R84, R87). -/
def Gov.refselOk (g : Gov) (src : Nat) : Bool :=
  !g.flag F.REFSEL_AUTO && decide (src < 5) && g.refReady src && !g.flag F.REF_STAT_SWITCHING

/-- A write of REFSEL (R84, R87). Every write that reaches bits 2:0 is a write to SRC, the code that stands there included
(DEDUCED, log 5). One that sets AUTO while the current reference is lost starts no automatic choice (DEDUCED, log 81). -/
def refselWrite (port w : Nat) (g : Gov) : Gov :=
  let src := bits w 0 3
  if g.refselOk src then
    ((g.wr F.REFSEL_AUTO (bits w 3 1)).wr F.REFSEL_PREF (bits w 4 2)).startSwitch src
  else
    (g.wr F.REF_STAT_REFUSED 1).evp port 0x9001 2 (g.rd F.REF_STAT_CUR) src 0

/-- The multiplexer passes the new source, which completes the switch; a target that has stopped meets the loss rule
(R84, R85). -/
def Gov.passSource (g : Gov) : Gov :=
  let g := (g.wr F.REF_STAT_CUR (g.rd F.REFSEL_SRC)).wr F.REF_STAT_SWITCHING 0
  if g.refReady (g.rd F.REF_STAT_CUR) then { g with clk := { g.clk with switched := true } } else g.refLost

/-- A switch completes after a falling edge of the current source (R85). -/
def refSwitchComplete (g : Gov) : Gov :=
  if g.live ∧ g.flag F.REF_STAT_SWITCHING then g.passSource else g

/-- Thirty-two cycles of the new source pass with no falling edge of the current one (R85 step 3). -/
def forcedSwitch (g : Gov) : Gov :=
  if g.live ∧ g.flag F.REF_STAT_SWITCHING then
    ((g.wr F.REF_STAT_FORCED 1).ev 0x9001 1 (g.rd F.REF_STAT_CUR) (g.rd F.REFSEL_SRC) 0).passSource
  else g

/-- HR_RCK[PREF] has been ready for 100 ms and is not the current source: AUTO switches back (R87). -/
def switchBack (g : Gov) : Gov :=
  let p := g.rd F.REFSEL_PREF
  if g.live ∧ g.flag F.REFSEL_AUTO ∧ g.refReady p ∧ p ≠ g.rd F.REF_STAT_CUR ∧ g.flag F.REF_STAT_SWITCHING = false then
    (g.runTo (mget 0 g.clk.readySince p + 100000000)).startSwitch p
  else g

/-- The GPLL locks to the source of a switch completed since the loss: holdover ends (R86). -/
def holdoverLock (g : Gov) : Gov :=
  if g.live ∧ g.flag F.REF_STAT_HOLDOVER ∧ g.clk.switched ∧ g.flag F.REF_STAT_SWITCHING = false
      ∧ g.refReady (g.rd F.REF_STAT_CUR) then
    g.wr F.REF_STAT_HOLDOVER 0
  else g

/-! ## GOV_CLKOUT and clock gates -/

/-- Whether source `src` of CLKOUT_CTL runs, where the state says so: GCLK and FCLK always run here, RCLK, the XO and the
recovered clocks while the state has them ready; of any other the state says nothing (Table 3.1, Table 3.11). -/
def Gov.sourceRuns (g : Gov) (src : Nat) : Option Bool :=
  if src = 1 ∨ src = 4 then some true
  else
    let j := if src = 0 then g.rd F.REF_STAT_CUR else if src = 5 then 4 else src - 6
    if (src = 0 ∨ src = 5 ∨ 6 ≤ src ∧ src < 10) ∧ g.refReady j then some true else none

/-- A write of CLKOUT_CTL: the register takes the value, the present high phase completes (or the change is forced),
and the new setting starts where its source runs and its code names one (R93). -/
def clkoutWrite (w : Nat) (newRuns : Bool) (g : Gov) : Gov :=
  let g := ((((g.wr F.CLKOUT_CTL_SRC (bits w 0 4)).wr F.CLKOUT_CTL_SLICE (bits w 4 4)).wr F.CLKOUT_CTL_DIV
    (bits w 8 8)).wr F.CLKOUT_CTL_EN (bits w 16 1))
  let setting := if bit w 16 ∧ newRuns ∧ bits w 0 4 < 12 then some (bits w 0 4, bits w 4 4, bits w 8 8 + 1) else none
  { g with clk := { g.clk with clkout := setting } }

/-- The GCLK gate of block `k` of Table 3.7 closes after 16 cycles with neither work nor an access (`busy`), unless its DIS
bit holds it open (R91, R92). -/
def clockGateClose (k : Nat) (busy : Bool) (g : Gov) : Gov :=
  if g.live ∧ k < 12 ∧ busy = false ∧ bit (g.rd F.CLKGATE_CTL_DIS) k = false ∧ g.hasWork k = false then
    { g with bus := { g.bus with gates := withBit g.bus.gates k } }
  else g

/-- A write of CLKGATE_CTL.DIS: a set bit holds its gate open (R92). -/
def clkgateWrite (w : Nat) (g : Gov) : Gov :=
  let g := g.wr F.CLKGATE_CTL_DIS (bits w 0 16)
  { g with bus := { g.bus with
      gates := (List.range 12).foldl (fun m k => if bit w k then withoutBit m k else m) g.bus.gates } }

/-! ## GTIME -/

/-- A 32-bit read of GTIME_LO at +0 returns bits 31:0 and latches bits 63:32 for the reading port (R97). -/
def gtimeLoLatch (port : Nat) (g : Gov) : Gov :=
  { g with clk := { g.clk with hiLatch := mput g.clk.hiLatch port (bits g.gtime 32 32) } }

end Sys2Proof.Machine
end

