-- ==== Sys2Proof/Machine/Springtail.lean ====
section
/-! DEFINITION. Springtail (spec/05): the satellites' droop levels, stretch, throttle floor, TCLK_EN and counts; the
ring header and its CRC; reports, tile records, NOREP, ring checks and DROOP events. -/

namespace Sys2Proof.Machine

/-! ## Access -/

/-- The satellite of tile `t`. -/
def Gov.sat (g : Gov) (t : Nat) : Sat := mget {} g.st.sats t
/-- The satellite of tile `t` replaced. -/
def Gov.setSat (g : Gov) (t : Nat) (x : Sat) : Gov := { g with st := { g.st with sats := mput g.st.sats t x } }
/-- The ring of die `d`. -/
def Gov.ring (g : Gov) (d : Nat) : Ring := mget {} g.st.rings d
/-- The ring of die `d` replaced. -/
def Gov.setRing (g : Gov) (d : Nat) (x : Ring) : Gov := { g with st := { g.st with rings := mput g.st.rings d x } }
/-- The record of tile `t`. -/
def Gov.trec (g : Gov) (t : Nat) : TRec := mget {} g.st.recs t
/-- The record of tile `t` replaced. -/
def Gov.setTrec (g : Gov) (t : Nat) (x : TRec) : Gov := { g with st := { g.st with recs := mput g.st.recs t x } }
/-- The ENMASK bits of die `d`. -/
def Gov.enmask (g : Gov) (d : Nat) : Nat := mget 0 g.st.enmask d
/-- The ENMASK bits of die `d` replaced. -/
def Gov.setEnmask (g : Gov) (d m : Nat) : Gov := { g with st := { g.st with enmask := mput g.st.enmask d m } }
/-- Tile `t` is built. -/
def Build.tile (b : Build) (t : Nat) : Bool := b.has .tile t

/-! ## ENMASK (R137) -/

/-- The partition that PL_TPART gives tile `t`. -/
def Gov.tilePart (g : Gov) (t : Nat) : Nat := g.rd (F.PL_TPART_PART (t / 16) (t % 16))

/-- A recovery hold applies to tile `t` (R425, R426). -/
def Gov.tileHeld (g : Gov) (t : Nat) : Bool :=
  bit (g.rd F.RCV_HOLD_PART) (g.tilePart t) || g.flag F.RCV_HOLD_CHIP

/-- A rail that feeds die `d` is in HICCUP or FAULT, which keeps the die's bits clear (R196, R205). -/
def Gov.dieDim (b : Build) (g : Gov) (d : Nat) : Bool :=
  (List.range b.rails).any (fun n =>
    (g.mode n == mHICCUP || g.mode n == mFAULT) &&
      (g.rd (F.ST_THR_RAIL d) == n ||
        bit (mget (g.rd (F.RAIL_PROT_DIEMASK n)) (g.rail n).lim (F.RAIL_PROT_DIEMASK n).key) d))

/-- The ST_RING test runs on die `d` (R499). -/
def Gov.ringTest (g : Gov) (d : Nat) : Bool :=
  g.flag F.TEST_STAT_BUSY && g.rd F.TEST_STAT_ID == 4 && g.rd F.TEST_STAT_OBJECT == d

/-- Nothing keeps the ENMASK bit of tile `t` clear: the Ready stage, HOLD_OFF 0, no recovery hold, no dark die, no
ring test (R137, R499). -/
def Gov.tileMayRun (b : Build) (g : Gov) (t : Nat) : Bool :=
  b.tile t && g.stage == sREADY && !g.flag (F.ST_TILE_HOLD_OFF t) && !g.tileHeld t && !g.dieDim b (t / 64)
    && !g.ringTest (t / 64)

/-- Every ENMASK bit of die `d` is cleared. -/
def Gov.enmaskClear (g : Gov) (d : Nat) : Gov := g.setEnmask d 0

/-- The ENMASK bits of die `d` that nothing keeps clear are set. -/
def Gov.enmaskRestore (b : Build) (g : Gov) (d : Nat) : Gov :=
  g.setEnmask d ((List.range b.tiles).foldl (fun m i => if g.tileMayRun b (64 * d + i) then withBit m i else m)
    (g.enmask d))

/-- The ENMASK bit of one tile is cleared. -/
def Gov.tileStop (g : Gov) (t : Nat) : Gov := g.setEnmask (t / 64) (withoutBit (g.enmask (t / 64)) (t % 64))

/-- PL_TPART of the 16 tiles from `16 k` has been written: each tile's ENMASK bit follows the hold, or the release, of the
partition it now names (R137, R425). -/
def tpartTaken (b : Build) (k : Nat) (g : Gov) : Gov :=
  g.each ((List.range 16).map (fun i => 16 * k + i)) (fun g t =>
    if b.tile t = false then g
    else if g.tileHeld t then g.tileStop t
    else if g.tileMayRun b t then g.setEnmask (t / 64) (withBit (g.enmask (t / 64)) (t % 64)) else g)

/-- A hiccup or a recovery hold of die `d` ends now (R422). -/
def Gov.holdEnds (g : Gov) (d : Nat) : Gov := { g with st := { g.st with holdEnd := mput g.st.holdEnd d g.gtime } }

/-- A write of HOLD_OFF (Table 5.11). -/
def holdOffWrite (b : Build) (t : Nat) (v : Bool) (g : Gov) : Gov :=
  let g := g.wrB (F.ST_TILE_HOLD_OFF t) v
  if v then g.tileStop t else g.enmaskRestore b (t / 64)

/-! ## The header (R131, R139) -/

/-- One bit of the CRC of R139. -/
def crcBit (c : Nat) (x : Bool) : Nat :=
  let c' := c * 2 % 65536
  if (bit c 15) != x then Nat.xor c' 0x1021 else c'

/-- One byte of the CRC, most significant bit first. -/
def crcByte (c x : Nat) : Nat :=
  [7, 6, 5, 4, 3, 2, 1, 0].foldl (fun c i => crcBit c (bit x i)) c

/-- The CRC-16 of a list of bytes: polynomial 0x1021 from 0xFFFF, not reflected (R139). -/
def crc16 (l : List Nat) : Nat := l.foldl crcByte 0xFFFF

/-- Bytes 0 to 13 of a header (Table 5.2). -/
def StHdr.bytes (h : StHdr) : List Nat :=
  let s := h.set
  let w1 := s.l1 % 4096 + s.s1 * 4096
  let w2 := s.l2 % 4096 + s.s2 * 4096
  [h.fnum % 256, s.hseq + s.tlvl * 4 + s.mode * 32, h.enm % 256, h.enm / 256 % 256,
   w1 % 256, w1 / 256, w2 % 256, w2 / 256, s.hys, s.hold, s.rdiv, h.ofs, 0, 0]

/-- The 16 bytes of a header with its CRC, as one number, byte 0 lowest. -/
def StHdr.word (h : StHdr) : Nat :=
  h.bytes.foldr (fun x a => x + 256 * a) 0 + crc16 h.bytes * 2 ^ 112

/-- The bytes of a 16-byte header. -/
def hdrBytes (w n : Nat) : List Nat := (List.range n).map (fun i => bits w (8 * i) 8)

/-- The CRC of a received header holds. -/
def hdrOk (w : Nat) : Bool := crc16 (hdrBytes w 14) == bits w 112 16

/-- The settings a received header carries (Table 5.2). -/
def hdrSet (w : Nat) (noRail : Bool) : StSet :=
  { hseq := bits w 8 2, tlvl := bits w 10 3, mode := bits w 13 2, l1 := bits w 32 12, s1 := bits w 44 4,
    l2 := bits w 48 12, s2 := bits w 60 4, hys := bits w 64 8, hold := bits w 72 8, rdiv := bits w 80 3,
    noRail := noRail }

/-- Vset of die `d`: that of the operating point in force on the rail ST_THR[d].RAIL names; where the rail is on, an increase
waits and a decrease comes first, as R148 moves it; 0 for a rail not built (R131). -/
def Gov.thrVset (b : Build) (g : Gov) (d : Nat) : Nat :=
  let n := g.rd (F.ST_THR_RAIL d)
  if b.rails ≤ n then 0
  else
    let v := g.rd (F.RAIL_OPT_VSET n (g.rd (F.RAIL_STAT_OPT n)))
    if g.mode n = mOFF ∨ g.mode n = mFAULT then v else min v (g.rail n).vthr

/-- The settings of die `d`'s header as the core computes them now, HSEQ apart (R131, R139). -/
def Gov.stSet (b : Build) (g : Gov) (d : Nat) : StSet :=
  let v := g.thrVset b d
  let d1 := g.rd (F.ST_THR_D1 d)
  let d2 := max d1 (g.rd (F.ST_THR_D2 d))
  { tlvl := g.rd (F.ST_THR_TLVL d), mode := g.rd (F.ST_THR_MODE d), l1 := v - d1, s1 := g.rd (F.ST_THR_S1 d),
    l2 := v - d2, s2 := g.rd (F.ST_THR_S2 d), hys := g.rd (F.ST_THR_HYS d), hold := g.rd F.ST_CTL_HOLD,
    rdiv := g.rd F.ST_CTL_RDIV, noRail := decide (b.rails ≤ g.rd (F.ST_THR_RAIL d)) }

/-- HSEQ of settings `s`: one more than that of the previous header where a field of it has changed (R139). -/
def Ring.hseqOf (r : Ring) (s : StSet) : Nat :=
  if { r.sent with hseq := 0, noRail := s.noRail } = { s with hseq := 0 } then r.sent.hseq else (r.sent.hseq + 1) % 4

/-- Bits of the tiles whose report slots frame `f` holds (R141). -/
def slotBits (f : Nat) : Nat := 0xFFFF * 2 ^ (f % 4 * 16)

/-- A frame goes out on the ring of die `d` with the header of R139 and the report slots of 16 tiles (R47); the ST_RING test
sends loopback frames without a header in its place (R499). -/
def ringFrameSend (b : Build) (d : Nat) (g : Gov) : Gov :=
  if g.live ∧ d < b.dies then
    let r := g.ring d
    let f := r.fnum
    let r := { r with fnum := (f + 1) % 256, out := r.out ++ [f], due := Nat.lor r.due (slotBits f) }
    if g.ringTest d then g.setRing d { r with hdr := none }
    else
      let s := { g.stSet b d with hseq := r.hseqOf (g.stSet b d) }
      let h : StHdr := { fnum := f, set := s, enm := bits (g.enmask d) (f % 4 * 16) 16,
                         ofs := g.rd (F.ST_TILE_OFS (64 * d + f % 64)) }
      g.setRing d { r with sent := s, hdr := some h }
  else g

/-! ## The satellite -/

/-- An effective threshold or release level of a satellite: a header level, its trim and an addend, clamped to 0
(R131). -/
def Sat.thr (x : Sat) (l add : Nat) : Nat :=
  if x.set.noRail then 0 else (clampI 0 8191 ((l : Int) + sx 8 x.ofs)).toNat + add

/-- The supply is below a level in codes. -/
def below (v : Int) (code : Nat) : Bool := decide (v < (code : Int) * 500000)

/-- The droop level that supply `v` gives a satellite at its present level (R132). -/
def Sat.newLevel (x : Sat) (v : Int) : Nat :=
  if below v (x.thr x.set.l2 0) then 2
  else if x.level = 2 ∧ below v (x.thr x.set.l2 x.set.hys) then 2
  else if below v (x.thr x.set.l1 0) then 1
  else if 1 ≤ x.level ∧ below v (x.thr x.set.l1 x.set.hys) then 1
  else 0

/-- The stretch of a level: S1 or S2, values above 8 acting as 8 (Table 5.1, R134). -/
def Sat.levelStretch (x : Sat) : Nat :=
  if x.level = 2 then min 8 x.set.s2 else if x.level = 1 then min 8 x.set.s1 else 0

/-- The satellite with its level judged again: a fall starts a fresh hold of the stretch as it then stands, and the ramp that
follows starts anew (R132, R133). (DEDUCED, log 95) -/
def Sat.judge (x : Sat) : Sat :=
  match x.vs with
  | some v =>
    let n := x.newLevel v
    { x with level := n, dmax := max x.dmax n, holdCnt := if n < x.level then x.set.hold else x.holdCnt,
              rampCnt := if n < x.level then 0 else x.rampCnt }
  | none => x

/-- What R137 asks of TCLK_EN. -/
def Sat.want (x : Sat) : Bool := x.supply && x.ringOk && x.enBit

/-- A change of TCLK_EN is made at once where TCLK_OUT has stopped, else in a later low phase (R137). -/
def Sat.enAtOnce (x : Sat) : Sat :=
  if x.stopAt.isSome then
    let x := { x with enBit := (x.pend.bind (fun p => p.en)).getD x.enBit }
    { x with en := x.want }
  else x

/-! ## The report slot (R141) -/

/-- Intervals of 2 ns in which TCLK_OUT stood still are counted up to now (R99, R137). -/
def Sat.countStop (x : Sat) (now : Nat) : Sat :=
  match x.stopAt with
  | some s => { x with tstop := (x.tstop + (now - s) / 2) % 2 ^ 32, stopAt := some (s + (now - s) / 2 * 2) }
  | none => x

/-- DLVL as a report gives it (Table 5.3): in an interval without a decision, level 2 was held at every one of them.
(DEDUCED, log 96) -/
def Sat.dlvl (x : Sat) : Nat := if x.dmax = 2 ∧ x.dall then 3 else x.dmax

/-- Parity of 56 bits. -/
def parity56 (w : Nat) : Nat := popCount 56 w % 2

/-- The report of tile index `i` from its satellite (Table 5.3). -/
def Sat.report (x : Sat) (i : Nat) : Nat :=
  let w := i + b2n x.en * 2 ^ 6 + x.dlvl * 2 ^ 7 + x.set.hseq * 2 ^ 9 + x.tcyc % 2 ^ 16 * 2 ^ 12
    + x.tstr % 2 ^ 16 * 2 ^ 28 + x.tstop % 2 ^ 12 * 2 ^ 44
  w + parity56 w * 2 ^ 11

/-- The satellite of tile index `i` has written its slot where GTIME `now` has reached the latch: the report holds the counts
of the latch, and what comes from then on is in the next interval (R141, Table 5.6). -/
def Sat.upTo (x : Sat) (i now : Nat) : Sat :=
  match x.latch with
  | some t =>
    if t ≤ now then
      let x := x.countStop t
      { x with latch := none, slot := some (x.report i), dmax := x.level, dall := true }
    else x
  | none => x

/-- The satellite of tile `t` at the present GTIME. -/
def Gov.satNow (g : Gov) (t : Nat) : Sat := (g.sat t).upTo (t % 64) g.gtime

/-! ## What acts on a satellite -/

/-- A satellite's supply comes up: its counts start from 0 and its isolation is released (R49). (DEDUCED, log 70) -/
def satSupplyUp (b : Build) (t : Nat) (g : Gov) : Gov :=
  if b.tile t ∧ (g.sat t).supply = false then g.setSat t { supply := true } else g

/-- A satellite's supply falls: the clamp holds TCLK_EN low, counts and settings are lost (R49). -/
def satSupplyLoss (b : Build) (t : Nat) (g : Gov) : Gov := if b.tile t then g.setSat t {} else g

/-- ST_VSNS of tile `t` stands at `v` nV: the droop level follows (R132). -/
def droopLevelChange (b : Build) (t : Nat) (v : Int) (g : Gov) : Gov :=
  if b.tile t ∧ (g.sat t).supply then g.setSat t ({ g.satNow t with vs := some v }).judge else g

/-- The header waiting for an edge is applied whole: a rise of TLVL raises the floor at once, a fall lowers it by one eighth
at once, also while an earlier fall still ramps (R48, R136, R140). -/
def Sat.apply (x : Sat) : Sat :=
  match x.pend with
  | some p =>
    let s := p.set
    let x' : Sat := { x with set := s, pend := none, enBit := p.en.getD x.enBit, ofs := p.ofs.getD x.ofs }
    (if x.floor ≤ s.tlvl then { x' with floor := s.tlvl, floorCnt := 0 }
     else if s.tlvl < x.set.tlvl then { x' with floor := x.floor - 1, floorCnt := 2 ^ s.rdiv }
     else x').judge
  | none => x

/-- The droop stretch of this edge, with its hold and ramp; settings that lower the stretch of the present level ramp it down
too (R133). (DEDUCED, log 95) -/
def Sat.droopEdge (x : Sat) : Sat :=
  let tgt := x.levelStretch
  if x.stretch ≤ tgt then { x with stretch := tgt, holdCnt := 0, rampCnt := 0 }
  else if 0 < x.holdCnt then { x with holdCnt := x.holdCnt - 1, rampCnt := 0 }
  else if x.rampCnt = 0 then { x with stretch := x.stretch - 1, rampCnt := 2 ^ x.set.rdiv - 1 }
  else { x with rampCnt := x.rampCnt - 1 }

/-- The throttle floor's ramp on one edge (R136). -/
def Sat.floorEdge (x : Sat) : Sat :=
  if x.floor ≤ x.set.tlvl then x
  else if x.floorCnt = 0 then { x with floor := x.floor - 1, floorCnt := 2 ^ x.set.rdiv - 1 }
  else { x with floorCnt := x.floorCnt - 1 }

/-- The droop stretch that acts: none in REPORT (R134). -/
def Sat.droopActs (x : Sat) : Nat := if x.set.mode = 0 then 0 else x.stretch

/-- One edge of TCLK_OUT: the header waiting is applied, the edge is stretched by the greater of the floor and the
droop stretch, the counts advance, and TCLK_EN may change in the low phase (R129, R133 to R137). (DEDUCED, log 39) -/
def Sat.edge (x : Sat) (now : Nat) : Sat :=
  let x := { x.countStop now with stopAt := none }
  let x := (x.apply.floorEdge).droopEdge
  { x with
    tcyc := (x.tcyc + 1) % 2 ^ 48, tstr := (x.tstr + max x.floor x.droopActs) % 2 ^ 32,
    dall := x.dall && x.level == 2, en := x.want }

/-- A TCLK_OUT edge of tile `t`. -/
def tileClockEdge (b : Build) (t : Nat) (g : Gov) : Gov :=
  if b.tile t ∧ (g.sat t).supply then g.setSat t ((g.satNow t).edge g.gtime) else g

/-- TCLK_OUT of tile `t` gives no edge for 16 ns (R137): TSTOP counts from now, a pending TCLK_EN change applies. -/
def tileClockStop (b : Build) (t : Nat) (g : Gov) : Gov :=
  if b.tile t ∧ (g.sat t).supply ∧ (g.sat t).stopAt = none then
    g.setSat t ({ g.satNow t with stopAt := some g.gtime }).enAtOnce
  else g

/-- What a valid header `w` of frame `f` leaves waiting at tile index `i`: its settings, and the ENMASK bit or the OFS of the
tile where it carries them; one that an earlier header left waits on (R48, R139). -/
def StPend.next (old : Option StPend) (w i : Nat) (noRail : Bool) : StPend :=
  let f := bits w 0 8
  { set := hdrSet w noRail,
    en := if f % 4 = i / 16 then some (bit w (16 + i % 16)) else old.bind (fun p => p.en),
    ofs := if f % 64 = i then some (bits w 88 8) else old.bind (fun p => p.ofs) }

/-- The satellite of tile `t` receives the header in flight on its ring, some of whose bits a fault may have changed
(`err`). A wrong CRC discards it; a valid one is applied whole from the next tile clock edge (R48, R140). Where the frame
holds the tile's report slot, the counts are latched when the slot's first byte passes, 14 ns a slot after the header (R47,
R141). -/
def headerReceive (b : Build) (t err : Nat) (g : Gov) : Gov :=
  match (g.ring (t / 64)).hdr with
  | some h =>
    if b.tile t ∧ (g.sat t).supply ∧ g.live then
      let w := Nat.xor h.word (err % 2 ^ 128)
      let i := t % 64
      let x := g.satNow t
      let x := if h.fnum % 4 = i / 16 then { x with latch := some (g.gtime + 14 * (i % 16)) } else x
      if hdrOk w then
        g.setSat t ({ x with ringOk := true, pend := some (StPend.next x.pend w i h.set.noRail) }).enAtOnce
      else g.setSat t x
    else g
  | none => g

/-- No valid header for the ring-loss time: TCLK_EN falls, and rises again only on a valid header whose ENMASK bit for the
tile is 1 (R138). -/
def ringLoss (b : Build) (t : Nat) (g : Gov) : Gov :=
  if b.tile t ∧ (g.sat t).supply then
    let x := g.satNow t
    g.setSat t ({ x with
      ringOk := false, enBit := false, pend := x.pend.map (fun (p : StPend) => ({ p with en := none } : StPend)) } : Sat).enAtOnce
  else g

/-! ## Reports (R142) -/

/-- Increase of a count whose low `n` bits were `old` and now read `new` (R142). -/
def lowDiff (n new old : Nat) : Nat := (new + 2 ^ n - old) % 2 ^ n

/-- A report of tile `t` is lost (R142). -/
def reportLost (t : Nat) (g : Gov) : Gov :=
  let r := g.trec t
  (g.setTrec t { r with lost := (r.lost + 1) % 2 ^ 32, lostRun := r.lostRun + 1, seq := (r.seq + 2) % 2 ^ 32, wiped := false }).count
    (F.ERR_CNT_COUNT 2) 1

/-- The counts of a valid report are taken into the record (R142, Table 5.4). -/
def TRec.take (r : TRec) (w cap now : Nat) : TRec :=
  let c := bits w 12 16
  let s := bits w 28 16
  let p := bits w 44 12
  let d := bits w 7 2
  let r := { r with
    cap := cap, lowC := c, lowS := s, lowP := p, lostRun := 0, lastRep := now, seq := (r.seq + 2) % 2 ^ 32,
    n1 := (r.n1 + b2n (1 ≤ d)) % 2 ^ 32, n2 := (r.n2 + b2n (2 ≤ d)) % 2 ^ 32, n3 := (r.n3 + b2n (d = 3)) % 2 ^ 32,
    tcyc := if r.valid then (r.tcyc + lowDiff 16 c r.lowC) % 2 ^ 48 else r.tcyc,
    tstr := if r.valid then (r.tstr + lowDiff 16 s r.lowS) % 2 ^ 64 else r.tstr,
    tstop := if r.valid then (r.tstop + lowDiff 12 p r.lowP) % 2 ^ 64 else r.tstop }
  { r with valid := true, wiped := false }

/-- The DROOP event of a report with DLVL of 2 or more, once per EVT_GAP µs and tile (R146). -/
def droopEvent (t d : Nat) (g : Gov) : Gov :=
  let r := g.trec t
  let due := match r.droopT with
    | some x => decide (x + 1000 * g.rd F.ST_CTL_EVT_GAP ≤ g.gtime)
    | none => true
  if due then
    let inc := r.tstr - r.droopS
    let g := g.evt { code := 0xA001, time := r.cap, capt := true,
                     sat := decide (0xFFFFFFFF < inc ∨ 0xFFFFFFFF < r.droopN),
                     unal := !g.flag F.GTIME_STAT_ALIGNED,
                     p0 := t + d * 2 ^ 16, p1 := p32 r.droopN, p2 := p32 inc, p3 := r.tcyc % 2 ^ 32 }
    g.setTrec t { g.trec t with droopT := some g.gtime, droopN := 0, droopS := r.tstr }
  else g.setTrec t { r with droopN := r.droopN + 1 }

/-- The record of tile `t` is written again, which steps SEQ by 2 (R143). -/
def Gov.recStep (g : Gov) (t : Nat) : Gov :=
  g.setTrec t { g.trec t with seq := ((g.trec t).seq + 2) % 2 ^ 32, wiped := false }

/-- NOREP of tile `t` is set: its record, and an event (R143, R144). -/
def norepMark (t : Nat) (g : Gov) : Gov :=
  let g := (g.wr (F.ST_TILE_NOREP t) 1).recStep t
  (g.setTrec t { g.trec t with norepAt := g.gtime, norepTold := false }).ev 0xA003 t 0 0 0

/-- A valid report of tile `t` (R142 to R146). GAP and its event come with the first valid report after 3 or more lost ones;
a run of losses that no valid report preceded leaves no gap. (DEDUCED, log 97) -/
def reportValid (t w hops : Nat) (g : Gov) : Gov :=
  let r := g.trec t
  let cap := g.gtime - 4 * hops
  let d := bits w 7 2
  let gap := decide (3 ≤ r.lostRun) && r.valid
  let g := if gap then (g.wr (F.ST_TILE_GAP t) 1).ev 0xA004 t r.lostRun 0 0 else g
  let g := g.setTrec t (r.take w cap g.gtime)
  let g := ((g.wr (F.ST_TILE_EN t) (bits w 6 1)).wr (F.ST_TILE_DLVL t) d).wr (F.ST_TILE_HACK t) (bits w 9 2)
  let g := g.wr (F.ST_TILE_NOREP t) 0
  let g := if 2 ≤ d then
      droopEvent t d { g with
        recr := { g.recr with
        deepTiles := if g.recr.deepTiles.contains t then g.recr.deepTiles else t :: g.recr.deepTiles } }
    else g
  let sel := g.rd (F.TRC_SEL_SEL 7)
  let r := g.trec t
  if bits sel 0 9 = t ∨ (bit sel 9 ∧ bits sel 0 9 / 64 = t / 64) then
    g.traceAt 7 11 cap true (t + d * 2 ^ 9 + bits w 6 1 * 2 ^ 11) (r.tcyc % 2 ^ 32) (r.tstr % 2 ^ 32) (r.tstop % 2 ^ 32)
  else g

/-- The report slot of tile `t`, of a frame that is out, reaches the core over `hops` hops: with what its satellite has
written, the bits of `err` changed on the way, or empty (R47, R141). An empty slot is a lost report for every tile.
(DEDUCED, log 106) -/
def reportReceived (b : Build) (t hops err : Nat) (present : Bool) (g : Gov) : Gov :=
  let r := g.ring (t / 64)
  if b.tile t ∧ g.live ∧ bit r.due (t % 64) then
    let g := g.setRing (t / 64) { r with due := withoutBit r.due (t % 64) }
    let x := g.satNow t
    let g := g.setSat t { x with slot := none }
    match x.slot with
    | some v =>
      let w := Nat.xor v (err % 2 ^ 56)
      if present ∧ parity56 w = 0 ∧ bits w 0 6 = t % 64 then reportValid t w hops g else reportLost t g
    | none => reportLost t g
  else g

/-- A frame of die `d` is due back at the core: missing, or with the CRC verdict and FNUM it carries (R145). -/
def frameReturnCheck (b : Build) (d : Nat) (arrived crcOk : Bool) (fnum : Nat) (g : Gov) : Gov :=
  if g.live ∧ d < b.dies then
    let r := g.ring d
    match r.out with
    | [] => g
    | f :: rest =>
      let why := if !arrived then 1 else if !crcOk then 2 else if fnum % 256 ≠ f then 3 else 0
      let run := if why = 0 then min 4 (r.okRun + 1) else 0
      let g := g.setRing d { r with out := rest, okRun := run }
      let g := if run = 4 then g.setBit F.ST_STAT_RING_OK d else g.clrBit F.ST_STAT_RING_OK d
      if why = 0 then g else (g.setBit F.ST_STAT_RING_ERR d).ev 0xA002 d why f 0
  else g

/-- A tile gives no valid report in 8 rotations: NOREP (R144). -/
def norepSet (b : Build) (t : Nat) (g : Gov) : Gov :=
  if g.live ∧ b.tile t ∧ g.flag (F.ST_TILE_NOREP t) = false then
    norepMark t (g.runTo ((g.trec t).lastRep + 8192))
  else g

/-- At readiness a satellite that has not reported its enable is treated as silent (R123, R144). -/
def norepAtReady (b : Build) (g : Gov) : Gov :=
  g.each (List.range b.dies) (fun g d => g.each (List.range b.tiles) (fun g i =>
    let t := 64 * d + i
    if bit (g.enmask d) i && !g.flag (F.ST_TILE_EN t) && !g.flag (F.ST_TILE_NOREP t) then norepMark t g else g))

/-- NOREP of tile `t` has stood for 1 ms (R144): service cause 6; Deathwatch takes the tile as R420 gives it.
(DEDUCED, log 74) -/
def norepService (b : Build) (t : Nat) (g : Gov) : Gov :=
  if g.live ∧ b.tile t ∧ g.flag (F.ST_TILE_NOREP t) ∧ (g.trec t).norepTold = false then
    (((g.runTo ((g.trec t).norepAt + 1000000)).setTrec t { g.trec t with norepTold := true })).svc 6
  else g

/-- A throttle level is put into the header of die `d` (R135, R385). -/
def Gov.setThrottle (g : Gov) (d l : Nat) : Gov := g.wr (F.ST_THR_TLVL d) l

end Sys2Proof.Machine
end

