-- ==== Sys2Proof/Machine/PlaceBase.lean ====
section
/-! DEFINITION. Placement's shared operations (spec/11, spec/12): pages, frames, the reference table fed by grant
reports, orders, the freeing of DRAIN pages and slots, teardown, and peer windows. -/

namespace Sys2Proof.Machine

/-! ## Access -/

/-- Page states of Table 11.8. -/
def pFREE : Nat := 0
def pRESIDENT : Nat := 1
def pMOVING : Nat := 2
def pOLDKEEP : Nat := 3
def pDEFERRED : Nat := 4
def pDRAIN : Nat := 5

/-- Slot states of Table 11.7. -/
def qFREE : Nat := 0
def qLIVE : Nat := 1
def qDEFERRED : Nat := 2
def qDRAIN : Nat := 3

/-- The residency entry of page `p`. -/
def Gov.page (g : Gov) (p : Nat) : Page := mget {} g.pl.pages p
/-- Page `p` replaced. (DEDUCED, log 41) -/
def Gov.setPage (g : Gov) (p : Nat) (x : Page) : Gov := { g with pl := { g.pl with pages := mput g.pl.pages p x } }
/-- The sequence slot `sid`. -/
def Gov.seqn (g : Gov) (sid : Nat) : Seqn := mget {} g.pl.seqs sid
/-- Sequence slot `sid` replaced, its UPD moved on by an odd and an even write (R303). -/
def Gov.setSeqn (g : Gov) (sid : Nat) (x : Seqn) : Gov :=
  { g with pl := { g.pl with seqs := mput g.pl.seqs sid { x with upd := (x.upd + 2) % 2 ^ 32 } } }
/-- The policy entry of context `c` (Table 11.5). -/
def Gov.policy (g : Gov) (c : Nat) : Nat := mget 0 g.pl.policy c
/-- Reset values of a policy entry (Table 11.5). -/
def policyReset : Nat := 0x7B00
/-- The policy entry of context `c` replaced. -/
def Gov.setPolicy (g : Gov) (c v : Nat) : Gov := { g with pl := { g.pl with policy := mput g.pl.policy c v } }

/-! ## Frames (R306, R307) -/

/-- A frame's name: tier × 2^23 + LOC. -/
def frameOf (tier cont f : Nat) : Nat := tier * 2 ^ 23 + cont * 2 ^ 18 + f
/-- The tier of a frame. -/
def frTier (x : Nat) : Nat := x / 2 ^ 23
/-- The LOC of a frame. -/
def frLoc (x : Nat) : Nat := x % 2 ^ 23
/-- The container of a frame, as tier × 32 + index. -/
def frCont (x : Nat) : Nat := frTier x * 32 + frLoc x / 2 ^ 18
/-- The frame a page's entry names. -/
def Page.frame (x : Page) : Nat := x.tier * 2 ^ 23 + x.loc

/-- An ascending list with `x` inserted once. -/
def insertNat (x : Nat) : List Nat → List Nat
  | [] => [x]
  | y :: r => if x < y then x :: y :: r else if x = y then y :: r else y :: insertNat x r

/-- The lowest number from `k` upward that an ascending list does not hold. -/
def firstGap : Nat → List Nat → Nat
  | k, [] => k
  | k, x :: r => if x < k then firstGap k r else if x = k then firstGap (k + 1) r else k

/-- Frames in use of a container. -/
def Gov.framesUsed (g : Gov) (c : Nat) : List Nat := mget [] g.pl.used c
/-- Placeable frames of a container as set (R307). -/
def Gov.framesSet (g : Gov) (c : Nat) : Nat :=
  if c < 32 then g.rd (F.PL_T0_FRAMES c) else if c < 64 then g.rd (F.PL_STACK_FRAMES (c - 32))
  else g.rd (F.PL_PEER_FRAMES (c - 64))
/-- Free frames of a container. -/
def Gov.framesFree (g : Gov) (c : Nat) : Nat := g.framesSet c - (g.framesUsed c).length
/-- The lowest free frame of a container, where one is free. -/
def Gov.lowFrame (g : Gov) (c : Nat) : Option Nat :=
  let f := firstGap 0 (g.framesUsed c)
  if f < g.framesSet c ∧ 0 < g.framesFree c then some (frameOf (c / 32) (c % 32) f) else none
/-- A frame is taken. -/
def Gov.takeFrame (g : Gov) (x : Nat) : Gov :=
  { g with pl := { g.pl with used := mput g.pl.used (frCont x) (insertNat (x % 2 ^ 18) (g.framesUsed (frCont x))) } }
/-- A frame returns to its container's free count, unless it is withheld (R317). -/
def Gov.freeFrame (g : Gov) (x : Nat) : Gov :=
  if g.pl.held.contains x then g
  else { g with
    pl := { g.pl with
    used := mput g.pl.used (frCont x) ((g.framesUsed (frCont x)).filter (fun f => f != x % 2 ^ 18)) } }
/-- A frame is withheld until GOV_PORST_N: counted, recorded, service cause 11 (R317). -/
def Gov.withholdFrame (g : Gov) (x why : Nat) : Gov :=
  let g := { g with pl := { g.pl with held := insertNat x g.pl.held } }
  ((g.count (F.PL_CNT_COUNT 7) 1).ev 0x5008 (frTier x + frLoc x * 4) why 0 0).svc 11

/-! ## References (R305, R322) -/

/-- Write grants that name page `p`. -/
def Gov.writeRefs (g : Gov) (p : Nat) : Nat := (g.pl.refs.filter (fun r => r.page == p && r.wr)).length
/-- Read grants that name page `p`. -/
def Gov.readRefs (g : Gov) (p : Nat) : Nat := (g.pl.refs.filter (fun r => r.page == p && !r.wr)).length
/-- Some grant names page `p`. -/
def Gov.named (g : Gov) (p : Nat) : Bool := g.pl.refs.any (fun r => r.page == p)
/-- Some grant decided before the XLATE_INV completion names page `p`. -/
def Gov.namedBefore (g : Gov) (p : Nat) : Bool := g.pl.refs.any (fun r => r.page == p && !r.after)

/-! ## Orders (R315 to R319) -/

/-- An order joins those waiting to be issued. -/
def Gov.queueOrd (g : Gov) (o : Ord) : Gov := { g with pl := { g.pl with ords := g.pl.ords ++ [o] } }

/-- Partition generation tag of partition `q` (RCV_PGEN). -/
def Gov.pgen (g : Gov) (q : Nat) : Nat := g.rd (F.RCV_PGEN_PGEN q)

/-- An order about page `p`, of the context that owns the page: a slot that a leave freed may have a new sequence. -/
def Gov.ordFor (g : Gov) (kind p : Nat) : Ord :=
  let x := g.page p
  { kind := kind, page := p, ver := x.ver, spill := false, ctx := x.ctx, cgen := x.cgen, part := x.part,
    pgen := g.pgen x.part, sid := x.sid, uid := x.uid, step := x.selStep }

/-- RELEASE of a frame is issued as soon as an order place allows (Table 12.1). -/
def Gov.release (g : Gov) (p fr step : Nat) (waits : Bool) : Gov :=
  g.queueOrd { g.ordFor 3 p with src := fr, step := step, replyWait := waits }

/-- Orders of page `p` that wait or are outstanding, for the sequence instance that owns it. -/
def Gov.pageOrds (g : Gov) (p : Nat) : Bool := g.pl.ords.any (fun o => o.page == p && o.uid == (g.page p).uid)

/-- Orders outstanding (PL_ORD.OUT). -/
def Gov.ordsOut (g : Gov) : Nat := (g.pl.ords.filter (fun o => o.issued)).length

/-! ## Page transitions (Table 12.3) -/

/-- The old copy of an OLDKEEP page is needed no longer: RELEASE, and RESIDENT (R322 item 5). -/
def Gov.dropOld (g : Gov) (p : Nat) : Gov :=
  let x := g.page p
  if x.state = pOLDKEEP ∧ x.invDone ∧ !g.namedBefore p then
    let g := match x.old with
      | some f => g.release p f x.selStep false
      | none => g
    let g := g.setPage p { x with state := pRESIDENT, old := none, invDone := false }
    { g with pl := { g.pl with refs := g.pl.refs.map (fun r => if r.page = p then { r with after := false } else r) } }
  else g

/-- Pages of a sequence instance that are not FREE. -/
def Gov.pagesOf (g : Gov) (uid : Nat) : List Nat := mkeys (fun _ x => x.uid == uid && x.state != pFREE) g.pl.pages

/-- Orders of a sequence instance, written-off ones included (NORD). -/
def Gov.seqOrds (g : Gov) (uid : Nat) : Nat := (g.pl.ords.filter (fun o => o.uid == uid)).length

/-- A DRAIN slot whose pages and orders are gone becomes FREE; with the last slot of its generation the teardown
ends (R335). -/
def Gov.freeSlot (g : Gov) (sid : Nat) : Gov :=
  let s := g.seqn sid
  if s.state = qDRAIN ∧ g.pagesOf s.uid = [] ∧ g.seqOrds s.uid = 0 ∧ s.lostPg = 0 then
    let g := g.setSeqn sid { s with state := qFREE }
    if !s.revoked || g.pl.seqs.any (fun e => e.2.revoked && e.2.state == qDRAIN && e.2.ctx == s.ctx && e.2.cgen == s.cgen)
    then g
    else g.ev 0x5007 (s.ctx + s.cgen * 2 ^ 12) ((g.gtime - s.ttd) / 1000) 0 0
  else g

/-- Every DRAIN slot is looked at. -/
def Gov.freeSlots (g : Gov) : Gov :=
  g.each (mkeys (fun _ s => s.state == qDRAIN) g.pl.seqs) (fun g sid => g.freeSlot sid)

/-- A DRAIN page that no grant names and no order concerns becomes FREE, with RELEASE of every frame it still holds
(Table 12.3); its slot is looked at (R335). -/
def Gov.tryFree (g : Gov) (p : Nat) : Gov :=
  let x := g.page p
  if x.state = pDRAIN ∧ !g.named p ∧ !g.pageOrds p then
    let g := if x.tier = 3 then g else g.release p x.frame x.selStep false
    let g := match x.old with
      | some f => g.release p f x.selStep false
      | none => g
    let g := match x.dst with
      | some f => g.release p f x.selStep false
      | none => g
    let g := g.setPage p { x with state := pFREE, old := none, dst := none, abort := false, invDone := false }
    g.freeSlots
  else g

/-- A grant report reaches the reference table (R219, R305): a write grant on a MOVING page sets its abort mark
(R322 item 2); a grant naming a FREE page is counted and recorded. -/
def plGrant (h req p : Nat) (wr : Bool) (g : Gov) : Gov :=
  let x := g.page p
  let g := { g with
    pl := { g.pl with
    refs := g.pl.refs ++ [{ h := h, page := p, wr := wr, after := x.state == pOLDKEEP && x.invDone }] } }
  let g := if x.state = pFREE then g.ev 0x5001 p req h 0 else g
  if wr ∧ x.state = pMOVING then g.setPage p { x with abort := true } else g

/-- The freeing of a grant reaches the reference table (R219). -/
def plFree (h : Nat) (g : Gov) : Gov :=
  match g.pl.refs.find? (fun r => r.h == h) with
  | some r =>
    let g := { g with pl := { g.pl with refs := g.pl.refs.filter (fun y => y.h != h) } }
    let x := g.page r.page
    let g := if r.wr ∧ x.state = pDEFERRED then g.setPage r.page { x with waitH := some h } else g
    (g.dropOld r.page).tryFree r.page
  | none => g

/-! ## Selections dropped, pages drained -/

/-- The trace entry of a page that leaves DEFERRED after a write grant held it (Table 16.9). -/
def Gov.traceWaited (g : Gov) (p : Nat) : Gov :=
  let x := g.page p
  let h : Option Nat := match g.pl.refs.find? (fun r => r.page == p && r.wr) with
    | some r => some r.h
    | none => x.waitH
  match h with
  | some h => g.trace 5 9 0 (p + x.ver * 2 ^ 20) x.sid (min 131071 ((g.gtime - x.selT) / 1000) + h % 2 ^ 15 * 2 ^ 17)
  | none => g

/-- A DEFERRED page with no COPY issued returns to RESIDENT, and its destination frame at once (Table 12.3). -/
def Gov.dropSelection (g : Gov) (p : Nat) : Gov :=
  let x := g.page p
  if x.state = pDEFERRED then
    let g := g.traceWaited p
    let g := match x.dst with
      | some f => g.freeFrame f
      | none => g
    g.setPage p { x with state := pRESIDENT, dst := none, spill := false, waitH := none }
  else g

/-- Page `p` goes to DRAIN: a reserved destination returns at once, outstanding orders are written off (R326, R333). -/
def Gov.drainPage (g : Gov) (p : Nat) : Gov :=
  let g := g.dropSelection p
  let x := g.page p
  let g := g.setPage p { x with state := pDRAIN, abort := false }
  { g with
    pl := { g.pl with
    ords := g.pl.ords.map (fun o => if o.page = p ∧ o.uid = x.uid ∧ o.issued then { o with wo := true } else o) } }

/-! ## Teardown of a context (R333) -/

/-- The sequences of a revoked generation are torn down. (DEDUCED, log 50) -/
def tearDown (ctx cgen : Nat) (g : Gov) : Gov :=
  let sids := mkeys (fun _ s => (s.state == qLIVE || s.state == qDEFERRED) && s.ctx == ctx && s.cgen == cgen) g.pl.seqs
  let ps := sids.flatMap (fun sid => g.pagesOf (g.seqn sid).uid)
  let woff := (g.pl.ords.filter (fun o => ps.contains o.page && (g.page o.page).uid == o.uid && o.issued && !o.wo)).length
  let g := g.each sids (fun g sid => g.setSeqn sid { g.seqn sid with state := qDRAIN, ttd := g.gtime, revoked := true })
  let g := g.each ps (fun g p => g.drainPage p)
  let g := g.ev 0x5006 (ctx + cgen * 2 ^ 12) sids.length woff 0
  (g.each ps (fun g p => g.tryFree p)).freeSlots

/-- CTX_REVOKE reaches placement: at once, or after the reply of the step in progress (R333). -/
def plRevoke (ctx cgen : Nat) (g : Gov) : Gov :=
  if g.pl.cur.isSome then { g with pl := { g.pl with revoked := g.pl.revoked ++ [(ctx, cgen)] } }
  else tearDown ctx cgen g

/-- A generation of a context is still in teardown at placement (R395, R335). -/
def Gov.inTeardown (g : Gov) (ctx cgen : Nat) : Bool :=
  g.pl.seqs.any (fun e => e.2.revoked && e.2.state == qDRAIN && e.2.ctx == ctx && e.2.cgen == cgen)
    || g.pl.revoked.contains (ctx, cgen)

/-- Context generations in teardown (PL_TD.NTD). -/
def Gov.nTeardown (g : Gov) : Nat :=
  ((g.pl.seqs.filter (fun e => e.2.revoked && e.2.state == qDRAIN)).map (fun e => (e.2.ctx, e.2.cgen))).eraseDups.length

/-! ## Peer windows (R307, R332) -/

/-- Pages on peer window `w`. -/
def Gov.pagesOnPeer (g : Gov) (w : Nat) : Nat :=
  (mkeys (fun _ x => x.state != pFREE && x.tier == 2 && x.loc / 2 ^ 18 == w) g.pl.pages).length

/-- The loss of a Hedgerow link makes the windows behind it unreachable. -/
def peerLinkLost (k : Nat) (g : Gov) : Gov :=
  g.each (List.range 32) (fun g w =>
    if g.rd (F.PL_PEER_LINK w) = k ∧ g.flag (F.PL_PEER_UNREACH w) = false then
      (g.wr (F.PL_PEER_UNREACH w) 1).ev 0x5005 w (g.pagesOnPeer w) 0 0
    else g)

/-- The link is joined again. -/
def peerLinkJoined (k : Nat) (g : Gov) : Gov :=
  g.each (List.range 32) (fun g w => if g.rd (F.PL_PEER_LINK w) = k then g.wr (F.PL_PEER_UNREACH w) 0 else g)

end Sys2Proof.Machine
end

