-- ==== Sys2Proof/Machine/Demand.lean ====
section
/-! DEFINITION. Announced demand and grants (spec/08): hubs and links, lane decisions, the admission test, held
entries, completions, the horizon, deltas and the withdrawal of work. -/

namespace Sys2Proof.Machine

/-! ## Access -/

/-- The grant table entry of handle `h`. -/
def Gov.grant (g : Gov) (h : Nat) : Grant := mget {} g.dm.grants h
/-- Entry `h` replaced. -/
def Gov.setGrant (g : Gov) (h : Nat) (x : Grant) : Gov := { g with dm := { g.dm with grants := mput g.dm.grants h x } }
/-- Context `c`. -/
def Gov.ctx (g : Gov) (c : Nat) : Ctx := mget {} g.dm.ctxs c
/-- Context `c` replaced. -/
def Gov.setCtx (g : Gov) (c : Nat) (x : Ctx) : Gov := { g with dm := { g.dm with ctxs := mput g.dm.ctxs c x } }
/-- Hub `d`. -/
def Gov.hub (g : Gov) (d : Nat) : Hub := mget {} g.dm.hubs d
/-- Hub `d` replaced. -/
def Gov.setHub (g : Gov) (d : Nat) (x : Hub) : Gov := { g with dm := { g.dm with hubs := mput g.dm.hubs d x } }
/-- Entries that satisfy `p`, by handle. -/
def Gov.grantsBy (g : Gov) (p : Grant → Bool) : List Nat := mkeys (fun _ x => p x) g.dm.grants
/-- Entries GRANTED. -/
def Gov.grantsOut (g : Gov) : Nat := (g.grantsBy (fun x => x.st == 2)).length
/-- Entries that context `c` holds, HELD or GRANTED. -/
def Gov.ctxEntries (g : Gov) (c : Nat) : Nat := (g.grantsBy (fun x => x.st != 0 && x.ctx == c)).length
/-- Grants and announcements not yet done that requester `r` holds at its hub (R52). -/
def Gov.reqCount (g : Gov) (r : Nat) : Nat := mget 0 g.dm.reqCnt r
/-- The hub count of requester `r` replaced. -/
def Gov.setReqCount (g : Gov) (r n : Nat) : Gov := { g with dm := { g.dm with reqCnt := mput g.dm.reqCnt r n } }
/-- Requester `r` is disabled (R234). -/
def Gov.reqOff (g : Gov) (r : Nat) : Bool := mget false g.dm.disabled r
/-- Requester `r` is disabled or enabled. -/
def Gov.setReqOff (g : Gov) (r : Nat) (v : Bool) : Gov :=
  { g with dm := { g.dm with disabled := mput g.dm.disabled r v } }

/-- A result appears on a requester's pins (R50). -/
def Gov.deliver (g : Gov) (r slot code h : Nat) : Gov :=
  { g with dm := { g.dm with gnt := mput g.dm.gnt r { slot := slot, code := code, handle := h } } }

/-- A refusal is delivered; the slot is free at the hub (R217). (DEDUCED, log 40) -/
def Gov.refuse (g : Gov) (r slot : Nat) : Gov := (g.setReqCount r (g.reqCount r - 1)).deliver r slot 1 0

/-! ## Signatures (R211, R222) -/

/-- The largest current of a template's segments. -/
def segPeak (l : List (Nat × Nat)) : Nat := maxOf (l.map (·.1)) id

/-- The rails of a signature with their segments. -/
def Sig.rails (s : Sig) : List (Nat × List (Nat × Nat)) :=
  (s.railA, s.segA) :: (if s.segB = [] then [] else [(s.railB, s.segB)])

/-- The rails of a signature with the peaks of their templates. -/
def Sig.peaks (s : Sig) : List (Nat × Nat) := s.rails.map (fun e => (e.1, segPeak e.2))

/-- Power of current code `i` at voltage code `v`, 1/8 W (R222). -/
def power (i v : Nat) : Nat := (i * v + 3999) / 4000

/-- VSET of the operating point in force on rail `n` (R165, R222). -/
def Gov.vsetNow (g : Gov) (n : Nat) : Nat :=
  if g.mode n = mOFF then g.rd (F.RAIL_OPT_VSET n (g.rd (F.RAIL_STAT_OPT n))) else (g.rail n).vset

/-- An entry's PWR (R222). -/
def Gov.sigPwr (g : Gov) (s : Sig) : Nat :=
  min 0xFFFF ((s.peaks.map (fun e => power e.2 (g.vsetNow e.1))).foldl (· + ·) 0)

/-- PK[n] (R229). -/
def Gov.pkOf (g : Gov) (n : Nat) : Nat := mget 0 g.dm.pk n

/-! ## The budget scopes (Table 8.4) -/

/-- A CAL_PROBE runs on rail `n`. -/
def Gov.calProbing (g : Gov) (n : Nat) : Bool := g.probes.any (fun e => e.1 == n && e.2.cal)

/-- ILIM_RAIL as passed to admission: 0 while a CAL_PROBE runs on the rail (R501). -/
def Gov.ilimAdm (g : Gov) (n : Nat) : Nat :=
  if g.calProbing n then 0 else g.rd (F.RAIL_PSTAT_ILIM_RAIL n)

/-- The rail budget B in force (Table 8.4). -/
def Gov.railB (g : Gov) (n : Nat) : Nat := min (g.ilimAdm n) (g.rd (F.BUD_RAIL_LIM n))

/-- The die that rail `n` counts in. -/
def Gov.railDie (g : Gov) (n : Nat) : Nat := g.rd (F.DMD_RAIL_DIE n)

/-- Power of PK[n]. -/
def Gov.pkPower (g : Gov) (n : Nat) : Nat := power (g.pkOf n) (g.vsetNow n)

/-- Demand of die `d`. -/
def Gov.dieDemand (b : Build) (g : Gov) (d : Nat) : Nat :=
  sumTo b.rails (fun n => if g.railDie n = d then g.pkPower n else 0)

/-- Demand of the module. -/
def Gov.modDemand (b : Build) (g : Gov) : Nat := sumTo b.rails (fun n => g.pkPower n)

/-- Use of partition `q`: the sum of the PWR of its GRANTED entries. -/
def Gov.partUse (g : Gov) (q : Nat) : Nat :=
  (g.dm.grants.map (fun e => if e.2.st = 2 ∧ e.2.part = q then e.2.pwr else 0)).foldl (· + ·) 0

/-- One scope of a test: its code kind × 16 + index, B, D and the increment. -/
structure Scope where
  code : Nat
  b : Nat
  d : Nat
  inc : Nat

/-- The scopes that a signature touches in partition `q`, in the order of Table 8.4. -/
def Gov.scopes (b : Build) (g : Gov) (s : Sig) (q pwr : Nat) : List Scope :=
  let rs := s.peaks.map (fun e => (⟨e.1, g.railB e.1, g.pkOf e.1, e.2⟩ : Scope))
  let dies := ((s.peaks.map (fun e => g.railDie e.1)).filter (fun d => decide (d < 8))).eraseDups
  let ds := dies.map (fun d => (⟨16 + d, g.rd (F.DMD_DIE_CEIL d), g.dieDemand b d,
    (s.peaks.map (fun e => if g.railDie e.1 = d then power e.2 (g.vsetNow e.1) else 0)).foldl (· + ·) 0⟩ : Scope))
  rs ++ ds ++ [⟨32 + q, g.rd (F.DMD_PART_BUD q), g.partUse q, pwr⟩, ⟨48, g.rd F.DMD_MOD_CAP, g.modDemand b, pwr⟩]

/-- The codes of the scopes that a signature touches in partition `q`. -/
def Gov.scopeCodes (g : Gov) (s : Sig) (q : Nat) : List Nat :=
  s.peaks.map (·.1) ++ (((s.peaks.map (fun e => g.railDie e.1)).filter (fun d => decide (d < 8))).eraseDups).map (16 + ·)
    ++ [32 + q, 48]

/-- What classes 1 to 3 may use of a budget (R224). -/
def classE (bud rsv tl : Nat) : Nat := bud * (64 - rsv) / 64 * (8 - tl) / 8

/-- An entry is blocked by a blocking one that shares a scope, while AGE is not 0 (R226). `age` is none for one not yet
decided. -/
def Gov.blockedBy (g : Gov) (cls : Nat) (age : Option Nat) (codes : List Nat) : Bool :=
  g.rd F.DMD_CTL_AGE != 0 && g.dm.grants.any (fun e =>
    let x := e.2
    x.st == 1 && x.blocking && (decide (x.cls < cls) || (x.cls == cls && (match age with
      | some a => decide (x.age < a)
      | none => true)))
      && (g.scopeCodes x.dec x.part).any (fun c => codes.contains c))

/-! ## Hub links (R215, R216) -/

/-- Whether class `c` may leave for the link (Table 8.5). -/
def classAllowed (backlog c : Nat) : Bool :=
  decide (backlog < (if c = 0 then 14336 else if c = 1 then 6144 else if c = 2 then 4096 else 2048))

/-- One GCLK cycle of a hub's links. -/
def Hub.move (x : Hub) (backlog : Nat) : Hub :=
  let x := if x.link.length < 9 then
      match [0, 1, 2, 3].find? (fun c => classAllowed backlog c && !(mget [] x.q c).isEmpty) with
      | some c =>
        match mget [] x.q c with
        | a :: r => { x with q := mput x.q c r, link := x.link ++ [a] }
        | [] => x
      | none => x
    else x
  if x.clink.length < 8 ∧ backlog < 14336 then
    match x.cq with
    | a :: r => { x with cq := r, clink := x.clink ++ [a] }
    | [] => x
  else x

/-- `n` cycles of a hub's links. -/
def Hub.moves (x : Hub) (backlog : Nat) : Nat → Hub
  | 0 => x
  | n + 1 => (x.move backlog).moves backlog n

/-- A hub with its links moved up to the present cycle, under the backlog of the cycles since the last time. -/
def Gov.hubRun (g : Gov) (x : Hub) : Hub :=
  { (x.moves g.dm.backlog.length (min 9 (g.gtime - x.tick))) with tick := g.gtime }

/-- The links of hub `d` are brought up to the present cycle. -/
def Gov.hubSync (g : Gov) (d : Nat) : Gov := g.setHub d (g.hubRun (g.hub d))

/-- The links of every hub are brought up to the present cycle, before the backlog changes: each cycle of a link sees the
backlog of that cycle (Table 8.5). -/
def Gov.hubsSync (g : Gov) : Gov := { g with dm := { g.dm with hubs := mmap (fun _ x => g.hubRun x) g.dm.hubs } }

/-! ## Deltas (R227, R228, R231) -/

/-- Slot `a` lies after slot `s`, compared modulo 2^32 within ±2^31. -/
def slotAfter (a s : Nat) : Bool :=
  let d := (a + 2 ^ 32 - s % 2 ^ 32) % 2 ^ 32
  decide (0 < d ∧ d < 2 ^ 31)

/-- L[n]. -/
def Gov.lvl (g : Gov) (n : Nat) : Int := mget 0 g.dm.lvl n
/-- D[n][k]. -/
def Gov.ringD (g : Gov) (n k : Nat) : Int := mget 0 g.dm.ring (n * 64 + k)

/-- A 24-bit two's-complement sum. -/
def wrap24 (i : Int) : Int := sx 24 (ux 24 i)

/-- A delta is written (R227). -/
def Gov.applyDelta (g : Gov) (x : Delta) : Gov :=
  if slotAfter x.slot g.dm.slot then
    { g with
      dm := { g.dm with
      ring := mput g.dm.ring (x.rail * 64 + x.slot % 64) (wrap24 (g.ringD x.rail (x.slot % 64) + x.v)) } }
  else { g with dm := { g.dm with lvl := mput g.dm.lvl x.rail (wrap24 (g.lvl x.rail + x.v)) } }

/-- Start deltas of one rail (R228); a zero delta is not written. -/
def startDeltas (n gs cls gid : Nat) : Int → List (Nat × Nat) → List Delta
  | _, [] => []
  | prev, (i, st) :: r =>
    let v : Int := (i : Int) - prev
    (if v = 0 then [] else [{ rail := n, slot := (gs + st) % 2 ^ 32, v := v, cls := cls, start := true, gid := gid }])
      ++ startDeltas n gs cls gid i r

/-- Completion deltas of one rail (R228), with the level the operation stands at. -/
def endDeltas (n gs c cls : Nat) : Int → Int → List (Nat × Nat) → List Delta
  | _, lev, [] => if lev = 0 then [] else [{ rail := n, slot := c % 2 ^ 32, v := -lev, cls := cls }]
  | prev, lev, (i, st) :: r =>
    if (c + 2 ^ 32 - gs) % 2 ^ 32 < st then
      (if prev - i = 0 then [] else [{ rail := n, slot := (gs + st) % 2 ^ 32, v := prev - i, cls := cls }])
        ++ endDeltas n gs c cls i lev r
    else endDeltas n gs c cls i i r

/-- The slot that contains the present cycle, modulo 2^32 (R227). -/
def Gov.slotNow (g : Gov) : Nat := g.gtime / 250 % 2 ^ 32

/-- Deltas enter the backlog. -/
def Gov.queueDeltas (g : Gov) (l : List Delta) : Gov :=
  let g := g.hubsSync
  { g with dm := { g.dm with backlog := g.dm.backlog ++ l } }

/-- The delta that a lane takes next: class 0 first, completions before starts within a class, oldest first. -/
def nextDelta (l : List Delta) : Option Delta :=
  [0, 1, 2, 3].findSome? (fun c =>
    match l.find? (fun x => x.cls == c && !x.start) with
    | some x => some x
    | none => l.find? (fun x => x.cls == c && x.start))

/-! ## Freeing entries (R221, R228) -/

/-- The drain of a context that holds no entry any more ends (R233). -/
def Gov.drainCheck (g : Gov) (c : Nat) : Gov :=
  let x := g.ctx c
  if x.st = 2 ∧ x.ended = false ∧ g.ctxEntries c = 0 then
    (g.setCtx c { x with ended := true }).ev 0x3002 (c + x.cgen * 2 ^ 12) 0 0 0
  else g

/-- A HELD entry leaves the wait for a result: the trace entry of buffer 0 (Table 16.9, R464). -/
def Gov.traceWait (g : Gov) (h result : Nat) : Gov :=
  let x := g.grant h
  let sel := g.rd (F.TRC_SEL_SEL 0)
  let w := g.gtime - x.t0
  if bit sel x.cls ∧ bits sel 16 16 * 250 ≤ w then
    let r : Rel := mget {} g.dm.rel x.scope
    let rv := decide ((mfind g.dm.rel x.scope).isSome ∧ x.failAt < r.t)
    g.trace 0 1 (x.req + x.cls * 2 ^ 10 + result * 2 ^ 12 + x.scope / 16 * 2 ^ 14 + x.scope % 16 * 2 ^ 16 + x.ctx * 2 ^ 20)
      w (h + (if rv then r.handle * 2 ^ 15 + 2 ^ 31 else 0))
      (if rv then r.ctx + r.req * 2 ^ 12 + r.cls * 2 ^ 22 else 0)
  else g

/-- Entry `h` is freed: its image keeps its other fields (R219); placement hears of it where it names a page. -/
def Gov.freeEntry (g : Gov) (h : Nat) : Gov :=
  let x := g.grant h
  let g := g.setGrant h { x with st := 0, blocking := false, due := false, named := false }
  let g := if x.pmode = 0 then g else plFree h g
  g.drainCheck x.ctx

/-- A HELD entry is freed, with result code of buffer 0, and a refusal where one is delivered. -/
def Gov.freeHeld (g : Gov) (h result : Nat) (deliver : Bool) : Gov :=
  let x := g.grant h
  let g := (g.traceWait h result).freeEntry h
  if deliver then (g.refuse x.req x.slot).count (F.DMD_CNT_COUNT 2) 1 else g

/-- The entries for which a completion or a scan asks a re-test are marked (R226). -/
def Gov.markDue (g : Gov) : Gov :=
  { g with dm := { g.dm with grants := mmap (fun _ x => if x.st = 1 then { x with due := true } else x) g.dm.grants } }

/-- A GRANTED entry is freed as by a completion in the current slot (R228). -/
def Gov.freeGranted (g : Gov) (h : Nat) : Gov :=
  let x := g.grant h
  let c := g.slotNow
  let ds := x.dec.rails.flatMap (fun e => endDeltas e.1 x.gslot c x.cls 0 0 e.2)
  let rel : Rel := { t := g.gtime, handle := h, ctx := x.ctx, req := x.req, cls := x.cls }
  let g := { g with
    dm := { g.dm with
    rel := (g.scopeCodes x.dec x.part).foldl (fun m c => mput m c rel) g.dm.rel } }
  ((g.queueDeltas ds).freeEntry h).markDue

/-! ## Decisions (R217 to R226) -/

/-- A rail of the signature is in mode OFF or FAULT (R217). -/
def Gov.railDead (g : Gov) (s : Sig) : Bool :=
  s.rails.any (fun e => g.mode e.1 == mOFF || g.mode e.1 == mFAULT)

/-- The entry becomes GRANTED: peaks, start deltas, counts, the result on the pins and the report to placement
(R217, R219, R228, R229). -/
def Gov.grantEntry (g : Gov) (h : Nat) : Gov :=
  let x := g.grant h
  let gs := g.slotNow
  let gid := x.age
  let ds := x.dec.rails.flatMap (fun e => startDeltas e.1 gs x.cls gid 0 e.2)
  let g := g.setGrant h { x with
    st := 2, gslot := gs, grantAt := g.gtime, blocking := false, due := false, named := false }
  let g := { g with
    dm := { g.dm with
    pk := x.dec.peaks.foldl (fun (m : Sparse Nat) (e : Nat × Nat) => mput m e.1 (mget 0 m e.1 + e.2)) g.dm.pk,
    pend := g.dm.pend ++ [({ gid := gid, peaks := x.dec.peaks, left := ds.length } : PkPend)],
    c0rails := if x.cls = 0 then x.dec.rails.map (fun (e : Nat × List (Nat × Nat)) => e.1) else g.dm.c0rails } }
  let g := (g.queueDeltas ds).count (F.DMD_CNT_COUNT 0) 1
  let g := g.histo (48 + x.cls) ((g.gtime - x.t0 : Nat) : Int)
  let sel := g.rd (F.TRC_SEL_SEL 1)
  let g := if bit sel 12 ∨ bits sel 0 12 = x.ctx then
      g.trace 1 2 (h + x.cls * 2 ^ 15 + x.req * 2 ^ 17) (x.ctx + x.sig * 2 ^ 12) x.pwr gs
    else g
  let g := g.deliver x.req x.slot 0 h
  if x.pmode = 0 then g else plGrant h x.req x.page (x.pmode == 2) g

/-- A class-0 grant above a full budget (R223). -/
def Gov.markOver (g : Gov) (h : Nat) : Gov :=
  let x := g.grant h
  let g := (((g.setGrant h { x with past := true }).wr F.DMD_STAT_OVER_SEEN 1).count (F.DMD_CNT_COUNT 5) 1)
  let n := g.dm.overN + 1
  let due := match g.dm.overT with
    | some t => decide (t + 1000 * g.rd F.DMD_CTL_OVER_GAP ≤ g.gtime)
    | none => true
  if due then
    ({ g with dm := { g.dm with overT := some g.gtime, overN := 0 } }).ev 0x3001 h x.req x.ctx n
  else { g with dm := { g.dm with overN := n } }

/-- The test of step 4 on an entry already allocated: granted or HELD. -/
def testEntry (b : Build) (h : Nat) (fresh : Bool) (g : Gov) : Gov :=
  let x := g.grant h
  let pwr := g.sigPwr x.dec
  let x := { x with pwr := pwr }
  let g := g.setGrant h { x with due := false }
  let sc := g.scopes b x.dec x.part pwr
  if x.cls = 0 then
    let g := if sc.any (fun s => decide (s.b < s.d + s.inc)) then g.markOver h else g
    g.grantEntry h
  else
    let tl := g.rd (F.ST_THR_TLVL (b.hubOf x.req))
    let rsv := g.rd F.DMD_MOD_RSV
    let bad := sc.find? (fun s => decide (classE s.b rsv tl < s.d + s.inc))
    let blk := g.blockedBy x.cls (if fresh then none else some x.age) (g.scopeCodes x.dec x.part)
    if bad.isNone ∧ !blk then
      let g := if fresh then g else g.traceWait h 0
      g.grantEntry h
    else
      let s := match bad with
        | some s => s.code
        | none => x.scope
      if fresh then
        (g.setGrant h { x with st := 1, heldAt := g.gtime, failAt := g.gtime, scope := s, due := false }).count
          (F.DMD_CNT_COUNT 1) 1
      else g.setGrant h { x with scope := s, due := false }

/-- A protocol error is counted (R217, R221). -/
def Gov.dmProto (g : Gov) : Gov := (g.wr F.DMD_STAT_PROTO_SEEN 1).count (F.DMD_CNT_COUNT 7) 1

/-- The lowest-numbered free entry (R217). -/
def Gov.freeHandle (g : Gov) : Option Nat :=
  let h := firstGap 0 (g.grantsBy (fun x => x.st != 0))
  if h < 32768 then some h else none

/-- The decision of one announcement (R217). -/
def decideAnn (b : Build) (a : Ann) (g : Gov) : Gov :=
  let c := g.ctx a.ctx
  let dupSlot := g.dm.grants.any (fun e => e.2.st != 0 && e.2.req == a.req && e.2.slot == a.slot)
  match mfind g.dm.sigs a.sig with
  | none => (g.refuse a.req a.slot).count (F.DMD_CNT_COUNT 2) 1
  | some s =>
    if c.st ≠ 1 ∨ a.cgen ≠ c.cgen ∨ a.pmode = 3 ∨ dupSlot ∨ g.railDead s then
      let g := if c.st = 1 ∧ a.cgen = c.cgen ∧ a.pmode ≠ 3 ∧ dupSlot then g.dmProto else g
      (g.refuse a.req a.slot).count (F.DMD_CNT_COUNT 2) 1
    else
      let t0 := a.t0.getD g.gtime
      match g.freeHandle with
      | none => { g with dm := { g.dm with wait := g.dm.wait ++ [{ a with t0 := some t0 }] } }
      | some h =>
        let cls := max a.cls c.cmin
        let g := if a.cls < c.cmin then g.count (F.DMD_CNT_COUNT 6) 1 else g
        let g := g.setGrant h {
          sig := a.sig, ctx := a.ctx, cgen := a.cgen, req := a.req, slot := a.slot, cls := cls, pmode := a.pmode,
          demoted := decide (a.cls < c.cmin), part := c.part, page := if a.pmode = 0 then 0 else a.page, dec := s,
          gslot := g.slotNow, age := g.dm.ages, t0 := t0 }
        testEntry b h true { g with dm := { g.dm with ages := g.dm.ages + 1 } }

/-- The class of a waiting announcement after demotion (R217). -/
def Gov.waitCls (g : Gov) (a : Ann) : Nat := max a.cls (g.ctx a.ctx).cmin

/-- Freed entries go to the entry wait list first, class 0 before 1, 2 and 3, oldest first (R218, R26). -/
def serveWait (b : Build) : Nat → Gov → Gov
  | 0, g => g
  | n + 1, g =>
    if g.freeHandle.isNone then g
    else
      match [0, 1, 2, 3].findSome? (fun c => g.dm.wait.find? (fun a => g.waitCls a == c)) with
      | none => g
      | some a =>
        serveWait b n (decideAnn b a { g with dm := { g.dm with wait := g.dm.wait.erase a } })

/-- The entry wait list is served after an entry was freed. -/
def Gov.serve (b : Build) (g : Gov) : Gov := serveWait b g.dm.wait.length g

/-! ## Hubs and lanes (R51, R52, R216) -/

/-- Completions of requester `r` accepted in the present cycle: their slots are free in the following one (R52). -/
def Gov.freedNow (g : Gov) (r : Nat) : Nat := if g.dm.freedAt = g.gtime then (g.dm.freed.filter (· == r)).length else 0

/-- ANN_READY for requester `r` and class `c` (R52): hub open, requester enabled, fewer than 32 held, queue not full. -/
def Gov.annReady (b : Build) (g : Gov) (r c : Nat) : Bool :=
  g.live && g.dm.isOpen && !g.reqOff r && decide (g.reqCount r + g.freedNow r < 32) && decide ((mget [] (g.hub (b.hubOf r)).q c).length < 16)

/-- A requester's announcement is accepted where its hub is ready (R51, R52). -/
def announcementAccept (b : Build) (r sig ctx cgen cls slot pmode page : Nat) (g : Gov) : Gov :=
  let d := b.hubOf r
  let c := cls % 4
  let g' := g.hubSync d
  if r < b.requesters ∧ g'.annReady b r c then
    let x := g'.hub d
    let a : Ann := { req := r, sig := sig % 4096, ctx := ctx % 4096, cgen := cgen % 256, cls := c, slot := slot % 32,
                     pmode := pmode % 4, page := page % 2 ^ 20 }
    (g'.setHub d { x with q := mput x.q c (mget [] x.q c ++ [a]) }).setReqCount r (g'.reqCount r + 1)
  else g

/-- The held entry of hub `d` next due for re-test: class order, oldest first (R26, R226). -/
def Gov.nextDue (b : Build) (g : Gov) (d : Nat) : Option Nat :=
  let hs := g.grantsBy (fun x => x.st == 1 && x.due && b.hubOf x.req == d)
  [0, 1, 2, 3].findSome? (fun c =>
    (hs.filter (fun h => (g.grant h).cls == c)).foldl (fun m h => match m with
      | none => some h
      | some k => if (g.grant h).age < (g.grant k).age then some h else some k) none)

/-- A held entry is tested again; one with a rail in OFF or FAULT is refused (R217, R226, Table 8.6). -/
def retest (b : Build) (h : Nat) (g : Gov) : Gov :=
  if g.railDead (g.grant h).dec then g.freeHeld h 1 true else testEntry b h false g

/-- One lane cycle of hub `d`: the arriving announcement if its class is 0, else the held entry next due whose class is no
greater than the arriving one's, else the arriving one (R216). The announcement at the head of the link is taken as the one
that arrives. (DEDUCED, log 100) -/
def laneItem (b : Build) (d : Nat) (g : Gov) : Gov :=
  let x := g.hub d
  match x.link, g.nextDue b d with
  | [], none => g
  | [], some h => retest b h g
  | a :: r, none => decideAnn b a (g.setHub d { x with link := r })
  | a :: r, some h =>
    if a.cls ≠ 0 ∧ (g.grant h).cls ≤ a.cls then retest b h g else decideAnn b a (g.setHub d { x with link := r })

/-- The lane of hub `d` has an announcement at its input and decides one item (R216, R217). -/
def laneDecision (b : Build) (d : Nat) (g : Gov) : Gov :=
  if g.live ∧ d < b.dies then
    let g := g.hubSync d
    let x := g.hub d
    let x := if x.link.isEmpty then x.move g.dm.backlog.length else x
    if x.link.isEmpty then g else laneItem b d (g.setHub d x)
  else g

/-- The lane of hub `d` has a held entry due for re-test and decides one item (R216, R226). -/
def heldRetest (b : Build) (d : Nat) (g : Gov) : Gov :=
  if g.live ∧ d < b.dies then
    let g := g.hubSync d
    if (g.nextDue b d).isNone then g else laneItem b d g
  else g

/-- A held entry reaches AGE and becomes blocking (R226). -/
def entryBlocking (h : Nat) (g : Gov) : Gov :=
  let x := g.grant h
  if g.live ∧ x.st = 1 ∧ x.blocking = false ∧ g.rd F.DMD_CTL_AGE ≠ 0 then
    (g.runTo (x.heldAt + 1000 * g.rd F.DMD_CTL_AGE)).setGrant h { x with blocking := true }
  else g

/-- A slot of requester `r` is freed for the following cycle. -/
def Gov.freedLater (g : Gov) (r : Nat) : Gov :=
  { g with dm := { g.dm with
    freed := if g.dm.freedAt = g.gtime then r :: g.dm.freed else [r], freedAt := g.gtime } }

/-- A completion is accepted at its hub and frees the requester's slot (R51, R52, R234). -/
def completionAccept (b : Build) (r h kind : Nat) (g : Gov) : Gov :=
  let d := b.hubOf r
  let g' := g.hubSync d
  let x := g'.hub d
  if g.live ∧ r < b.requesters ∧ !g.reqOff r ∧ x.cq.length < 16 then
    (g'.setHub d { x with cq := x.cq ++ [{ req := r, handle := h % 32768, kind := kind % 4 }] }).setReqCount r
      (g'.reqCount r - 1) |>.freedLater r
  else g

/-- The core takes a completion from the link of hub `d` (R221). -/
def completionAtCore (b : Build) (d : Nat) (g : Gov) : Gov :=
  if g.live ∧ d < b.dies then
    let g := g.hubSync d
    let x := g.hub d
    let x := if x.clink.isEmpty then x.move g.dm.backlog.length else x
    match x.clink with
    | [] => g
    | c :: r =>
      let g := g.setHub d { x with clink := r }
      let e := g.grant c.handle
      if e.st = 2 ∧ e.req = c.req then
        let g := g.count (F.DMD_CNT_COUNT (if c.kind = 1 then 4 else 3)) 1
        let g := if 2 ≤ c.kind then g.dmProto else g
        let g := g.histo (52 + e.cls) ((g.gtime - e.grantAt : Nat) : Int)
        let sel := g.rd (F.TRC_SEL_SEL 1)
        let g := if bit sel 12 ∨ bits sel 0 12 = e.ctx then
            g.trace 1 3 (c.handle + e.cls * 2 ^ 15 + e.req * 2 ^ 17) (e.ctx + e.sig * 2 ^ 12) e.pwr e.gslot
          else g
        g.freeGranted c.handle
      else g.dmProto
  else g

/-! ## The horizon (R227, R229, R230) -/

/-- Slot `s` begins: every level takes its difference. (DEDUCED, log 29) -/
def beginSlot (b : Build) (s : Nat) (g : Gov) : Gov :=
  let g := { g with dm := { g.dm with slot := s % 2 ^ 32 } }
  g.each (List.range b.rails) (fun g n =>
    { g with
      dm := { g.dm with
      lvl := mput g.dm.lvl n (wrap24 (g.lvl n + g.ringD n (s % 64))), ring := mput g.dm.ring (n * 64 + s % 64) 0 } })

/-- The slots after the one begun last, up to the one that has come: no more than 64 differ. -/
def beginSlots (b : Build) (s0 : Nat) : Nat → Gov → Gov
  | 0, g => g
  | n + 1, g => beginSlots b (s0 + 1) n (beginSlot b s0 g)

/-- A slot begins: ring deltas enter the level and a snapshot is taken (R227, R229). -/
def slotBoundary (b : Build) (g : Gov) : Gov :=
  if g.live then
    let cur := g.gtime / 250
    let ahead := (cur + 2 ^ 32 - g.dm.slot) % 2 ^ 32
    let n := if ahead < 2 ^ 31 then max 1 ahead else 1
    let last := if ahead < 2 ^ 31 then (if ahead = 0 then cur + 1 else cur) else cur + 1
    let g := beginSlots b (last + 1 - min n 64) (min n 64) g
    let g := g.runTo (250 * last)
    { g with
      dm := { g.dm with
      snapL := g.dm.lvl, snapD := g.dm.ring, snapSlot := last, snapNew := true,
      pend := g.dm.pend.filter (fun p => p.left != 0) } }
  else g

/-- Horizon values of one rail from the snapshot: the sums, in order of k (R229). -/
def scanRail (d : Nat → Int) (h : Int) : Nat → Nat → List Int
  | _, 0 => []
  | k, n + 1 => (h + d k) :: scanRail d (h + d k) (k + 1) n

/-- H[n][k] is limited to 0 to 65,535. -/
def clampH (i : Int) : Nat := satU 16 i

/-- The results of a scan: H, PK, validity and NF of every rail (R229, R230). -/
def scanResult (b : Build) (g : Gov) : Gov :=
  if g.live ∧ g.dm.snapNew then
    let s := g.dm.snapSlot
    let g := g.runTo (250 * s + 32)
    let valid := g.rd F.DMD_CTL_HZ_EN == 1 && g.dm.isOpen && decide (g.dm.backlog.length < 2048)
    let g := { g with dm := { g.dm with snapNew := false, hSlot := s } }
    let g := g.each (List.range b.rails) (fun g n =>
      let l : Int := mget 0 g.dm.snapL n
      let hs := l :: scanRail (fun k => mget 0 g.dm.snapD (n * 64 + (s + k) % 64)) l 1 63
      let top := hs.foldl (fun m h => if m < h then h else m) 0
      let pk := top.toNat + ((g.dm.pend.flatMap (·.peaks)).map (fun e => if e.1 = n then e.2 else 0)).foldl (· + ·) 0
      let hk := hs.map clampH
      let g := { g with
        dm := { g.dm with
        h := (List.range 64).foldl (fun m k => mput m (n * 64 + k) (hk.getD k 0)) g.dm.h,
        pk := mput g.dm.pk n pk,
        pkZero := mput g.dm.pkZero n (if pk = 0 then mget 0 g.dm.pkZero n + 1 else 0) } }
      let mx := maxOf (hk.take (g.rd (F.DMD_RAIL_NFW n) + 1)) id
      let add := g.lf n (F.RAIL_SHED_IPH_ADD n)
      let nf := if valid then (if add = 0 then min 31 (Config.nfByZero mx) else min 31 ((mx + add - 1) / add)) else 31
      ((((g.wr (F.DMD_RSTAT_HNOW n) (hk.getD 0 0)).wr (F.DMD_RSTAT_NF n) nf).wrB (F.DMD_RSTAT_VALID n) valid).wr
        (F.RAIL_PSTAT_NF n) nf))
    g.markDue
  else g

/-- One delta of the backlog is written (R231). -/
def deltaWrite (g : Gov) : Gov :=
  if g.live then
    match nextDelta g.dm.backlog with
    | none => g
    | some x =>
      let g := g.hubsSync
      let g := { g with
        dm := { g.dm with
        backlog := g.dm.backlog.erase x,
        pend := g.dm.pend.map (fun (p : PkPend) => if x.start && p.gid == x.gid then { p with left := p.left - 1 } else p) } }
      g.applyDelta x
  else g

/-- I_p: the horizon of rail `n` at slot `s`, from the last completed scan (R229). -/
def Gov.horizonI (g : Gov) (n s : Nat) : Nat := mget 0 g.dm.h (n * 64 + (s - g.dm.hSlot))

/-- The horizon of rail `n` is valid (R230). -/
def Gov.horizonValid (g : Gov) (n : Nat) : Bool := g.flag (F.DMD_RSTAT_VALID n)

/-! ## Opening, closing, withdrawing (R123, R234, R235) -/

/-- The hubs open (R123). -/
def Gov.hubsOpen (g : Gov) : Gov := { g with dm := { g.dm with isOpen := true } }

/-- The hubs close without delivery (R206, R235, R261). -/
def Gov.hubsShut (g : Gov) : Gov := { g with dm := { g.dm with isOpen := false } }

/-- The hubs close at Seq-down: every HELD entry is freed and a refusal delivered (R125 item 1, R235). -/
def Gov.hubsClose (g : Gov) : Gov :=
  let g := g.hubsShut
  g.each (g.grantsBy (fun x => x.st == 1)) (fun g h => g.freeHeld h 1 true)

/-- Every entry is freed as by REQ_RESET, its requester's hub count falling, no requester disabled (R235). -/
def Gov.discardGrants (g : Gov) : Gov :=
  let g := g.each (g.grantsBy (fun x => x.st == 1)) (fun g h =>
    let r := (g.grant h).req
    (g.freeHeld h 1 false).setReqCount r (g.reqCount r - 1))
  g.each (g.grantsBy (fun x => x.st == 2)) (fun g h =>
    let r := (g.grant h).req
    (g.freeGranted h).setReqCount r (g.reqCount r - 1))

/-- A requester is disabled and all its entries freed, HELD ones silently; the counts freed are (GRANTED, HELD)
(R234). -/
def reqReset (r : Nat) (g : Gov) : Gov × Nat × Nat :=
  let hs := g.grantsBy (fun x => x.st == 1 && x.req == r)
  let gs := g.grantsBy (fun x => x.st == 2 && x.req == r)
  let g := g.setReqOff r true
  let g := g.each hs (fun g h => g.freeHeld h 2 false)
  let g := g.each gs (fun g h => g.freeGranted h)
  (g.setReqCount r 0, gs.length, hs.length)

/-- A context goes to DRAIN; the counts are HELD freed and GRANTED left (R233). -/
def ctxRevoke (c : Nat) (g : Gov) : Gov × Nat × Nat :=
  let x := g.ctx c
  if x.st = 1 then
    let hs := g.grantsBy (fun e => e.st == 1 && e.ctx == c)
    let gs := g.grantsBy (fun e => e.st == 2 && e.ctx == c)
    let g := g.setCtx c { x with st := 2, drainAt := g.gtime, ended := false }
    let g := g.each hs (fun g h => g.freeHeld h 3 true)
    let g := g.drainCheck c
    (plRevoke c x.cgen g, hs.length, gs.length)
  else (g, 0, 0)

/-! ## The signature store (R210, R212) -/

/-- One bit step of the reflected CRC-32 of IEEE 802.3. -/
def crc32Bit (c : Nat) : Nat := if c % 2 = 1 then Nat.xor (c / 2) 0xEDB88320 else c / 2

/-- One byte step of the CRC-32. -/
def crc32Byte (c x : Nat) : Nat :=
  let c := Nat.xor c x
  crc32Bit (crc32Bit (crc32Bit (crc32Bit (crc32Bit (crc32Bit (crc32Bit (crc32Bit c)))))))

/-- The CRC-32 of R103 over a list of bytes: IEEE 802.3. -/
def crc32 (l : List Nat) : Nat := Nat.xor (l.foldl crc32Byte 0xFFFFFFFF) 0xFFFFFFFF

/-- `n` bytes of the store from byte `a`. -/
def memBytes (m : List (Nat × Byte)) (a n : Nat) : List Nat := (List.range n).map (fun i => (memGet m (a + i)).toNat)

/-- A little-endian number from bytes. -/
def leNat (l : List Nat) : Nat := l.foldr (fun x a => x + 256 * a) 0

/-- `n` bytes of a list from byte `a`, little-endian. -/
def leAt (l : List Nat) (a n : Nat) : Nat := leNat ((l.drop a).take n)

/-- The segment words of a signature image from byte `a`. -/
def segWords (l : List Nat) (a : Nat) : List Nat := (List.range 4).map (fun k => leAt l (a + 4 * k) 4)

/-- The starts rise strictly. -/
def rising : List Nat → Bool
  | a :: b :: r => decide (a < b) && rising (b :: r)
  | _ => true

/-- Byte offset of the signature store region and of signature `i` in it (Table 17.11). -/
def sigAddr (i : Nat) : Nat := 0x880000 + 64 * i

/-- The first check of R212 that the image of signature `i` fails, 1 to 7; 0 for none. -/
def sigCheck (b : Build) (i : Nat) (l : List Nat) : Nat :=
  let na := bits (leAt l 3 1) 0 3
  let nb := bits (leAt l 3 1) 3 3
  let ra := bits (leAt l 2 1) 0 4
  let rb := bits (leAt l 2 1) 4 4
  let sa := segWords l 8
  let sb := segWords l 24
  let starts (s : List Nat) (n : Nat) := (s.take n).map (fun w => bits w 16 6)
  if crc32 (l.take 60) ≠ leAt l 60 4 then 1
  else if leAt l 0 2 % 4096 ≠ i then 2
  else if na < 1 ∨ 4 < na ∨ 4 < nb then 3
  else if b.rails ≤ ra ∨ (nb ≠ 0 ∧ b.rails ≤ rb) then 4
  else if nb ≠ 0 ∧ ra = rb then 5
  else if !rising (starts sa na) ∨ !rising (starts sb nb) then 6
  else if leAt l 0 2 / 4096 ≠ 0 ∨ leAt l 3 1 / 64 ≠ 0 ∨ leAt l 40 8 ≠ 0 ∨ leAt l 56 4 ≠ 0
      ∨ (sa ++ sb).any (fun w => decide (2 ^ 22 ≤ w))
      ∨ (sa.drop na).any (fun w => w != 0) ∨ (sb.drop nb).any (fun w => w != 0) then 7
  else 0

/-- The decoded form of an image. -/
def sigDecode (l : List Nat) : Sig :=
  let seg (w : Nat) : Nat × Nat := (bits w 0 16, bits w 16 6)
  { railA := bits (leAt l 2 1) 0 4, railB := bits (leAt l 2 1) 4 4,
    segA := ((segWords l 8).take (bits (leAt l 3 1) 0 3)).map seg,
    segB := ((segWords l 24).take (bits (leAt l 3 1) 3 3)).map seg, ver := leAt l 4 4,
    img := leNat (l.take 64) }

/-- Entries that reference the decoded form of signature `i` (R213). -/
def Gov.sigRefs (g : Gov) (i : Nat) : Nat := (g.grantsBy (fun x => x.st != 0 && x.sig == i)).length

/-- A grant table entry's 128 bits (Table 8.2). -/
def Grant.word (x : Grant) : Nat :=
  x.sig + x.ctx * 2 ^ 12 + x.cgen * 2 ^ 24 + x.req * 2 ^ 32 + x.slot * 2 ^ 42 + x.cls * 2 ^ 47 + x.st * 2 ^ 49
    + x.pmode * 2 ^ 51 + b2n x.demoted * 2 ^ 53 + b2n x.past * 2 ^ 54 + x.part * 2 ^ 56 + x.pwr * 2 ^ 60
    + (if x.pmode = 0 then 0 else x.page) * 2 ^ 76 + x.gslot % 2 ^ 32 * 2 ^ 96

end Sys2Proof.Machine
end

