-- ==== Sys2Proof/Machine/Dma.lean ====
section
/-! DEFINITION. The DMA port (R61 to R63): the requests of Table 2.10, at most 32 outstanding and one per ID, and the order
in which the parts of a structure are written, the word that marks it valid last. Functions are numbered as in Table 13.19:
0 trace, 1 dump, 2 mirror, 3 placement. -/

namespace Sys2Proof.Machine

/-! ## Requests -/

/-- DRQ_ADDR: the host address of the request's first beat. -/
def DmaTx.reqAddr (x : DmaTx) (q : DmaReq) : Nat := x.addr + q.off

/-- DRQ_BEATS: beats of 16 bytes minus one. -/
def DmaReq.beats (q : DmaReq) : Nat := (q.hi - q.off + 15) / 16 - 1

/-- DWD_STRB of beat `i`: the bytes of the structure that the request writes. -/
def DmaReq.strb (q : DmaReq) (i : Nat) : Nat :=
  sumTo 16 (fun k => if q.lo ≤ q.off + 16 * i + k ∧ q.off + 16 * i + k < q.hi then 2 ^ k else 0)

/-- DWD_LAST at beat `i`. -/
def DmaReq.last (q : DmaReq) (i : Nat) : Bool := i == q.beats

/-- DWD_DATA of beat `i`, from the words of the structure. -/
def DmaTx.data (x : DmaTx) (q : DmaReq) (i : Nat) : Nat :=
  let k := (q.off + 16 * i) / 8
  x.words.getD k 0 % 2 ^ 64 + x.words.getD (k + 1) 0 % 2 ^ 64 * 2 ^ 64

/-- The IDs of the transactions outstanding (R62). -/
def Gov.dmaIds (g : Gov) : List Nat := g.dma.flatMap (fun e => e.2.out.map (fun q => q.id))

/-- The lowest ID free, of 32. (DESIGN CHOICE, log 101) -/
def Gov.dmaFreeId (g : Gov) : Option Nat := (List.range 32).find? (fun i => !g.dmaIds.contains i)

/-- The structure with its next range begun, where it may go on: a range that marks the structure valid, or that its rule
puts after the others, waits for every response outstanding; so does each request of a read. -/
def DmaTx.ready (x : DmaTx) : Option DmaTx :=
  if !x.wr && !x.out.isEmpty then none
  else if x.pos < x.stop then some x
  else
    match x.parts with
    | (a, e, after) :: r => if after && !x.out.isEmpty then none else some { x with pos := a, stop := e, parts := r }
    | [] => none

/-- The next request goes out at `t` under ID `i`: up to four beats, to the end of 64 bytes of the structure or of its range.
(DESIGN CHOICE, log 101) -/
def DmaTx.send (x : DmaTx) (i t : Nat) : DmaTx :=
  let off := x.pos / 16 * 16
  let hi := min x.stop (off / 64 * 64 + 64)
  { x with out := x.out ++ [{ id := i, off := off, lo := x.pos, hi := hi, t := t }], pos := hi }

/-- Requests go out, function 0 first, while an ID is free. -/
def dmaFillN : Nat → Gov → Gov
  | 0, g => g
  | n + 1, g =>
    match g.dmaFreeId, [0, 1, 2, 3].findSome? (fun f => ((mfind g.dma f).bind DmaTx.ready).map (fun x => (f, x))) with
    | some i, some (f, x) => dmaFillN n { g with dma := mput g.dma f (x.send i g.gtime) }
    | _, _ => g

/-- As many requests as R62 allows are outstanding. -/
def Gov.dmaFill (g : Gov) : Gov := dmaFillN 32 g

/-! ## Functions -/

/-- Function `f` begins a structure at `addr`: the bytes of each range of `parts`, a range marked true after the responses
of all before it. -/
def Gov.dmaOpen (g : Gov) (f addr : Nat) (wr : Bool) (words : List Nat) (parts : List (Nat × Nat × Bool)) : Gov :=
  let x : DmaTx :=
    { addr := addr, words := words, wr := wr, parts := parts.filter (fun p => decide (p.1 < p.2.1)) }
  { g with dma := mput g.dma f x }.dmaFill

/-- Every response of function `f` has come, or the function has stopped. -/
def Gov.dmaShut (g : Gov) (f : Nat) : Gov := { g with dma := mdel g.dma f }.dmaFill

/-- The oldest transaction of function `f` has its response, without error, and the function goes on. -/
def dmaRespond (f : Nat) (g : Gov) : Gov :=
  match mfind g.dma f with
  | some x => { g with dma := mput g.dma f { x with out := x.out.drop 1 } }.dmaFill
  | none => g

/-- The same for `n` transactions in turn. -/
def dmaResponds (f : Nat) : Nat → Gov → Gov
  | 0, g => g
  | n + 1, g => dmaResponds f n (dmaRespond f g)

/-- The transaction of function `f` with ID `id`, if it is outstanding. -/
def Gov.dmaReq (g : Gov) (f id : Nat) : Option DmaReq :=
  (mfind g.dma f).bind (fun x => x.out.find? (fun q => q.id == id))

/-- The error bit of function `f` (Table 13.19). -/
def dmaErrFld (f : Nat) : Fld :=
  if f = 0 then F.DMA_STAT_TRACE_ERR else if f = 1 then F.DMA_STAT_DUMP_ERR else if f = 2 then F.DMA_STAT_MIR_ERR
  else F.DMA_STAT_PL_ERR

/-- Function `f` is stopped by an error response (R63). -/
def Gov.dmaStopped (g : Gov) (f : Nat) : Bool := g.flag (dmaErrFld f)

/-! ## The parts of each structure (R62) -/

/-- A trace entry: bytes 8 to 31, then word 0 (R466). (DEDUCED, log 101) -/
def traceParts : List (Nat × Nat × Bool) := [(8, 32, false), (0, 8, true)]

/-- A dump whose sections end at byte `n`: all but DONE, then DONE (R468). -/
def dumpParts (n : Nat) : List (Nat × Nat × Bool) := [(0, 188, false), (192, n, false), (188, 192, true)]

/-- The status mirror in its three parts (R358). -/
def mirrorParts : List (Nat × Nat × Bool) := [(0, 8, false), (8, 248, true), (248, 256, true)]

/-- A step reply of `n` bytes: all but DONE, then DONE (R311). -/
def replyParts (n : Nat) : List (Nat × Nat × Bool) := [(0, 60, false), (64, n, false), (60, 64, true)]

/-- A step descriptor: the header, then the records, up to the most that the header can name (R293). -/
def fetchParts : List (Nat × Nat × Bool) := [(0, 64, false), (64, 41024, true)]

end Sys2Proof.Machine
end

