-- ==== Sys2Proof/Machine/MbxBase.lean ====
section
/-! DEFINITION. Mailbox operations that the engines share: posting replies (R344 to R350), commands that wait for an
engine (R373), GOV_LOCK and the freeing of it (R361), the check word (R362). -/

namespace Sys2Proof.Machine

/-! ## Access -/

/-- Mailbox `n`. -/
def Gov.mbx (g : Gov) (n : Nat) : Mbx := mget {} g.mb.boxes n
/-- Mailbox `n` replaced. -/
def Gov.setMbx (g : Gov) (n : Nat) (x : Mbx) : Gov := { g with mb := { g.mb with boxes := mput g.mb.boxes n x } }
/-- The command in progress number `i`. -/
def Gov.cmd (g : Gov) (i : Nat) : Cmd := mget {} g.mb.cmds i
/-- Command `i` replaced. -/
def Gov.setCmd (g : Gov) (i : Nat) (x : Cmd) : Gov := { g with mb := { g.mb with cmds := mput g.mb.cmds i x } }
/-- Command `i` is in progress no longer. -/
def Gov.endCmd (g : Gov) (i : Nat) : Gov := { g with mb := { g.mb with cmds := mdel g.mb.cmds i } }

/-- Words of a command queue that are used. -/
def Mbx.used (m : Mbx) : Nat := (m.q.map (fun p => 1 + p.params.length)).foldl (· + ·) 0

/-- A register's word as held in its fields. -/
def Gov.rawWord (b : Build) (g : Gov) (off : Nat) : Nat := wordOf (b.fieldsAt off) g.rd

/-! ## Replies -/

/-- A reply header (Table 13.2). -/
def replyHeader (op cls rlen tag code mgen : Nat) (trunc : Bool) : Nat :=
  op + cls * 2 ^ 12 + rlen * 2 ^ 14 + tag * 2 ^ 19 + code * 2 ^ 27 + b2n trunc * 2 ^ 35 + mgen * 2 ^ 36 + 2 ^ 63

/-- MBX_ACK takes the outcome (R347). -/
def Gov.ack (g : Gov) (n op cls tag code : Nat) : Gov :=
  ((((g.wr (F.MBX_ACK_OPCODE n) op).wr (F.MBX_ACK_CLASS n) cls).wr (F.MBX_ACK_TAG n) tag).wr (F.MBX_ACK_CODE n) code).wr
    (F.MBX_ACK_ACNT n) (g.rd (F.MBX_ACK_ACNT n) + 1)

/-- Reply words enter a reply queue. -/
def Gov.putReply (g : Gov) (n : Nat) (ws : List Nat) : Gov :=
  let m := g.mbx n
  g.setMbx n { m with rq := m.rq ++ ws, popT := if m.rq = [] then g.gtime else m.popT }

/-- A reply posted with as many words as fit (R350): the header and then data words, or nothing. -/
def Gov.postFit (g : Gov) (n op cls tag code mgen : Nat) (data : List Nat) : Gov :=
  let room := 32 - (g.mbx n).rq.length
  let g := g.ack n op cls tag code
  if room = 0 then g.wr (F.MBX_STAT_RLOST n) 1
  else
    let d := data.take (room - 1)
    let lost := decide (d.length < data.length)
    let g := g.putReply n (replyHeader op cls d.length tag code mgen lost :: d)
    if lost then g.wr (F.MBX_STAT_RLOST n) 1 else g

/-- The histogram and trace of a reply posted (Table 16.7, Table 16.9). -/
def Gov.replyTrace (g : Gov) (c : Cmd) (code : Nat) : Gov :=
  let g := g.histo (56 + c.cls) ((g.gtime - c.tWhole : Nat) : Int)
  if bit (g.rd (F.TRC_SEL_SEL 6)) c.cls then
    g.trace 6 10 (c.op + c.cls * 2 ^ 12 + c.mbx * 2 ^ 14 + code * 2 ^ 18 + c.waited * 2 ^ 26) (c.tag + c.port * 2 ^ 8)
      (g.gtime - c.tTake) (c.tTake - c.tWhole)
  else g

/-- The reply of command `i` is posted, or dropped where its mailbox has been reset since it was taken (R344, R347,
R350, R355). `fit` posts a reply that reserved no room with the words that fit. -/
def Gov.reply (g : Gov) (i code : Nat) (data : List Nat) : Gov :=
  match mfind g.mb.cmds i with
  | none => g
  | some c =>
    let g := g.endCmd i
    if g.rd (F.MBX_STAT_MGEN c.mbx) ≠ c.mgen then
      (g.wr (F.MBX_STAT_DROP c.mbx) 1).count (F.MBX_STAT_NDROP c.mbx) 1
    else
      let g := g.replyTrace c code
      if c.cls = 0 ∨ c.rsv = 0 then g.postFit c.mbx c.op c.cls c.tag code c.mgen data
      else
        (g.ack c.mbx c.op c.cls c.tag code).putReply c.mbx
          (replyHeader c.op c.cls data.length c.tag code c.mgen false :: data)

/-- Command `i` waits for an engine (R373). -/
def Gov.waitFor (g : Gov) (i kind obj : Nat) : Gov := g.setCmd i { g.cmd i with wait := kind, obj := obj, waited := 3 }

/-- The commands that wait for `kind` on object `obj`. -/
def Gov.waiters (g : Gov) (kind obj : Nat) : List Nat :=
  mkeys (fun _ c => c.wait == kind && c.obj == obj) g.mb.cmds

/-- Every command that waits for `kind` on `obj` is answered. -/
def Gov.answer (g : Gov) (kind obj code : Nat) (data : List Nat) : Gov :=
  g.each (g.waiters kind obj) (fun g i => g.reply i code data)

/-- RAIL_CSET commands of rail `n` whose switch has been made, or dropped, are answered with RAIL_STAT (R391). -/
def Gov.answerCset (b : Build) (n : Nat) (g : Gov) : Gov :=
  if (g.rail n).csetReq.isSome then g
  else
    let m := g.mode n
    g.answer 3 n (if m = mOFF ∨ m = mFAULT ∨ m = mDOWN then 0x14 else 0x00) [g.rawWord b (0x4500 + 8 * n)]

/-- The CAL_PROBE that waits with number `i` is answered with RAIL_PROBE (R417). -/
def Gov.probeReply (b : Build) (g : Gov) (i n code : Nat) : Gov := g.reply i code [g.rawWord b (0x4D00 + 8 * n)]

/-! ## The check word (R362) -/

/-- A direct write of a retained field leaves the check word not covering the live image. -/
def Gov.dirty (g : Gov) : Gov :=
  let g := g.wr F.CFG_STAT_DIRTY 1
  { g with cfg := { g.cfg with rewrite := g.cfg.rewrite.map (fun r => { r with spoiled := true }) } }

/-- The check word is rewritten over the live image where DIRTY is 0, after the writes of START and after Probe. -/
def Gov.rewriteCheck (g : Gov) : Gov :=
  if g.flag F.CFG_STAT_DIRTY then g
  else { g with cfg := { g.cfg with rewrite := some { start := g.gtime } } }

/-- The check word covers the live image: a warm reset retains the configuration (R103). (DEDUCED, log 61) -/
def Gov.covered (g : Gov) : Bool :=
  !g.flag F.CFG_STAT_DIRTY && g.cfg.rewrite.isNone && g.rd F.CFG_STAT_STATE != 3

/-- The check word is computed over the images as they stand (R103). -/
def Gov.coverImages (g : Gov) : Gov :=
  { g with cfg := { g.cfg with chk := some (regsRetained g.regs, g.cfg.shadow), chkInv := false } }

/-- A check-word rewrite ends, 65,536 cycles after it began (R362, R364). -/
def checkWordRewritten (g : Gov) : Gov :=
  match g.cfg.rewrite with
  | some r =>
    if g.live then
      let g := g.runTo (r.start + 65536)
      let g := ({ g with cfg := { g.cfg with rewrite := none } }).coverImages
      if r.clears && !r.spoiled then g.wr F.CFG_STAT_DIRTY 0 else g
    else g
  | none => g

/-! ## Stages and the lock (R361, R364) -/

/-- An open stage is aborted: the shadow is overwritten from the live image (R364). -/
def Gov.abortStage (g : Gov) : Gov :=
  let g := (g.wr F.CFG_STAT_STATE 0).wr F.CFG_STAT_OWNER 7
  let g := { g with cfg := { g.cfg with shadow := regsRetained g.regs, changed := false } }
  if g.cfg.dirtyAtOpen then g
  else { g with cfg := { g.cfg with rewrite := some { start := g.gtime, clears := true } } }

/-- GOV_LOCK is freed; an open stage is aborted with an event, a copy in progress is to be abandoned (R361, R364). -/
def Gov.freeLock (g : Gov) : Gov :=
  let own := g.rd F.GOV_LOCK_OWNER
  let g := g.wr F.GOV_LOCK_OWNER 7
  if g.rd F.CFG_STAT_STATE = 1 then (g.abortStage).ev 0x7007 own 0 0 0
  else if g.cfg.copyAt.isSome then { g with cfg := { g.cfg with abandon := true } }
  else g

/-- An access of `port`, for the lock timeout. -/
def Gov.touch (g : Gov) (port : Nat) : Gov := { g with cfg := { g.cfg with access := mput g.cfg.access port g.gtime } }

/-! ## Mailbox reset (R355) -/

/-- Mailbox `n` is reset. -/
def Gov.resetMbx (port n : Nat) (g : Gov) : Gov :=
  let m := g.mbx n
  let words := m.used + m.rq.length
  let busy := (mkeys (fun _ c => c.mbx == n) g.mb.cmds).length
  let g := g.setMbx n {}
  let g := [F.MBX_STAT_CQ_OVF n, F.MBX_STAT_UNDER n, F.MBX_STAT_TRUNC n, F.MBX_STAT_PORTERR n, F.MBX_STAT_RLOST n,
    F.MBX_STAT_STALE n].foldl (fun g f => g.wr f 0) g
  (g.wr (F.MBX_STAT_MGEN n) (g.rd (F.MBX_STAT_MGEN n) + 1)).evp port 0x7004 n words busy 0

end Sys2Proof.Machine
end

