-- ==== Sys2Proof/Machine/Dump.lean ====
section
/-! DEFINITION. Dumps as they begin: the sections that fit, the automatic dump and its trigger (R468 to R471). -/

namespace Sys2Proof.Machine

/-- The lengths of the leading sections that fit in `room` bytes (R469). -/
def fitSections : Nat → List Nat → List Nat
  | _, [] => []
  | room, n :: r => if n ≤ room then n :: fitSections (room - n) r else []

/-- Section lengths of a STATE dump (Table 16.11). -/
def Gov.stateSections (g : Gov) : List Nat := [131072, 32 * g.rd F.REC_HEAD_SLOTS, 524288, 262144, 262144]

/-- The bytes of a dump: its header and the sections that it holds (R469). -/
def Dump.size (d : Dump) : Nat := 192 + d.sects.foldl (· + ·) 0

/-- The writes of a dump begin. The words of its sections are read as they are written and are not held. (DEDUCED, log 101) -/
def Gov.dumpOpen (g : Gov) (d : Dump) : Gov := g.dmaOpen 1 d.addr true [] (dumpParts d.size)

/-- A dump begins: its header is fixed, with the sections that fit behind its 192 bytes. -/
def Gov.beginDump (g : Gov) (d : Dump) (secs : List Nat) : Gov :=
  let fit := fitSections (d.len - 192) secs
  let d := { d with
    tStart := g.gtime, nextSeq := g.rd F.REC_HEAD_NEXT, sects := fit,
    status := if d.status ≠ 0 then d.status else if fit.length < secs.length then 1 else 0 }
  ({ g with recr := { g.recr with dump := some d, staged := true } }.wr F.DUMP_STAT_BUSY 1).dumpOpen d

/-- A STATE dump begins. -/
def Gov.beginState (g : Gov) (addr len trig : Nat) : Gov :=
  g.beginDump { kind := 0, addr := addr, len := len, trig := trig, step := g.rd F.PL_LAST_STEP } g.stateSections

/-- A trigger of an automatic dump (R470). ARM clears, and a trigger during a dump waits for its end. -/
def Gov.autoDump (g : Gov) (trig : Nat) : Gov :=
  if g.flag F.DUMP_CTL_ARM then
    if g.recr.dump.isSome then
      { g with recr := { g.recr with dumpTrig := some (g.recr.dumpTrig.getD trig) } }
    else (g.wr F.DUMP_CTL_ARM 0).beginState (g.rd F.DUMP_ADDR_ADDR) (g.rd F.DUMP_LEN_LEN) trig
  else g

end Sys2Proof.Machine
end

