-- ==== Sys2Proof/Machine/RcvBase.lean ====
section
/-! DEFINITION. Deathwatch and the recovery ladder as the engines use them (spec/15): detections, blocked steps, the
steps with their actions and completion, and the dies that a rail fault leaves dark. -/

namespace Sys2Proof.Machine

/-! ## Detections (R420, R430) -/

/-- A detection of Table 15.1: DW_HANG, DW_STAT.CAUSE and the count of detections. -/
def Gov.dwHang (g : Gov) (cause obj p1 p2 p3 : Nat) : Gov :=
  let g := (g.wr F.DW_STAT_CAUSE cause).wr F.DW_STAT_DETECT (g.rd F.DW_STAT_DETECT + 1)
  g.ev 0x6001 (cause + obj % 4096 * 2 ^ 4) p1 p2 p3

/-- A detection that is recorded only (causes 9 to 11). -/
def Gov.dwRecord (g : Gov) (cause obj p1 p2 p3 : Nat) : Gov :=
  (g.dwHang cause obj p1 p2 p3).count (F.RCV_CNT_COUNT 6) 1

/-- P0 of the recovery events. -/
def rcvP0 (step cause obj : Nat) : Nat := step + cause * 2 ^ 4 + obj % 4096 * 2 ^ 8

/-- The partition of a context. -/
def Gov.ctxPart (g : Gov) (c : Nat) : Nat := (g.ctx c).part

/-- A step on `obj` lies under a step in progress: on the same object, or on a partition or chip that contains it
(R432, R408). `part` is the partition the object lies in. -/
def Gov.underStep (g : Gov) (step obj : Nat) (part : Option Nat) : Bool :=
  g.rcv.steps.any (fun s =>
    (s.step == 3 && decide (step < 4)) || (s.step == step && s.obj == obj)
      || (s.step == 2 && step == 0 && part == some s.obj))

/-! ## Holds (R425, R426) -/

/-- The ENMASK bit of every tile to which a recovery hold applies is cleared. -/
def Gov.clearHeld (b : Build) (g : Gov) : Gov :=
  g.each (List.range b.dies) (fun g d => g.each (List.range b.tiles) (fun g i =>
    if g.tileHeld (64 * d + i) then g.tileStop (64 * d + i) else g))

/-- A recovery hold keeps requester `r` disabled. (DEDUCED, log 43) -/
def Gov.heldReq (g : Gov) (r : Nat) : Bool := g.rcv.holdReqs.any (fun e => e.2.contains r)

/-- A hold ends: ENMASK restored, requesters that the step disabled enabled, an event recorded; `q` is 16 for the
chip. -/
def Gov.releaseHold (b : Build) (g : Gov) (q : Nat) : Gov :=
  let g := if q = 16 then (g.wr F.RCV_HOLD_CHIP 0).wr F.RCV_HOLD_REL_PEND_CHIP 0
    else (g.clrBit F.RCV_HOLD_PART q).clrBit F.RCV_HOLD_REL_PEND q
  let rs := mget [] g.rcv.holdReqs q
  let g := { g with rcv := { g.rcv with holdReqs := mdel g.rcv.holdReqs q } }
  let g := g.each rs (fun g r => if g.heldReq r then g else g.setReqOff r false)
  let g := g.each (List.range b.dies) (fun g d =>
    if (List.range b.tiles).any (fun i => q = 16 ∨ g.tilePart (64 * d + i) = q) then (g.enmaskRestore b d).holdEnds d
    else g)
  g.ev 0x6005 q 0 0 0

/-! ## Completion (Table 15.2) -/

/-- The context step of a revoked generation has nothing left to wait for: its drain at admission and its teardown at
placement have ended. -/
def Gov.ctxGone (g : Gov) (c cgen : Nat) : Bool :=
  !((g.ctx c).st == 2 && (g.ctx c).cgen == cgen && (g.ctx c).ended == false) && !g.inTeardown c cgen

/-- A step in progress is complete. -/
def Gov.stepDone (g : Gov) (s : RStep) : Bool :=
  s.step != 4 && s.ctxs.all (fun e => g.ctxGone e.1 e.2) && (s.step != 3 || g.ordsOut == 0)

/-- A step completes: RCV_DONE, and the release of its hold where one was written before. -/
def Gov.finishStep (b : Build) (g : Gov) (s : RStep) : Gov :=
  let g := { g with rcv := { g.rcv with steps := g.rcv.steps.erase s } }
  let g := g.wrB F.DW_STAT_ACTIVE (!g.rcv.steps.isEmpty)
  let g := g.ev 0x6003 (rcvP0 s.step s.cause s.obj) 0 (s.start % 2 ^ 32) (s.start / 2 ^ 32)
  if s.step = 2 ∧ bit (g.rd F.RCV_HOLD_REL_PEND) s.obj then g.releaseHold b s.obj
  else if s.step = 3 then
    let g := g.each (s.parts.filter (fun q => bit (g.rd F.RCV_HOLD_REL_PEND) q)) (fun g q => g.releaseHold b q)
    if g.flag F.RCV_HOLD_REL_PEND_CHIP then g.releaseHold b 16 else g
  else g

/-- Every step in progress is looked at. -/
def Gov.settleSteps (b : Build) (g : Gov) : Gov :=
  g.rcv.steps.foldl (fun g s => if g.stepDone s then g.finishStep b s else g) g

/-! ## Starting a step (R424) -/

/-- The step's start: RCV_START, its registers and its count; one that Deathwatch starts may trigger a dump (R470). -/
def Gov.beginStep (g : Gov) (step obj cause : Nat) : Gov :=
  let g := ((g.wr F.DW_STAT_STEP step).wr F.DW_STAT_OBJECT obj).wr F.DW_LAST_GTIME g.gtime
  let g := { g with rcv := { g.rcv with lastStep := step, lastObj := obj, lastCause := cause } }
  let g := (g.ev 0x6002 (rcvP0 step cause obj) 0 (g.gtime % 2 ^ 32) (g.gtime / 2 ^ 32)).count (F.RCV_CNT_COUNT step) 1
  if cause ≠ 12 ∧ g.rd F.DUMP_CTL_AUTO_STEP ≤ step then
    g.autoDump (1 + step * 2 ^ 4 + cause * 2 ^ 8 + obj % 4096 * 2 ^ 12) else g

/-- Steps in progress that a wider step takes over leave the list. -/
def Gov.takeOver (g : Gov) (p : RStep → Bool) : Gov :=
  { g with rcv := { g.rcv with steps := g.rcv.steps.filter (fun s => !p s) } }

/-- A step joins those in progress. -/
def Gov.addStep (g : Gov) (s : RStep) : Gov :=
  ({ g with rcv := { g.rcv with steps := g.rcv.steps ++ [s] } }).wr F.DW_STAT_ACTIVE 1

/-- The context step: revocation and teardown of context `c`; one already in DRAIN is not revoked again (Table 15.7). -/
def stepContext (b : Build) (c cause : Nat) (g : Gov) : Gov :=
  let g := g.beginStep 0 c cause
  let cg := (g.ctx c).cgen
  let g := if (g.ctx c).st = 1 then (ctxRevoke c g).1 else g
  (g.addStep { step := 0, obj := c, cause := cause, start := g.gtime, ctxs := [(c, cg)] }).settleSteps b

/-- The engine step on requester `r`: REQ_RESET, complete at once; `part` is the partition of the entry that triggered
it. -/
def stepEngine (b : Build) (r cause part : Nat) (g : Gov) : Gov :=
  let g := g.beginStep 1 r cause
  let g := (reqReset r g).1
  let g := { g with rcv := { g.rcv with engT := (r, g.gtime, part) :: g.rcv.engT } }
  (g.ev 0x6003 (rcvP0 1 cause r) 0 (g.gtime % 2 ^ 32) (g.gtime / 2 ^ 32)).settleSteps b

/-- Live contexts, of partition `q` or of all (16). -/
def Gov.liveCtxs (g : Gov) (q : Nat) : List Nat := mkeys (fun _ x => x.st == 1 && (q == 16 || x.part == q)) g.dm.ctxs

/-- Mailboxes bound to partition `q`; to any for 16. -/
def Gov.boundMbx (g : Gov) (q : Nat) : List Nat :=
  (List.range 16).filter (fun n => let p := g.rd (F.MBX_CTL_PART n); if q = 16 then p != 15 else p == q && q != 15)

/-- Contexts of a step: the live ones it revokes, and those of the steps it takes over. -/
def Gov.stepCtxs (g : Gov) (live : List Nat) (p : RStep → Bool) : List (Nat × Nat) :=
  live.map (fun c => (c, (g.ctx c).cgen)) ++ (g.rcv.steps.filter p).flatMap (·.ctxs)

/-- The partition step on `q` (Table 15.2). -/
def stepPartition (b : Build) (q cause : Nat) (g : Gov) : Gov :=
  let g := g.beginStep 2 q cause
  let g := (g.setBit F.RCV_HOLD_PART q).clearHeld b
  let g := g.wr (F.RCV_PGEN_PGEN q) (g.rd (F.RCV_PGEN_PGEN q) + 1)
  let live := g.liveCtxs q
  let inQ : RStep → Bool := fun s => (s.step == 0 && g.ctxPart s.obj == q) || (s.step == 2 && s.obj == q)
  let cs := g.stepCtxs live inQ
  let g := g.takeOver inQ
  let g := g.each live (fun g c => (ctxRevoke c g).1)
  let rs := ((g.grantsBy (fun x => x.st != 0 && x.part == q)).map (fun h => (g.grant h).req)).eraseDups
  let fresh := rs.filter (fun r => !g.reqOff r || g.heldReq r)
  let g := g.each rs (fun g r => (reqReset r g).1)
  let g := { g with rcv := { g.rcv with holdReqs := mput g.rcv.holdReqs q (mget [] g.rcv.holdReqs q ++ fresh) } }
  let g := g.each (g.boundMbx q) (fun g n => g.resetMbx 15 n)
  (g.addStep { step := 2, obj := q, cause := cause, start := g.gtime, ctxs := cs }).settleSteps b

/-- The chip step (Table 15.2); a power-cycle step goes on beside it. (DEDUCED, log 52) -/
def stepChip (b : Build) (cause : Nat) (g : Gov) : Gov :=
  let g := g.beginStep 3 0 cause
  let g := (g.wr F.RCV_HOLD_CHIP 1).clearHeld b
  let g := g.each (List.range b.partitions) (fun g q => g.wr (F.RCV_PGEN_PGEN q) (g.rd (F.RCV_PGEN_PGEN q) + 1))
  let live := g.liveCtxs 16
  let narrower : RStep → Bool := fun s => s.step != 4
  let cs := g.stepCtxs live narrower
  let parts := (g.rcv.steps.filter (fun s => s.step == 2)).map (·.obj)
  let g := g.takeOver narrower
  let g := g.each live (fun g c => (ctxRevoke c g).1)
  let rs := List.range b.requesters
  let fresh := rs.filter (fun r => !g.reqOff r || g.heldReq r)
  let g := g.each rs (fun g r => (reqReset r g).1)
  let g := { g with rcv := { g.rcv with holdReqs := mput g.rcv.holdReqs 16 (mget [] g.rcv.holdReqs 16 ++ fresh) } }
  let g := g.each (g.boundMbx 16) (fun g n => g.resetMbx 15 n)
  let g := g.addStep { step := 3, cause := cause, start := g.gtime, ctxs := cs, parts := parts }
  g.settleSteps b

/-- The power-cycle step: TRAY_PWRCYC_N is asserted and stays so (Table 15.2). -/
def stepPwrcyc (cause : Nat) (g : Gov) : Gov :=
  let g := g.beginStep 4 0 cause
  (({ g with rcv := { g.rcv with pwrcyc := true } }).svc 14).addStep { step := 4, cause := cause, start := g.gtime }

/-- A step of the ladder starts. `part` is the partition concerned: of the object, or for an engine step of the entry
that triggered it. -/
def startStep (b : Build) (step obj cause part : Nat) (g : Gov) : Gov :=
  if step = 0 then stepContext b obj cause g else if step = 1 then stepEngine b obj cause part g
  else if step = 2 then stepPartition b obj cause g else if step = 3 then stepChip b cause g
  else if g.rcv.pwrcyc then g else stepPwrcyc cause g

/-- A step that Deathwatch would take: covered by one in progress, not tried again once blocked until BLOCKED is cleared,
blocked by AUTO or MAXSTEP, or started (R430, R432). -/
def ladder (b : Build) (step obj cause part : Nat) (g : Gov) : Gov :=
  if g.underStep step obj (some part) ∨ g.rcv.blocked.contains (cause, step * 4096 + obj) then g
  else
    let mx := min 4 (g.rd F.DW_CTL_MAXSTEP)
    if cause ≠ 8 ∧ (g.flag F.DW_CTL_AUTO = false ∨ mx < step) then
      let g := { g with rcv := { g.rcv with blocked := (cause, step * 4096 + obj) :: g.rcv.blocked } }
      (((g.ev 0x6004 (rcvP0 step cause obj) 0 0 0).svc 12).wr F.DW_STAT_BLOCKED 1).count (F.RCV_CNT_COUNT 5) 1
    else startStep b step obj cause part g

/-- Engine steps of requester `r` within ENG_WIN reach ENG_MAX: ENG_REPEAT names the partition of the entry that
triggered the last one (cause 3); 16 stands for no entry, and then nothing escalates. -/
def engRepeat (b : Build) (r : Nat) (g : Gov) : Gov :=
  let mx := g.rd F.DW_CTL_ENG_MAX
  let win := g.rd F.DW_CTL_ENG_WIN * 1000000
  let l := g.rcv.engT.filter (fun e => e.1 == r && decide (g.gtime ≤ e.2.1 + win))
  match l with
  | [] => g
  | e :: _ =>
    if mx ≠ 0 ∧ mx ≤ l.length ∧ e.2.2 < 16 then
      let q := e.2.2
      let g := { g with rcv := { g.rcv with engT := g.rcv.engT.filter (fun e => e.1 != r) } }
      ladder b 2 q 3 q (g.dwHang 3 q 0 r 0)
    else g

/-- An engine step started by Deathwatch or by an opcode, with what follows from its repetition (R431). -/
def engineStep (b : Build) (r cause part : Nat) (g : Gov) : Gov :=
  let n := g.rcv.engT.length
  let g := ladder b 1 r cause part g
  if n < g.rcv.engT.length then engRepeat b r g else g

/-- Rails in FAULT have left dies dark: the engine step on every requester of those dies' hubs that holds an entry, at
once (R433). -/
def dieDark (b : Build) (ds : List Nat) (g : Gov) : Gov :=
  g.each ds (fun g d =>
    let hs := g.grantsBy (fun x => x.st != 0 && b.hubOf x.req == d)
    if hs = [] then g
    else
      let rs := (hs.map (fun h => ((g.grant h).req, (g.grant h).part)))
      let rs := rs.foldl (fun l e => if l.any (fun x => x.1 == e.1) then l else l ++ [e]) []
      g.each (rs.map (·.1)) (fun g r =>
        let q := match rs.find? (fun x => x.1 == r) with
          | some e => e.2
          | none => 0
        engineStep b r 8 q (g.dwHang 8 r 0 r 0)))

end Sys2Proof.Machine
end

