-- ==== Sys2Proof/Machine/HrBase.lean ====
section
/-! DEFINITION. Budgets that reach admission and the Hedgerow state that other engines touch (spec/10, R268, R269). -/

namespace Sys2Proof.Machine

/-- Link `k`. -/
def Gov.hlink (g : Gov) (k : Nat) : HLink := mget {} g.hr.links k
/-- Link `k` replaced. -/
def Gov.setHlink (g : Gov) (k : Nat) (x : HLink) : Gov := { g with hr := { g.hr with links := mput g.hr.links k x } }
/-- The device is the root (R271). -/
def Gov.hrRootDev (g : Gov) : Bool := g.flag F.HR_STAT_ROOT

/-- The module cap in force (Table 10.1, Table 10.22). -/
def Gov.modCap (g : Gov) : Nat :=
  match g.hr.inForce with
  | some a => if g.hrRootDev && g.rd F.HR_EPOCH_HALL_CAP == 0 then g.rd F.BUD_MODCAP_LOCAL
              else min a (g.rd F.BUD_MODCAP_MAX)
  | none => g.rd F.BUD_MODCAP_LOCAL

/-- The budgets are passed to admission (R268). -/
def Gov.budApply (b : Build) (g : Gov) : Gov :=
  let c := g.modCap
  let g := (g.wr F.DMD_MOD_CAP c).wr F.DMD_MOD_RSV (g.rd F.BUD_MODCAP_RSV)
  g.each (List.range b.partitions) (fun g q => g.wr (F.DMD_PART_BUD q) (c * min (g.rd (F.BUD_PART_SHARE q)) 256 / 256))

/-- Link `k` may exchange frames: it is up, the Links stage has been reached, and it is not link 0 of the root (R122,
R271). -/
def Gov.hrTalks (g : Gov) (k : Nat) : Bool := g.hr.isOpen && (g.hlink k).up && !(g.hrRootDev && k == 0)

/-- Link `k` begins HELLO. A link whose charge is held keeps HELD until the hold ends (R285). -/
def hrHello (k : Nat) (g : Gov) : Gov :=
  if g.hrTalks k then
    let x := g.hlink k
    let g := g.setHlink k { up := true, hold := x.hold, lastRx := g.gtime, seq := x.seq }
    if g.rd (F.HR_LSTAT_STATE k) = 4 then g else g.wr (F.HR_LSTAT_STATE k) 1
  else g

/-- The endpoint brings up its links in the Links stage (R122, R271). -/
def hrBringUp (g : Gov) : Gov :=
  if g.hr.isOpen then g
  else
    let g := { g with hr := { g.hr with isOpen := true } }
    let g := if g.clk.hrRoot then ((g.wr F.HR_STAT_ROOT 1).wr F.HR_STAT_JOINED 1).wr F.HR_STAT_DEPTH 0 else g
    let g := if g.clk.hrRoot then { g with hr := { g.hr with quota := 32768 } } else g
    g.each (List.range 9) (fun g k => hrHello k g)

end Sys2Proof.Machine
end

