-- ==== Sys2Proof/Machine/Rails.lean ====
section
/-! DEFINITION. Operations over rails and phases that several families share: phases in use, limits, modes, faults,
hiccup, ramps, set-points and coefficient sets (spec/06, spec/07). -/

namespace Sys2Proof.Machine

/-! ## Samples and conversions (R42, R44, R510) -/

/-- The code a converter returns for an input: the nearest, the higher at a tie, limited to its range (R510). -/
def convert (lsb : Int) (top : Nat) (v : Int) : Nat :=
  (clampI 0 top ((2 * v + lsb) / (2 * lsb))).toNat

/-- Voltage code of a differential input in nV: 12 bits of 0.5 mV (R42). -/
def voltCode (nV : Int) : Nat := convert 500000 4095 nV

/-- IMON code of a pin voltage in nV: 10 bits of 1.171875 mV (R39). -/
def imonCode (nV : Int) : Nat := convert 1171875 1023 nV

/-- VIN code of the voltage at the VIN_SNS pin in nV: 12 bits of 0.5 mV, 8 mV at the bus (R44). -/
def vinCode (nV : Int) : Nat := convert 500000 4095 nV

/-- Current of an IMON conversion with its trims (R496). -/
def imonCurrent (c gain ofs : Nat) : Int :=
  let iraw : Int := (((c * 75 + 8) / 16 : Nat) : Int) - 2400
  (iraw * (65536 + sx 16 gain) + 32768) / 65536 + sx 12 ofs

/-! ## Limits in force -/

/-- The fields of RAIL_LIM, RAIL_SHED, RAIL_BURST, RAIL_PROT and RAIL_IMB, which take effect at a boundary (R209). -/
def limFields (n : Nat) : List Fld :=
  [F.RAIL_LIM_ILIM_PH n, F.RAIL_LIM_BAL_M n, F.RAIL_LIM_GRACE n, F.RAIL_LIM_N_MIN n,
   F.RAIL_SHED_IPH_SHED n, F.RAIL_SHED_IPH_ADD n, F.RAIL_SHED_SHED_DWELL n, F.RAIL_SHED_SHED_EN n,
   F.RAIL_BURST_BURST_IN n, F.RAIL_BURST_BURST_OUT n, F.RAIL_BURST_BLO n, F.RAIL_BURST_BHI n,
   F.RAIL_BURST_BEXIT n, F.RAIL_BURST_BCNT n, F.RAIL_BURST_BEN n,
   F.RAIL_PROT_HICCUP_N n, F.RAIL_PROT_HICCUP_OFF n, F.RAIL_PROT_HICCUP_MAXR n, F.RAIL_PROT_OV_OFS n,
   F.RAIL_PROT_UV_OFS n, F.RAIL_PROT_DIEMASK n,
   F.RAIL_IMB_IMB_PCT n, F.RAIL_IMB_IMB_DWELL n, F.RAIL_IMB_IMB_MIN n, F.RAIL_IMB_OPEN_FRAC n,
   F.RAIL_IMB_OPEN_MIN n]

/-- The values of these fields as they stand are taken into force. -/
def Gov.takeLimits (g : Gov) (n : Nat) : Gov :=
  g.setRail n { g.rail n with lim := (limFields n).map (fun f => (f.key, g.rd f)) }

/-! ## Phases of a rail -/

/-- The phases of the block in force (R151, R152). -/
def Rail.block (r : Rail) : List Nat := (List.range r.count).map (· + r.first)

/-- The usable phases of the rail, in ascending order (R180). -/
def Gov.usables (g : Gov) (n : Nat) : List Nat := ((g.rail n).block).filter (fun p => (g.ph p).usable)

/-- N_u (R180). (DEDUCED, log 28) -/
def Gov.nU (g : Gov) (n : Nat) : Nat := (g.usables n).length

/-- The rail whose block in force holds phase `p`. -/
def railOf (b : Build) (g : Gov) (p : Nat) : Option Nat :=
  lowest b.rails (fun n => decide ((g.rail n).first ≤ p ∧ p < (g.rail n).first + (g.rail n).count))

/-- ILIM_eff of the rail: ILIM_PH limited to the stage rating, the lowest rating where stages are mixed (R185). -/
def Gov.ilimEff (g : Gov) (n : Nat) : Nat := min (g.lf n (F.RAIL_LIM_ILIM_PH n)) (g.rail n).rating

/-- The rail runs in CLOSED, OPEN or BURST; a rail in RAMP whose sample is held for a set switch does not (R169, R186). -/
def Gov.running (g : Gov) (n : Nat) : Bool :=
  (g.mode n == mCLOSED || g.mode n == mOPEN || g.mode n == mBURST) && !(g.rail n).holdRamp

/-- The rail has started and is not off: a rail in FAULT is off (R205). -/
def Gov.railUp (g : Gov) (n : Nat) : Bool := (g.rail n).started && g.mode n != mFAULT

/-- ILIM_RAIL by the formula of R186; 0 in every mode but CLOSED, OPEN and BURST. -/
def Gov.ilimRail (g : Gov) (n : Nat) : Nat :=
  if g.running n then g.nU n * g.ilimEff n * (64 - g.lf n (F.RAIL_LIM_BAL_M n)) / 64 else 0

/-- ILIM_RAIL is recomputed; a fall while the rail runs begins grace (R186, R195). -/
def Gov.updIlim (g : Gov) (n : Nat) : Gov :=
  let old := g.rd (F.RAIL_PSTAT_ILIM_RAIL n)
  let new := satN 16 (g.ilimRail n)
  let g' := (g.wr (F.RAIL_PSTAT_ILIM_RAIL n) new).wr (F.RAIL_PSTAT_N_USABLE n) (g.nU n)
  if new < old ∧ g.running n then
    ((g'.wr (F.RAIL_PSTAT_GRACE n) 1).wr (F.RAIL_PSTAT_HC n) 0).setRail n
      { g.rail n with graceAt := some g.gtime }
  else g'

/-- An entry of trace buffer 3 where the mode or n_use of rail `n` has changed (Table 16.9). -/
def Gov.phTrace (g : Gov) (old : Gov) (n reason : Nat) : Gov :=
  let m0 := old.mode n
  let u0 := old.rd (F.RAIL_PSTAT_N_USE n)
  let m1 := g.mode n
  let u1 := g.rd (F.RAIL_PSTAT_N_USE n)
  if (m0 ≠ m1 ∨ u0 ≠ u1) ∧ bit (g.rd (F.TRC_SEL_SEL 3)) n then
    g.trace 3 5 (n + m0 * 2 ^ 4 + m1 * 2 ^ 8 + u0 * 2 ^ 12 + u1 * 2 ^ 20) reason
      (g.rd (F.RAIL_MEAS_ISUM n)) (g.rd (F.RAIL_PSTAT_NF n))
  else g

/-- Mode `m` of rail `n`; ILIM_RAIL is 0 outside CLOSED, OPEN and BURST (R186). -/
def Gov.setMode (g : Gov) (n m : Nat) : Gov :=
  let g := g.wr (F.RAIL_STAT_MODE n) m
  if g.running n then g else g.wr (F.RAIL_PSTAT_ILIM_RAIL n) 0

/-! ## The pulse of a phase (R154, R182) -/

/-- T_on of duty `d` in a period of PER units (R154 item 1). (DEDUCED, log 83) -/
def tOn (d per : Nat) : Nat := min ((d * per + 32768) / 65536) (per - 256)

/-- A pulse that is high falls at the first grid point up to `tu` at which its on-time has reached `ton` (R154 item 3). -/
def Phase.fall (x : Phase) (ton tu : Nat) : Phase :=
  if x.pwm = .high ∧ x.rise + ton ≤ tu then { x with pwm := .low } else x

/-- The phase followed up to instant `tu` under an on-time of `ton`: at its period start PWM rises where it is not high and
the on-time is at least 256 units, stays low for the whole period where the on-time is less, and skips a start inside a
pulse that is still high (R154, R182). -/
def Phase.run (x : Phase) (ton tu : Nat) : Phase :=
  match x.next with
  | some s =>
    if x.sw ∧ s ≤ tu then
      let x := { x.fall ton s with next := none }
      if x.pwm = .high then x.fall ton tu
      else if 256 ≤ ton then ({ x with pwm := .high, rise := s }).fall ton tu
      else { x with pwm := .low }
    else x.fall ton tu
  | none => x.fall ton tu

/-- The phase no longer switches: PWM is held at level `l`. -/
def Phase.still (x : Phase) (l : Pwm) : Phase := { x with pwm := l, sw := false, next := none, shedAt := none, retireAt := none }

/-- The instant at which a probe pulse of rail `n` goes over to its second half, and the duty from then on (R119 item 3). -/
def Gov.probeFlip (g : Gov) (n : Nat) : Option (Nat × Nat) :=
  match mfind g.probes n with
  | some p => if p.inPulse then some (16 * (p.tp + 2000), p.d2) else none
  | none => none

/-- The duty in force at instant `tu`. -/
def Gov.dutyAt (g : Gov) (n tu : Nat) : Nat :=
  match g.probeFlip n with
  | some (u, d) => if u ≤ tu then d else g.rd (F.RAIL_STAT_DUTY n)
  | none => g.rd (F.RAIL_STAT_DUTY n)

/-- A phase of rail `n` followed up to instant `tu` at the rail's duty. -/
def Gov.runPhase (g : Gov) (n : Nat) (x : Phase) (tu : Nat) : Phase :=
  let ton := tOn (g.rd (F.RAIL_STAT_DUTY n)) (g.rail n).per
  match g.probeFlip n with
  | some (u, d) => if u ≤ tu then (x.run ton u).run (tOn d (g.rail n).per) tu else x.run ton tu
  | none => x.run ton tu

/-- Phase `p` of rail `n` at instant `tu`: a shed phase goes to mid level at its period start and is IDLE from then on, a
retired one goes to mid level with its shutdown delays running (R190, R201), and any other follows the duty. -/
def Gov.phaseAt (g : Gov) (n p tu : Nat) : Phase :=
  let x := g.ph p
  match x.shedAt with
  | some t => if t ≤ tu then { x.still .mid with spoiled := true } else g.runPhase n x tu
  | none =>
    match x.retireAt with
    | some t => if t ≤ tu then { x.still .mid with shut := 2, shutAt := (t + 15) / 16 } else g.runPhase n x tu
    | none => g.runPhase n x tu

/-- The phases of rail `n` followed up to instant `tu`, in units of 62.5 ps. -/
def Gov.settle (g : Gov) (n tu : Nat) : Gov :=
  g.each (g.rail n).block (fun g p =>
    let idle := match (g.ph p).shedAt with
      | some t => decide (t ≤ tu)
      | none => false
    let g := g.setPh p (g.phaseAt n p tu)
    if idle then g.wr (F.PH_STAT_STATE p) 2 else g)

/-- The phases of rail `n` followed up to the present GTIME. -/
def Gov.settleNow (g : Gov) (n : Nat) : Gov := g.settle n (16 * g.gtime)

/-! ## Phases in use -/

/-- Start offset of the `i`-th of `u` phases in use, rounded half up (R153, R181). -/
def startOffset (i per u : Nat) : Nat := (2 * i * per + u) / (2 * u)

/-- The in-use phases become the `u` lowest usable ones: these ACTIVE, the others IDLE (R180). A phase added rises at the
first start that the new count gives it, or after the next boundary where that start has passed (R189); one whose shed is
under way stays ACTIVE (R208); the phases already in use keep their offsets (R181). A window that holds an IDLE part is
spoiled, and the dwell of a phase that becomes ACTIVE starts from 0 (R187). -/
def Gov.setNuse (g : Gov) (n u : Nat) : Gov :=
  let us := g.usables n
  let u := min u us.length
  let r := g.rail n
  let runs := r.switching && !(g.mode n == mBURST && r.bursting == 0)
  let g := g.wr (F.RAIL_PSTAT_N_USE n) u
  let g := (List.range u).foldl (fun g i =>
    let p := us.getD i 0
    let x := g.ph p
    let was := g.rd (F.PH_STAT_STATE p) == 1
    let on := runs && x.pen
    if was && x.shedAt.isNone && (x.sw || !on) then g
    else
      let offs := startOffset i r.perCur u
      (g.setPh p { x with
        shedAt := none, sw := on, offs := offs,
        next := if on && decide (16 * g.gtime ≤ r.bnd + offs) then some (r.bnd + offs) else none,
        imbOut := if was then x.imbOut else 0, imbIn := if was then x.imbIn else 0,
        spoiled := x.spoiled || !was }).wr (F.PH_STAT_STATE p) 1) g
  g.each (us.drop u) (fun g p =>
    let x := g.ph p
    if x.shedAt.isSome then g
    else (g.setPh p { (if x.pen then x.still .mid else x) with spoiled := true, openCnt := 0 }).wr (F.PH_STAT_STATE p) 2)

/-- The in-use phases take their starts in the period that begins at the present boundary (R153, R181). -/
def Gov.respace (g : Gov) (n : Nat) : Gov :=
  let r := g.rail n
  let u := g.rd (F.RAIL_PSTAT_N_USE n)
  let us := (g.usables n).take u
  (List.range us.length).foldl (fun g i =>
    let p := us.getD i 0
    let x := g.ph p
    let offs := startOffset i r.perCur u
    g.setPh p { x with offs := offs, next := if x.sw then some (r.bnd + offs) else none }) g

/-- Every phase of the block with PEN high goes to mid level, and its shutdown delays start (R196 items 1 and 2). -/
def Gov.shutPhases (g : Gov) (n : Nat) : Gov :=
  g.each (g.rail n).block (fun g p =>
    let x := g.ph p
    if x.pen ∧ x.shut = 0 then g.setPh p { x.still .mid with shut := 2, shutAt := g.gtime } else g)

/-- PEN of every phase of the block falls at once, with PWM at high impedance (R118). -/
def Gov.dropPhases (g : Gov) (n : Nat) : Gov :=
  g.each (g.rail n).block (fun g p =>
    let x := g.ph p
    let g := g.setPh p { x.still .hiZ with pen := false, shut := 0 }
    if g.rd (F.PH_STAT_STATE p) = 1 ∨ g.rd (F.PH_STAT_STATE p) = 2 then g.wr (F.PH_STAT_STATE p) 0 else g)

/-! ## Dies a rail feeds, and ENMASK (R196 item 4) -/

/-- The dies that rail `n` feeds: ST_THR[d].RAIL names it, or its DIEMASK has bit d. -/
def diesOfRail (b : Build) (g : Gov) (n : Nat) : List Nat :=
  (List.range b.dies).filter (fun d =>
    g.rd (F.ST_THR_RAIL d) == n || bit (g.lf n (F.RAIL_PROT_DIEMASK n)) d)

/-- The ENMASK bits of every tile of the dies that rail `n` feeds are cleared. -/
def Gov.darken (b : Build) (g : Gov) (n : Nat) : Gov :=
  g.each (diesOfRail b g n) (fun g d => g.enmaskClear d)

/-! ## Feed-forward ends, requests dropped -/

/-- Feed-forward is no longer active: no pass runs, so nothing is initialised (R173). -/
def Gov.ffOff (g : Gov) (n : Nat) : Gov :=
  (g.setRail n { g.rail n with uff := 0 }).wr (F.RAIL_STAT_FF_ACT n) 0

/-- Requests waiting for a boundary are dropped when the rail enters OFF, FAULT or DOWN (R169). -/
def Gov.dropRequests (g : Gov) (n : Nat) : Gov :=
  g.setRail n { g.rail n with csetReq := none, vchg := none, hold := false, holdRamp := false, close := none }

/-! ## References and ramps (R113, R114) -/

/-- Value of a ramp at GTIME `t`, rounded to the nearest code. -/
def Ramp.at (r : Ramp) (t : Nat) : Nat :=
  if r.t0 + r.dur ≤ t then r.v1
  else (clampI 0 4095 ((r.v0 : Int) + rndUp (((r.v1 : Int) - r.v0) * ((t : Int) - r.t0)) r.dur)).toNat

/-- Time for a move from `v0` to `v1` at the slope that takes `ramp` µs from 0 to `vset`, ns (R113). -/
def slopeTime (ramp v0 v1 vset : Nat) : Nat :=
  if vset = 0 then 0 else ramp * 1000 * ((v0 - v1) + (v1 - v0)) / vset

/-- Reference of a tracking rail from that of its source (R114): coincident or ratiometric. -/
def trackRef (mode vset vrefS vsetS : Nat) : Nat :=
  if mode = 1 then min vset vrefS
  else if vsetS = 0 then 0 else (2 * vset * vrefS + vsetS) / (2 * vsetS)

/-- Tracking rails follow a source in bring-up and power-down (RAIL_SEQ.MODE 1 or 2). -/
def Gov.tracking (g : Gov) (n : Nat) : Bool := g.rd (F.RAIL_SEQ_MODE n) == 1 || g.rd (F.RAIL_SEQ_MODE n) == 2

/-- The reference that rail `n` itself gives, as a source: its set-point, its ramp, or 0 while it is off or has not started
(R114). (DEDUCED, log 84) -/
def Gov.ownRef (g : Gov) (n : Nat) : Nat :=
  let r := g.rail n
  let m := g.mode n
  if r.started = false then 0
  else if m = mCLOSED ∨ m = mBURST ∨ m = mOPEN ∧ r.holdRamp = false then r.vset
  else if m = mRAMP ∨ m = mDOWN ∨ m = mOPEN then r.ramp.at g.gtime
  else 0

/-- The reference that the source of tracking rail `n` gives it (R114). -/
def Gov.trackedRef (g : Gov) (n : Nat) : Nat :=
  let s := g.rd (F.RAIL_SEQ_SRC n)
  trackRef (g.rd (F.RAIL_SEQ_MODE n)) (g.rail n).vset (g.ownRef s) (g.rail s).vset

/-- The rail whose ramp rail `n` follows: itself, or its source (R114, R116, R117). -/
def Gov.ramper (g : Gov) (n : Nat) : Nat :=
  if g.tracking n ∧ (g.rail n).retry = false then g.rd (F.RAIL_SEQ_SRC n) else n

/-- GTIME at which the ramp that rail `n` follows ends, once that ramp has begun. -/
def Gov.rampEnds (g : Gov) (n : Nat) : Option Nat :=
  let r := g.rail (g.ramper n)
  if r.started then some (r.ramp.t0 + r.ramp.dur) else none

/-! ## Set-points (R165, R166, R148) -/

/-- Dies whose Springtail thresholds follow rail `n`. -/
def thrDies (b : Build) (g : Gov) (n : Nat) : List Nat :=
  (List.range b.dies).filter (fun d => g.rd (F.ST_THR_RAIL d) == n)

/-- A change of set-point arrives: it replaces any earlier one not yet applied; a decrease of a rail that Springtail
follows waits 512 ns after the lowered thresholds, which follow `vthr`, are written (R166, R148). Where the thresholds of an
earlier increase have not yet followed it, a decrease puts them at its own value at once. (DEDUCED, log 85) -/
def setpointArrive (b : Build) (n opt v : Nat) (g : Gov) : Gov :=
  let r := g.rail n
  let ds := thrDies b g n
  if v < r.vset ∧ ds ≠ [] then
    g.setRail n { g.rail n with vchg := some { opt := opt, v := v, atT := g.gtime + 512 }, vthr := v }
  else g.setRail n { r with vchg := some { opt := opt, v := v, atT := g.gtime } }

/-- The rail takes changes of VREF: from the Ready stage, in CLOSED, OPEN and BURST, and in HICCUP for its retry (R166,
R208). -/
def Gov.takesVref (g : Gov) (n : Nat) : Bool := g.stage == sREADY && (g.running n || g.mode n == mHICCUP)

/-- The operating point that VSEL names, or its stored value, differs from what is in force: from the Ready stage the
rail takes it as a change of VREF, unless it is in RAMP (R166). -/
def setpointRefresh (b : Build) (n : Nat) (g : Gov) : Gov :=
  let v := g.rd (F.RAIL_OPT_VSET n g.clk.vsel)
  let r := g.rail n
  if g.takesVref n then
    match r.vchg with
    | some c => if c.opt = g.clk.vsel ∧ c.v = v then g else setpointArrive b n g.clk.vsel v g
    | none => if g.rd (F.RAIL_STAT_OPT n) = g.clk.vsel ∧ r.vset = v then g else setpointArrive b n g.clk.vsel v g
  else g

/-- A set-point takes effect at a boundary (R166): over-voltage is judged against the highest value since the rail was last
good at its set-point (R203). A change that does not move the set-point leaves its counts alone. -/
def takeSetpoint (n opt v : Nat) (g : Gov) : Gov :=
  let r := g.rail n
  let g := g.setRail n { r with
    vset := v, vchg := none, winCnt := if v = r.vset then r.winCnt else 0, vov := max r.vov v }
  let g := g.wr (F.RAIL_STAT_OPT n) opt
  if v < r.vset ∧ r.vthr ≠ v then
    g.setRail n { g.rail n with vthr := v }
  else g

/-! ## Coefficient sets (R161, R169) -/

/-- Section `i` of set `c` of rail `n` is enabled. -/
def Gov.secEn (g : Gov) (n c i : Nat) : Bool := g.flag (F.RAIL_COEF_HI_EN n c i)

/-- The integrating section: the last enabled one (R159). -/
def Gov.lastSec (g : Gov) (n c : Nat) : Option Nat :=
  [3, 2, 1, 0].find? (fun i => g.secEn n c i)

/-- The integrating section has a pole at z = 1 exactly (R161). -/
def Gov.hasIntegrator (g : Gov) (n c : Nat) : Bool :=
  match g.lastSec n c with
  | some i =>
    32768 + (sx 16 (g.rd (F.RAIL_COEF_LO_A1 n c i)) + sx 16 (g.rd (F.RAIL_COEF_HI_A2 n c i)))
      * ((2 ^ g.rd (F.RAIL_COEF_HI_SHIFT n c i) : Nat) : Int) == 0
  | none => false

/-- Set `c` is taken into use and tested: a set that fails is used regardless, with NOINT and an event (R161). -/
def takeCset (n c : Nat) (g : Gov) : Gov :=
  let g := g.wr (F.RAIL_STAT_CSET_ACT n) c
  if g.hasIntegrator n c then g else (g.wr (F.RAIL_STAT_NOINT n) 1).ev 0x2002 n 0 0 0

/-- A set switch at a boundary: the first pass is held in OPEN, the set is tested, and CLOSE with the held duty follows; a
rail that OPEN holds makes the CLOSE when OPEN is released; a rail in RAMP goes back to RAMP after the held sample; for a
rail in HICCUP the set is used from the retry (R164, R169, R178). -/
def switchCset (n c : Nat) (g : Gov) : Gov :=
  let g := takeCset n c g
  let d : Int := g.rd (F.RAIL_STAT_DUTY n)
  let g := g.setRail n { g.rail n with csetReq := none }
  let m := g.mode n
  if m = mCLOSED ∨ m = mRAMP then
    ((g.setRail n { g.rail n with hold := true, holdRamp := decide (m = mRAMP), close := some d }).ffOff n).setMode n mOPEN
  else if m = mBURST then g.setRail n { g.rail n with hold := true, close := some (g.rail n).db }
  else g

/-- A switch to set `c` is requested; a further request replaces the first (R169). -/
def Gov.requestCset (g : Gov) (n c : Nat) : Gov := g.setRail n { g.rail n with csetReq := some c }

/-! ## A staged commit at the rail (R176) -/

/-- The registers of a rail that a staged commit changes, at the rail's boundary or where it is off, in the order of R176.
A set in use whose contents change is switched to itself, unless another set is requested. -/
def stagedApply (n : Nat) (g : Gov) : Gov :=
  let r := g.rail n
  let c0 := g.rd (F.RAIL_CTL_CSET n)
  let act := g.rd (F.RAIL_STAT_CSET_ACT n)
  let coefKey := fun (k : Nat) => decide (0x5000 ≤ k / 64 ∧ k / 64 < 0x6000) &&
    decide ((k / 64 - 0x5000 - 256 * n) / 64 = act)
  let coefCh := r.staged.any (fun e => coefKey e.1)
  let g := { g with regs := r.staged.foldl (fun (m : Sparse Nat) (e : Nat × Nat) => mput m e.1 e.2) g.regs }
  let g := (g.setRail n { g.rail n with staged := [], commitAt := none }).wr (F.RAIL_STAT_PEND n) 0
  let g := { g with cfg := { g.cfg with commit := g.cfg.commit.map (fun c => { c with last := max c.last g.gtime }) } }
  let c1 := g.rd (F.RAIL_CTL_CSET n)
  let want := if c1 ≠ c0 then c1 else r.csetReq.getD act
  let g := if want ≠ act ∨ coefCh then
      (if g.mode n = mOFF ∨ g.mode n = mFAULT ∨ g.mode n = mDOWN then g else switchCset n want g) else g
  if g.takesVref n then
    let opt := g.rd (F.RAIL_STAT_OPT n)
    let chg := (g.rail n).vchg.map (fun c => { c with v := g.rd (F.RAIL_OPT_VSET n c.opt) })
    let g := takeSetpoint n opt (g.rd (F.RAIL_OPT_VSET n opt)) g
    g.setRail n { g.rail n with vchg := chg }
  else g

/-- A rail that is off takes a staged commit at once (R176). -/
def Gov.stagedOff (g : Gov) (n : Nat) : Gov := if (g.rail n).commitAt.isSome then stagedApply n g else g

/-! ## Faults and hiccup (R196, R205) -/

/-- Rail `n` enters FAULT with cause `c`: 1 OV, 2 SLICE, 3 NO_PHASE, 4 HICCUP_MAX (R205, R433). -/
def railFault (b : Build) (n c : Nat) (g : Gov) : Gov :=
  if g.mode n = mFAULT then g
  else
    let old := g
    let g := ((g.ffOff n).dropRequests n).setMode n mFAULT
    let g := (g.wr (F.RAIL_PSTAT_FCAUSE n) c).wr (F.RAIL_PSTAT_ILIM_RAIL n) 0
    let g := (g.wr (F.RAIL_PSTAT_GRACE n) 0).setRail n { g.rail n with
      graceAt := none, steadyAt := none, retry := false, retryV := none, retryFail := false, penFell := none,
      midAt := none, switching := false, downPend := false }
    let g := if c = 1 then
        ((g.wr (F.RAIL_PSTAT_OV n) 1).each (g.rail n).block (fun g p =>
          if (g.ph p).pen then g.setPh p { (g.ph p).still .low with shut := 0 } else g)).setRail n
            { g.rail n with clampAt := some g.gtime }
      else g.shutPhases n
    let ds := diesOfRail b g n
    let g := g.darken b n
    let g := (g.ev 0x2007 n c (g.rd (F.RAIL_MEAS_VS n)) 0).svc 3
    (((dieDark b ds g).stagedOff n)).phTrace old n 7

/-- Rail `n` enters HICCUP, or FAULT with cause HICCUP_MAX where its hiccups are used up (R196). -/
def enterHiccup (b : Build) (n : Nat) (g : Gov) : Gov :=
  let maxr := g.lf n (F.RAIL_PROT_HICCUP_MAXR n)
  if maxr ≠ 0 ∧ g.rd (F.RAIL_PSTAT_HR n) = maxr then railFault b n 4 g
  else
    let old := g
    let g := (g.ffOff n).shutPhases n
    let g := ((g.setMode n mHICCUP).wr (F.RAIL_PSTAT_ILIM_RAIL n) 0).darken b n
    let g := (g.wr (F.RAIL_PSTAT_HR n) (min 255 (g.rd (F.RAIL_PSTAT_HR n) + 1))).wr (F.RAIL_PSTAT_HC n) 0
    let g := (g.ev 0x2006 n (g.rd (F.RAIL_PSTAT_HR n)) (g.rd (F.RAIL_MEAS_ISUM n)) 0).wr (F.RAIL_PSTAT_HIC_SEEN n) 1
    let g := (g.wr (F.RAIL_PSTAT_GRACE n) 0).setRail n { g.rail n with
      retry := false, retryV := none, retryFail := false, penFell := none, hicAt := some g.gtime, steadyAt := none,
      graceAt := none, hold := false, holdRamp := false, close := none, midAt := none, switching := false }
    g.phTrace old n 6

/-! ## Powering up and down one rail (R115, R125) -/

/-- A rise of GOV_READY or of a PEN ends an EXTEST in force: the instruction behaves as BYPASS from then on, and an event
is recorded (R79). (DEDUCED, log 86) -/
def Gov.extestEnds (g : Gov) : Gov :=
  if g.io.tap.drives then
    ({ g with io := { g.io with tap := { g.io.tap with instr := 0xFF, dr := 0, drives := false } } }).ev 0x900A 0 0 0 0
  else g

/-- PEN rises on every usable phase, PWM at mid level for 2 µs (R115). The counts of R187 and R199 start anew. -/
def raisePen (n : Nat) (g : Gov) : Gov :=
  let g := g.each (g.usables n) (fun g p =>
    (g.setPh p { (g.ph p).still .mid with
      pen := true, shut := 0, win := [], raw := [], spoiled := false, imbOut := 0, imbIn := 0, openCnt := 0 }).wr
      (F.PH_STAT_STATE p) 1)
  let g := (g.wr (F.RAIL_PSTAT_N_USE n) (g.nU n)).wr (F.RAIL_PSTAT_N_USABLE n) (g.nU n)
  (g.setRail n { g.rail n with midAt := some g.gtime, switching := false }).extestEnds

/-- The bumpless duty of a pre-biased start (Table 6.7); DMAX where the VIN code is 0. (DESIGN CHOICE, log 87) -/
def dutyPre (dmax vpre vin : Nat) : Nat :=
  if vin = 0 then dmax else min dmax ((vpre * 4096 + vin / 2) / vin)

/-- The loop of rail `n` closes bumplessly with duty `d0` after a probe pulse, unless the rail has left OPEN meanwhile
(R119 item 4). -/
def Gov.probeClose (g : Gov) (n d0 : Nat) : Gov :=
  if g.mode n = mOPEN then
    let g := g.settleNow n
    ((g.setMode n mCLOSED).wr (F.RAIL_STAT_DUTY n) d0).setRail n { g.rail n with close := some (d0 : Int) }
  else g

end Sys2Proof.Machine
end

