-- ==== Sys2Proof/Machine/Bringup.lean ====
section
/-! DEFINITION. Bring-up, discovery, sequencing and orderly power-down (spec/04), with the VIN protection of spec/07. -/

namespace Sys2Proof.Machine

/-! ## Enabled rails and groups -/

/-- The rails with RAIL_SEQ.EN = 1, in ascending order. -/
def enabledRails (b : Build) (g : Gov) : List Nat :=
  (List.range b.rails).filter (fun n => g.rd (F.RAIL_SEQ_EN n) == 1)

/-- The enabled rails of a group. -/
def groupRails (b : Build) (g : Gov) (grp : Nat) : List Nat :=
  (enabledRails b g).filter (fun n => g.rd (F.RAIL_SEQ_GROUP n) == grp)

/-- The lowest group above `after` (or at all) with an enabled rail. -/
def nextGroup (b : Build) (g : Gov) (after : Option Nat) : Option Nat :=
  (List.range 16).find? (fun q =>
    (match after with | some a => decide (a < q) | none => true) && !(groupRails b g q).isEmpty)

/-- The rails of group `q` that are not yet off, whether or not RAIL_SEQ.EN still names them. -/
def upRails (b : Build) (g : Gov) (q : Nat) : List Nat :=
  (List.range b.rails).filter (fun n => g.railUp n && g.rd (F.RAIL_SEQ_GROUP n) == q)

/-- The highest group that has a rail not yet off. -/
def downGroup (b : Build) (g : Gov) : Option Nat :=
  ((List.range 16).reverse).find? (fun q => !(upRails b g q).isEmpty)

/-! ## Power-down (R125) -/

/-- The reference that rail `n` stands at: that of its source while it tracks in RAMP, its own otherwise. -/
def Gov.presentRef (g : Gov) (n : Nat) : Nat :=
  if g.mode n = mRAMP ∧ g.ramper n ≠ n then g.trackedRef n else g.ownRef n

/-- GTIME at which the downward ramp that rail `n` follows ends; none while its source has yet to leave BURST (R125, R193). -/
def Gov.downEnd (g : Gov) (n : Nat) : Option Nat :=
  let r := g.rail n
  let s := g.ramper n
  if s = n then some (r.ramp.t0 + r.ramp.dur)
  else if (g.rail s).downPend then none
  else some (max r.ramp.t0 ((g.rail s).ramp.t0 + (g.rail s).ramp.dur))

/-- Rail `n` is off: its timer stops, requests are dropped, and a staged commit is taken at once (R153, R169, R176). -/
def railStop (n : Nat) (g : Gov) : Gov :=
  let old := g
  let g := ((g.ffOff n).dropRequests n).setMode n mOFF
  let g := g.setRail n { g.rail n with
    started := false, midAt := none, switching := false, retry := false, retryV := none, retryFail := false,
    downPend := false, penFell := none, steadyAt := none, graceAt := none }
  ((g.wr (F.RAIL_PSTAT_GRACE n) 0).stagedOff n).phTrace old n 7

/-- Rail `n` begins to come down, from its present reference to 0 at its own slope: a rail in HICCUP, whose phases are
down already, is off at once; one in BURST first goes back to PWM at its next boundary; one in OPEN closes with the held
duty, as on any release (R125 item 4, R193, Table 4.4, Table 6.7, R208). (DEDUCED, log 89) -/
def railDown (n : Nat) (g : Gov) : Gov :=
  let old := g
  let r := g.rail n
  let m := g.mode n
  if m = mDOWN ∨ m = mFAULT ∨ m = mOFF then g
  else if m = mHICCUP then railStop n g
  else if m = mBURST then g.setRail n { r with burstExit := true, downPend := true }
  else
    let v0 := g.presentRef n
    let rp : Ramp := { t0 := g.gtime, v0 := v0, v1 := 0, dur := slopeTime (g.rd (F.RAIL_SEQ_RAMP n)) v0 0 r.vset }
    -- feed-forward that was active ceases at the first pass in DOWN, with the OFFSET of Table 6.7
    let g := g.setRail n { r with
      ramp := rp, csetReq := none, vchg := none, hold := false, holdRamp := false, retry := false, retryFail := false,
      downPend := false, close := if m = mOPEN then some (g.rd (F.RAIL_STAT_DUTY n) : Int) else r.close }
    (g.setMode n mDOWN).phTrace old n 7

/-- Rails of the highest group come down; where every rail of it is off the next lower group follows, and with none
left the governor enters Off (R125 items 4 and 6). -/
def groupsDown (b : Build) : Nat → Gov → Gov
  | 0, g => g
  | fuel + 1, g =>
    match downGroup b g with
    | none => { g.wr F.BRG_STAT_STAGE sOFF with brg := { g.brg with downGroup := none, drainAt := none } }
    | some q =>
      let g := g.each (upRails b g q) (fun g n => railDown n g)
      let g := { g with brg := { g.brg with downGroup := some q } }
      if (upRails b g q).isEmpty then groupsDown b fuel g else g

/-- In Seq-down, a group whose rails are all off gives way to the next (R125 items 4 and 6). -/
def seqProgress (b : Build) (g : Gov) : Gov :=
  match g.brg.downGroup with
  | some q => if g.stage = sSEQDOWN ∧ (upRails b g q).isEmpty then groupsDown b 17 g else g
  | none => g

/-- TCLK_EN is lowered on every tile, then the groups come down from the highest (R125 items 3 and 4). -/
def seqDownRails (b : Build) (g : Gov) : Gov :=
  let g := g.each (List.range b.dies) (fun g d => g.enmaskClear d)
  let g := { g with brg := { g.brg with drainAt := none } }
  groupsDown b 17 g

/-- Outstanding grants are discarded and counted, and an event is recorded (R125 item 2, R235). -/
def discardOutstanding (g : Gov) : Gov :=
  let n := g.grantsOut
  let g := g.discardGrants
  if n = 0 then g else g.ev 0x9009 n 0 0 0

/-- Every probe ends and every waiting CAL_PROBE is dropped, as PROBE_RESULT with STAT 0 (R501, R502); a running
CAL_PROBE whose reply waits is answered 0x12, as a trip answers it (R417; DEDUCED for STOP and VIN, log 8). -/
def Gov.dropProbes (b : Build) (g : Gov) : Gov :=
  let g := (mkeys (fun _ _ => true) g.calWait).foldl (fun g n => g.ev 0x9006 n 0 0 0) g
  let ps := g.probes
  let ws := g.calWait
  let g := { g with probes := [], calWait := [] }
  let g := ws.foldl (fun g (e : Nat × CalWait) => match e.2.cmd with
    | some c => g.probeReply b c e.1 0x12
    | none => g) g
  ps.foldl (fun g e => match e.2.cmd with | some c => g.probeReply b c e.1 0x12 | none => g) g

/-- The loop of every rail in a probe pulse closes (R119 item 4). -/
def Gov.closeProbes (g : Gov) : Gov :=
  g.probes.foldl (fun g e => if e.2.inPulse then g.probeClose e.1 e.2.d0 else g) g

/-- Seq-down is entered: GOV_READY falls, the hubs close, every usable phase returns to PWM (a rail in BURST from its next
boundary, R193), and the rails come down after the drain where `drain` asks for it (R125 items 1 to 4). -/
def enterSeqDown (b : Build) (drain : Bool) (g : Gov) : Gov :=
  let wasReady := decide (g.stage = sREADY)
  let g := { g with
      brg := { g.brg with
      govReady := false, wasReady := wasReady, startAt := none, readyWait := none, group := none } }
  let g := g.closeProbes.dropProbes b
  let g := g.hubsClose.wr F.BRG_STAT_STAGE sSEQDOWN
  let g := g.each (List.range b.rails) (fun g n =>
    if g.mode n = mBURST then g.setRail n { g.rail n with burstExit := true }
    else if g.running n then (g.setNuse n (g.nU n)).phTrace g n 5
    else g)
  if wasReady then
    if drain ∧ g.grantsOut ≠ 0 then { g with brg := { g.brg with drainAt := some g.gtime } }
    else seqDownRails b (discardOutstanding g)
  else seqDownRails b g

/-- A write of STOP (R125): accepted in Seq-up, Probe, Links and Ready, refused elsewhere. A probe repetition completes its
pulse before Seq-down begins (Table 4.4). -/
def brgStop (b : Build) (g : Gov) : Gov :=
  if g.stage = sSEQUP ∨ g.stage = sPROBE ∨ g.stage = sLINKS ∨ g.stage = sREADY then
    if g.probes.any (fun e => e.2.inPulse) then
      { g with probes := mmap (fun _ p => { p with stopPend := p.inPulse }) g.probes }
    else enterSeqDown b true g
  else g.wr F.BRG_STAT_REFUSED 1

/-! ## Start (R109, R106, R491) -/

/-- Rail `n` offends against the conditions of R109 or R491. A MODE of 0b11 is reserved and offends (DEDUCED,
log 6). -/
def startOffends (b : Build) (g : Gov) (n : Nat) : Bool :=
  let cnt := g.rd (F.RAIL_CFG_COUNT n)
  let first := g.rd (F.RAIL_CFG_FIRST n)
  let mode := g.rd (F.RAIL_SEQ_MODE n)
  let src := g.rd (F.RAIL_SEQ_SRC n)
  let sl := b.slices.getD n (0, 0)
  decide (cnt = 0 ∨ g.rd (F.RAIL_SEQ_PG_WIN n) = 0)
  || decide (mode = 0 ∧ g.rd (F.RAIL_SEQ_RAMP n) = 0)
  || decide (mode = 3)
  || ((mode == 1 || mode == 2) &&
      (decide (src = n ∨ b.rails ≤ src ∨ g.rd (F.RAIL_SEQ_EN src) = 0 ∨ g.rd (F.RAIL_SEQ_MODE src) ≠ 0
        ∨ g.rd (F.RAIL_SEQ_GROUP src) ≠ g.rd (F.RAIL_SEQ_GROUP n))
       || decide (mode = 2 ∧ g.rd (F.RAIL_OPT_VSET src g.clk.vsel) = 0)))
  || decide (first < sl.1 ∨ sl.1 + sl.2 < first + cnt)

/-- The configuration passes the validation of START, or the lowest offending rail (0 where no rail is enabled). -/
def startCheck (b : Build) (g : Gov) : Option Nat :=
  match enabledRails b g with
  | [] => some 0
  | l => l.find? (fun n => startOffends b g n)

/-- Stage rating of identification code `c`, current codes (Table 2.3). -/
def stageRating (c : Nat) : Nat := if c = 0 then 0 else (50 + 10 * c) * 16

/-- RAIL_CFG is taken into force and the identification is applied to the block of rail `n` (R106, R152). -/
def takeRailCfg (n : Nat) (g : Gov) : Gov :=
  let r := g.rail n
  let g := g.setRail n { r with
    per := g.rd (F.RAIL_CFG_PER n), k := g.rd (F.RAIL_CFG_RATE n) + 1, sofs := g.rd (F.RAIL_CFG_SOFS n),
    first := g.rd (F.RAIL_CFG_FIRST n), count := g.rd (F.RAIL_CFG_COUNT n), perCur := g.rd (F.RAIL_CFG_PER n) }
  g.wr (F.RAIL_STAT_CFG_PEND n) 0

/-- Identification applied to one phase of rail `n` (R106 items 1 and 2): a phase that is not retired and identified
is usable; any other phase of the block that is not retired is EXCLUDED, recorded, and asserts SERVICE_REQ_N on an enabled
rail. -/
def classifyPhase (n p : Nat) (g : Gov) : Gov :=
  let res := g.rd (F.PH_ID_RESULT p)
  let g := g.wr (F.PH_ID_RAIL p) n
  let g := if res = 5 then g.wr (F.PH_ID_RESULT p) 1 else g
  if g.rd (F.PH_STAT_STATE p) = 3 then g.setPh p { g.ph p with usable := false }
  else if res = 1 ∨ res = 5 then (g.wr (F.PH_STAT_STATE p) 0).setPh p { g.ph p with usable := true }
  else
    let g := ((g.wr (F.PH_STAT_STATE p) 4).wr (F.PH_STAT_CAUSE p) 5).setPh p { g.ph p with usable := false }
    let g := g.ev 0x9007 p res (g.rd (F.PH_ID_ID_V p)) 0
    if g.rd (F.RAIL_SEQ_EN n) = 1 then g.svc 1 else g

/-- Mixed stage codes among the identified phases of rail `n`, retired ones included (R106 item 3): every phase is marked,
the rail takes the lowest rating, and an event is recorded. -/
def classifyMixed (n : Nat) (g : Gov) : Gov :=
  let ids := (g.rail n).block.filter (fun p => g.rd (F.PH_ID_RESULT p) == 1)
  let codes := ids.map (fun p => g.rd (F.PH_ID_CODE p))
  let lo := codes.foldl min 7
  let hi := codes.foldl max 0
  let mixed := decide (codes ≠ [] ∧ lo ≠ hi)
  let g := g.each (g.rail n).block (fun g p => g.wrB (F.PH_ID_MIXED p) mixed)
  let g := g.setRail n { g.rail n with rating := if codes = [] then 0 else stageRating lo }
  if mixed then
    let p := ids.headD 0
    g.ev 0x9007 p 8 (g.rd (F.PH_ID_ID_V p)) 0
  else g

/-- Phases that no rail's block names: reported as unassigned where a stage was identified, never enabled (R106). -/
def classifyUnassigned (b : Build) (g : Gov) : Gov :=
  g.each (List.range b.phases) (fun g p =>
    match railOf b g p with
    | some _ => g
    | none =>
      let g := (g.wr (F.PH_ID_RAIL p) 0).setPh p { g.ph p with usable := false }
      let g := if g.rd (F.PH_ID_RESULT p) = 1 then g.wr (F.PH_ID_RESULT p) 5 else g
      if g.rd (F.PH_STAT_STATE p) = 3 then g
      else g.wr (F.PH_STAT_STATE p) (if g.rd (F.PH_ID_RESULT p) = 0 then 0 else 4))

/-- What an accepted START does to rail `n`: configuration in force, identification, hiccup count, safe coefficient
set, target, and the rail's runtime at its start (R106, R111, R121, R152, R165, R197, R205). OPEN is cleared, so that the
rail starts with its loop closed. (DESIGN CHOICE, log 88) -/
def startRailState (n : Nat) (g : Gov) : Gov :=
  let g := takeRailCfg n g
  let g := g.setMode n mOFF
  let g := g.each (g.rail n).block (fun g p => classifyPhase n p g)
  let g := classifyMixed n g
  let g := (g.wr (F.RAIL_PSTAT_HR n) 0).wr (F.RAIL_PSTAT_HC n) 0
  let g := ((g.wr (F.RAIL_CTL_CSET n) 0).wr (F.RAIL_STAT_CSET_ACT n) 0).wr (F.RAIL_CTL_OPEN n) 0
  let v := g.clk.vsel
  let vset := g.rd (F.RAIL_OPT_VSET n v)
  let r := g.rail n
  let g := g.setRail n {
    per := r.per, k := r.k, sofs := r.sofs, first := r.first, count := r.count, perCur := r.perCur,
    sliceFail := r.sliceFail, rating := r.rating, vset := vset, vov := vset, vthr := vset }
  let g := ((g.wr (F.RAIL_STAT_OPT n) v).wr (F.RAIL_PSTAT_N_USABLE n) (g.nU n)).wr (F.RAIL_PSTAT_N_USE n) (g.nU n)
  g.takeLimits n

/-- An accepted START (R109, R110, R362): Seq-up, waiting for VIN. -/
def acceptStart (b : Build) (g : Gov) : Gov :=
  let g := g.each (List.range b.rails) (fun g n => startRailState n g)
  let g := classifyUnassigned b g
  let g := g.wr F.BRG_STAT_STAGE sSEQUP
  let g := { g with
      brg := { g.brg with
      startAt := some g.gtime, vinOk := g.brg.vinSettled, group := none, downGroup := none, wasReady := false } }
  g.rewriteCheck

/-- START, written, commanded, automatic or made by Firethorn on release: accepted only in Wait-cfg and Off, then
validated; refused while Firethorn is tripped or latched (R109, R261). The flag says whether the stage must be
checked: the automatic START of Discover is made before Wait-cfg. -/
def brgStart (b : Build) (auto : Bool) (g : Gov) : Gov × Bool :=
  if !auto ∧ g.stage ≠ sWAITCFG ∧ g.stage ≠ sOFF then (g.wr F.BRG_STAT_REFUSED 1, false)
  else if g.flag F.FT_STAT_TRIPPED ∨ g.flag F.FT_STAT_LATCHED then (g.wr F.BRG_STAT_REFUSED 1, false)
  else
    let g := (g.wr F.BRG_STAT_ERR 0).wr F.BRG_STAT_ERR_RAIL 0
    match startCheck b g with
    | some n => (((g.wr F.BRG_STAT_ERR 1).wr F.BRG_STAT_ERR_RAIL n).wr F.BRG_STAT_REFUSED 1, false)
    | none => (acceptStart b g, true)

/-- A write of BRG_CTL bits START and STOP: STOP is taken where both are written (Table 4.4). -/
def brgCtlAct (b : Build) (w : Nat) (g : Gov) : Gov :=
  if bit w 1 then brgStop b g
  else if bit w 0 then (brgStart b false g).1
  else g

/-! ## Discovery -/

/-- Classification of an identification voltage in codes of 0.5 mV: RESULT and CODE (Table 2.3). -/
def classifyId (v : Nat) : Nat × Nat :=
  if v < 40 then (3, 0)
  else if 218 ≤ v ∧ v ≤ 266 then (1, 1)
  else if 304 ≤ v ∧ v ≤ 372 then (1, 2)
  else if 426 ≤ v ∧ v ≤ 522 then (1, 3)
  else if 598 ≤ v ∧ v ≤ 730 then (1, 4)
  else if 836 ≤ v ∧ v ≤ 1020 then (1, 5)
  else if 1168 ≤ v ∧ v ≤ 1428 then (1, 6)
  else if 1636 ≤ v ∧ v ≤ 2000 then (1, 7)
  else if 2200 < v then (2, 0)
  else (4, 0)

/-- Identification voltage in codes of 0.5 mV from the sum of 64 IMON conversions (R105): the mean, rounded to the
nearest code with ties upward, converted to volts. -/
def idVolt (sum : Nat) : Nat := min 4095 ((2 * ((sum + 32) / 64) * 1171875 + 500000) / 1000000)

/-- Phase `p` is a channel of a slice marked failed (R45, R491). -/
def sliceLost (b : Build) (g : Gov) (p : Nat) : Bool :=
  (List.range b.rails).any (fun n =>
    let sl := b.slices.getD n (0, 0)
    (g.rail n).sliceFail && decide (sl.1 ≤ p ∧ p < sl.1 + sl.2))

/-- Identification of every phase, from the sums of 64 conversions in phase order, once after each reset (R105); a slice
marked failed measures nothing (R45). -/
def identify (b : Build) (sums : List Nat) (g : Gov) : Gov :=
  if g.live ∧ g.stage = sDISCOVER ∧ g.brg.idDone = false then
    let g := g.each ((List.range b.phases).filter (fun p => !sliceLost b g p)) (fun g p =>
      let v := idVolt (sums.getD p 0)
      let c := classifyId v
      ((g.wr (F.PH_ID_ID_V p) v).wr (F.PH_ID_RESULT p) c.1).wr (F.PH_ID_CODE p) c.2)
    { g with brg := { g.brg with idDone := true } }
  else g

/-- Discovery ends: the automatic START, or Wait-cfg (R101, R109). -/
def discoverComplete (b : Build) (g : Gov) : Gov :=
  if g.live ∧ g.stage = sDISCOVER ∧ g.brg.idDone then
    if g.flag F.BRG_CTL_AUTO ∧ g.flag F.BRG_STAT_CFG_RETAINED then
      let ft := g.flag F.FT_STAT_TRIPPED || g.flag F.FT_STAT_LATCHED
      let r := brgStart b true g
      if r.2 then r.1
      else
        let g := r.1
        let g := g.ev 0x900B (if ft then 2 else 1) (g.rd F.BRG_STAT_ERR) (g.rd F.BRG_STAT_ERR_RAIL) 0
        g.wr F.BRG_STAT_STAGE sWAITCFG
    else g.wr F.BRG_STAT_STAGE sWAITCFG
  else g

/-! ## Start faults (R116, R118) -/

/-- A start fault of rail `n` with code `err` (3 SENSE, 4 NO_PHASE, 5 RAMP, 6 PG_TIMEOUT); a rail already in FAULT stays
there (R205). -/
def startFault (b : Build) (n err : Nat) (g : Gov) : Gov :=
  if g.stage = sSEQUP then
    let g := (g.wr F.BRG_STAT_ERR err).wr F.BRG_STAT_ERR_RAIL n
    let g := (g.ev 0x9005 err n 0 0).svc 4
    let g := g.dropPhases n
    let g := if g.mode n = mFAULT then g else railStop n g
    enterSeqDown b false g
  else g

/-- Result of the sense-line check of rail `n`, from the sums of 16 sample codes before and with the test currents
(R107): the line is open where the second mean exceeds the first by more than 20 mV. -/
def senseCheck (b : Build) (n s1 s2 : Nat) (g : Gov) : Gov :=
  if g.live ∧ n < b.rails ∧ (g.stage = sDISCOVER ∨ g.stage = sSEQUP ∧ g.brg.vinOk ∧ g.rd (F.RAIL_SEQ_EN n) = 1
      ∧ (g.rail n).senseDone = false) then
    let r := g.rail n
    let bad := r.sliceFail || decide (s1 + 16 * 40 < s2)
    let g := g.setRail n { r with
      senseBad := bad, senseDone := decide (g.stage = sSEQUP),
      vpre := if 16 * 100 < s1 then (2 * s1 + 16) / 32 else 0 }
    if g.stage = sSEQUP then
      if bad then startFault b n 3 g else g
    else g
  else g

/-! ## Sequencing up (R112 to R117) -/

/-- Rail `n` starts: PEN rises on every usable phase; an independent rail's ramp begins from 0 or from the measured
voltage; a rail with no usable phase has the start fault NO_PHASE, and one whose slice has failed since its check SENSE,
since its PEN is never raised (R113, R115, R116). (DEDUCED, log 66) -/
def startRail (b : Build) (n : Nat) (g : Gov) : Gov :=
  if (g.rail n).sliceFail then startFault b n 3 g
  else if g.nU n = 0 then startFault b n 4 g
  else
    let old := g
    let r := g.rail n
    let rp : Ramp := { t0 := g.gtime, v0 := r.vpre, v1 := r.vset,
                       dur := if r.vpre = 0 then g.rd (F.RAIL_SEQ_RAMP n) * 1000
                              else slopeTime (g.rd (F.RAIL_SEQ_RAMP n)) r.vpre r.vset r.vset }
    let g := g.setRail n { r with
      started := true, dlyAt := none, ramp := rp, good := false, goodCnt := 0, overDuty := 0,
      overVolt := 0, bnd := 16 * g.gtime, jIdx := 0,
      close := some (if r.vpre = 0 then 0
        else (dutyPre (g.rd (F.RAIL_CTL_DMAX n)) r.vpre (g.rd F.VIN_PROT_VIN) : Int)) }
    let g := raisePen n g
    let g := (takeCset n 0 g).setMode n mRAMP
    let g := g.respace n
    g.phTrace old n 7

/-- A pre-biased tracking rail waits until its computed reference exceeds its measured voltage; any other tracking
rail starts with its source (R112, R114). -/
def startTracker (b : Build) (n : Nat) (g : Gov) : Gov :=
  let r := g.rail n
  if r.started = false ∧ (r.vpre = 0 ∨ r.vpre < g.trackedRef n) then startRail b n g else g

/-- The tracking rails of source `s` that start with it. -/
def startTrackers (b : Build) (s : Nat) (g : Gov) : Gov :=
  g.each ((enabledRails b g).filter (fun n => g.tracking n && g.rd (F.RAIL_SEQ_SRC n) == s))
    (fun g n => if g.stage = sSEQUP then startTracker b n g else g)

/-- Every enabled rail of the groups started so far is good. -/
def startedGood (b : Build) (g : Gov) : Bool :=
  match g.brg.group with
  | none => true
  | some q => (groupRails b g q).all (fun n => (g.rail n).good)

/-- The next group starts: independent rails wait their DLY, tracking rails follow their sources (R112). -/
def groupStart (b : Build) (g : Gov) : Gov :=
  if g.live ∧ g.stage = sSEQUP ∧ g.brg.vinOk ∧ startedGood b g then
    match nextGroup b g g.brg.group with
    | none => g
    | some q =>
      if (groupRails b g q).all (fun n => (g.rail n).senseDone) then
        let g := { g with brg := { g.brg with group := some q } }
        g.each (groupRails b g q) (fun g n =>
          if g.tracking n ∨ g.stage ≠ sSEQUP then g
          else if g.rd (F.RAIL_SEQ_DLY n) = 0 then startTrackers b n (startRail b n g)
          else g.setRail n { g.rail n with dlyAt := some (g.gtime + 1000 * g.rd (F.RAIL_SEQ_DLY n)) })
      else g
  else g

/-- An independent rail's DLY after its group start elapses (R112). -/
def railDlyExpiry (b : Build) (n : Nat) (g : Gov) : Gov :=
  match (g.rail n).dlyAt with
  | some t => if g.live ∧ g.stage = sSEQUP ∧ n < b.rails then startTrackers b n (startRail b n (g.runTo t)) else g
  | none => g

/-- The 2 µs at mid level end, and each phase begins to switch at its own next period start (R115). -/
def penMidEnd (b : Build) (n : Nat) (g : Gov) : Gov :=
  match (g.rail n).midAt with
  | some t =>
    if g.live ∧ n < b.rails then
      let g := g.runTo (t + 2000)
      let g := g.setRail n { g.rail n with midAt := none, switching := true }
      g.setNuse n (g.nU n)
    else g
  | none => g

/-! ## VIN (R108, R110, R206) -/

/-- UVLO, or slice 0 lost before readiness: every phase to mid level, every ENMASK bit cleared, Off with ERR = VIN and
no ramp; outstanding grants are discarded (R206, R235). -/
def emergencyOff (b : Build) (g : Gov) : Gov :=
  let g := g.each (List.range b.rails) (fun g n =>
    let g := g.shutPhases n
    let g := g.setRail n { g.rail n with dlyAt := none, clampAt := none }
    if g.mode n = mFAULT then g else railStop n g)
  let g := g.each (List.range b.dies) (fun g d => g.enmaskClear d)
  let g := discardOutstanding g.hubsShut
  let g := { g with
      brg := { g.brg with
      govReady := false, startAt := none, readyWait := none, group := none, downGroup := none, drainAt := none } }
  (g.dropProbes b).wr F.BRG_STAT_STAGE sOFF

/-- VIN leaves its window in Seq-up, Probe or Links (Table 4.4), or the window fault of Ready is due (R206). -/
def vinFault (b : Build) (g : Gov) : Gov :=
  if g.stage = sREADY then
    let g := ((g.wr F.VIN_PROT_VIN_OUT 1).wr F.BRG_STAT_ERR 2).ev 0x2009 1 (g.rd F.VIN_PROT_VIN) 0 0
    enterSeqDown b false g
  else if g.stage = sSEQUP ∧ g.brg.vinOk ∨ g.stage = sPROBE ∨ g.stage = sLINKS then
    enterSeqDown b false ((g.wr F.BRG_STAT_ERR 2).ev 0x2009 1 (g.rd F.VIN_PROT_VIN) 0 0)
  else g

/-- VIN lies in its window (R108). -/
def Gov.vinInWindow (g : Gov) (c : Nat) : Bool :=
  decide (g.rd F.BRG_CTL_VIN_MIN ≤ c ∧ c ≤ g.rd F.BRG_CTL_VIN_MAX)

/-- One VIN conversion of `nV` at the pin, one microsecond after the one before (R44, R108, R206). -/
def vinConversion (b : Build) (nV : Int) (g : Gov) : Gov :=
  if g.live ∧ sDISCOVER ≤ g.stage ∧ (g.rail 0).sliceFail = false then
    let c := vinCode nV
    let g := g.wr F.VIN_PROT_VIN c
    let inW := g.vinInWindow c
    let low := decide (c < g.rd F.VIN_PROT_VIN_UVLO)
    let cnt := if low then min 4 (g.brg.uvloCnt + 1) else 0
    let g := { g with
        brg := { g.brg with
        uvloCnt := cnt,
        vinIn := if inW then some (g.brg.vinIn.getD g.gtime) else none,
        vinOutSince := if inW then none else some (g.brg.vinOutSince.getD g.gtime),
        vinSettled := g.brg.vinSettled && inW } }
    if cnt = 4 ∧ sSEQUP ≤ g.stage ∧ g.stage ≤ sSEQDOWN then
      let g := ((g.wr F.VIN_PROT_UVLO 1).wr F.BRG_STAT_ERR 2).ev 0x2009 2 c 0 0
      emergencyOff b { g with brg := { g.brg with uvloCnt := 0 } }
    else if inW = false ∧ g.stage ≠ sREADY then vinFault b g
    else g
  else g

/-- VIN has been in window for 1 ms: PEN may rise, and a START that waited goes on (R108, R110). -/
def vinSettled (g : Gov) : Gov :=
  match g.brg.vinIn with
  | some t =>
    if g.live then
      let g := g.runTo (t + 1000000)
      { g with brg := { g.brg with vinSettled := true, vinOk := g.brg.vinOk || g.brg.startAt.isSome } }
    else g
  | none => g

/-- VIN has not settled within VIN_TO ms of START: Off with ERR = VIN (R110). -/
def vinToExpiry (g : Gov) : Gov :=
  match g.brg.startAt with
  | some t =>
    if g.live ∧ g.stage = sSEQUP ∧ g.brg.vinOk = false ∧ g.rd F.BRG_TIME_VIN_TO ≠ 0 then
      let g := ((g.runTo (t + 1000000 * g.rd F.BRG_TIME_VIN_TO)).wr F.BRG_STAT_ERR 2).wr F.BRG_STAT_STAGE sOFF
      { g with brg := { g.brg with startAt := none } }
    else g
  | none => g

/-- From Ready, VIN has been outside its window for VIN_DWELL µs (R206). -/
def vinWindowFault (b : Build) (g : Gov) : Gov :=
  match g.brg.vinOutSince with
  | some t =>
    if g.live ∧ g.stage = sREADY then vinFault b (g.runTo (t + 1000 * g.rd F.VIN_PROT_VIN_DWELL)) else g
  | none => g

/-! ## Probe, Links, Ready (R119, R122, R123) -/

/-- The outcome of a rail's probe is recorded (R121). -/
def probeOutcome (n stat cset : Nat) (g : Gov) : Gov :=
  let g := (g.wr (F.RAIL_PROBE_STAT n) stat).wr (F.RAIL_PROBE_CSET n) cset
  g.ev 0x9006 (n + stat * 2 ^ 4 + cset * 2 ^ 8) (g.rd (F.RAIL_PROBE_C_EST n)) (g.rd (F.RAIL_PROBE_ESR_EST n))
    (g.rd (F.RAIL_PROBE_ABORTS n))

/-- The Links stage is entered: the root is aligned at once; with HR_SKIP an unaligned device goes on at once; the
check word is rewritten over the live image (R122, R362). UNALIGNED tells of this bring-up only. (DEDUCED, log 90) -/
def enterLinks (g : Gov) : Gov :=
  let g := (g.wr F.BRG_STAT_STAGE sLINKS).wr F.BRG_STAT_UNALIGNED 0
  let g := { g with brg := { g.brg with linksAt := g.gtime } }
  let g := if g.clk.hrRoot then g.wr F.GTIME_STAT_ALIGNED 1 else g
  let g := if g.flag F.BRG_CTL_HR_SKIP ∧ g.flag F.GTIME_STAT_ALIGNED = false then
      (g.wr F.BRG_STAT_UNALIGNED 1).ev 0x9008 0 0 0 0 else g
  (hrBringUp g).rewriteCheck

/-- Every rail that is enabled has its probe behind it: the Links stage follows. -/
def probesDone (b : Build) (g : Gov) : Bool := (enabledRails b g).all (fun n => (g.rail n).probed)

/-- The usable phases of rail `n` all have a valid IMON channel (R119). -/
def imonValid (b : Build) (n : Nat) (g : Gov) : Bool :=
  let sl := b.slices.getD n (0, 0)
  !(g.rail n).sliceFail && (g.usables n).all (fun p => decide (sl.1 ≤ p ∧ p < sl.1 + sl.2))

/-- The outcome of a rail whose turn has come and that is not probed: SKIPPED with NOPROBE, ABORTED where the rail is in
FAULT, NO_IMON where a usable phase has no valid channel (R119, R121). (DEDUCED, log 91) -/
def probeSkip (b : Build) (g : Gov) (n : Nat) : Option Nat :=
  if g.mode n = mFAULT then some 4
  else if (mfind g.probes n).isSome then none
  else if g.flag F.BRG_CTL_NOPROBE then some 5
  else if imonValid b n g = false then some 6
  else none

/-- The rails take their turns in ascending order, up to one that is probed (R119). -/
def probeTurns (b : Build) : List Nat → Gov → Gov
  | [], g => g
  | n :: l, g =>
    if (g.rail n).probed then probeTurns b l g
    else match probeSkip b g n with
      | some c =>
        let g := { g with probes := mdel g.probes n }
        probeTurns b l ((probeOutcome n c 0 g).setRail n { g.rail n with probed := true })
      | none => g

/-- The Probe stage moves on: rails that are not probed have their outcome, and with none left to probe the Links stage
follows (R101, R119). -/
def probeSkips (b : Build) (g : Gov) : Gov :=
  let g := probeTurns b (enabledRails b g) g
  if probesDone b g then enterLinks g else g

/-- What the end of a rail may bring on: the next rail's turn in the Probe stage, the next group in Seq-down. -/
def stageProgress (b : Build) (g : Gov) : Gov :=
  if g.live ∧ g.stage = sPROBE then probeSkips b g else seqProgress b g

/-- A rail has become good (R117): with every enabled rail good the Probe stage follows (R101). -/
def railGood (b : Build) (n : Nat) (g : Gov) : Gov :=
  let g := g.setRail n { g.rail n with good := true }
  if g.stage = sSEQUP ∧ (enabledRails b g).all (fun m => (g.rail m).good) then
    probeSkips b (g.wr F.BRG_STAT_STAGE sPROBE)
  else g

/-- HR_WAIT ms have passed in the Links stage without alignment (R122 item 4). -/
def hrWaitExpiry (g : Gov) : Gov :=
  if g.live ∧ g.stage = sLINKS ∧ g.flag F.GTIME_STAT_ALIGNED = false ∧ g.flag F.BRG_STAT_UNALIGNED = false then
    let g := g.runTo (g.brg.linksAt + 1000000 * g.rd F.BRG_TIME_HR_WAIT)
    (g.wr F.BRG_STAT_UNALIGNED 1).ev 0x9008 (g.rd F.BRG_TIME_HR_WAIT) 0 0 0
  else g

/-- The Ready stage is entered: the tile-enable command goes into every ring header (R123 item 1). (DEDUCED, log 58) -/
def readyEntry (b : Build) (g : Gov) : Gov :=
  if g.live ∧ g.stage = sLINKS ∧ (g.flag F.GTIME_STAT_ALIGNED ∨ g.flag F.BRG_STAT_UNALIGNED) then
    let g := g.wr F.BRG_STAT_STAGE sREADY
    let g := { g with brg := { g.brg with readyWait := some g.gtime, everReady := true } }
    let g := g.each (List.range b.dies) (fun g d => g.enmaskRestore b d)
    g.each (List.range b.rails) (fun g n => setpointRefresh b n g)
  else g

/-- Every built satellite whose ENMASK bit is set has reported its enable. -/
def enablesReported (b : Build) (g : Gov) : Bool :=
  (List.range b.dies).all (fun d => (List.range b.tiles).all (fun i => g.rd (F.ST_TILE_EN (64 * d + i)) == 1))

/-- The satellites have reported, or 10 µs have passed: the hubs open, GOV_READY rises, shedding and burst are enabled
(R123 items 2 to 5). -/
def satelliteWaitEnd (b : Build) (g : Gov) : Gov :=
  match g.brg.readyWait with
  | some t =>
    if g.live ∧ g.stage = sREADY then
      let g := if enablesReported b g then g else g.runTo (t + 10000)
      let g := (norepAtReady b g).hubsOpen
      { g.extestEnds with brg := { g.brg with readyWait := none, govReady := true, wasReady := true } }
    else g
  | none => g

/-- PD_DRAIN has expired, or every grant has completed: the rest are discarded, TCLK_EN falls and the rails come down
(R125 items 2 to 4). -/
def pdDrainExpiry (b : Build) (g : Gov) : Gov :=
  match g.brg.drainAt with
  | some t =>
    if g.live ∧ g.stage = sSEQDOWN then
      let g := if g.grantsOut = 0 then g else g.runTo (t + 1000 * g.rd F.BRG_TIME_PD_DRAIN)
      seqDownRails b (discardOutstanding g)
    else g
  | none => g

/-- The phases of rail `n` go from PEN high to mid level with PEN low; PWM goes to high impedance 1 µs later (R125 item 5,
R203). -/
def Gov.endPhases (g : Gov) (n : Nat) : Gov :=
  g.each (g.rail n).block (fun g p =>
    let x := g.ph p
    if x.pen then
      let g := g.setPh p { x.still .mid with pen := false, shut := 1, shutAt := g.gtime }
      if g.rd (F.PH_STAT_STATE p) = 1 ∨ g.rd (F.PH_STAT_STATE p) = 2 then g.wr (F.PH_STAT_STATE p) 0 else g
    else g)

/-- A rail coming down is off when a sample lies below 50 mV, or 1 ms after its ramp; then the next group, or Off (R125
items 5 and 6). A slice marked failed gives no sample (R45). -/
def railOff (b : Build) (n : Nat) (nV : Int) (g : Gov) : Gov :=
  if g.live ∧ n < b.rails ∧ g.mode n = mDOWN then
    let low := decide (voltCode nV < 100) && !(g.rail n).sliceFail
    match (if low then some g.gtime else (g.downEnd n).map (· + 1000000)) with
    | some t => seqProgress b ((railStop n ((g.runTo t).endPhases n)).wr (F.RAIL_STAT_DUTY n) 0)
    | none => g
  else g

/-! ## Reset, clocks and the Store stage (R32, R81, R88, R103, R476) -/

/-- The XO start delay ends and the GPLL is released (R81). -/
def xoDelayEnd (g : Gov) : Gov :=
  if g.aon ∧ g.porst = false ∧ g.gclk = false then { g with clk := { g.clk with xoWait := false } } else g

/-- The first lock: GTIME reads 0, the register port leaves reset, the Store stage begins, and REC_START takes the
head of the recorder's queue (R88, R94, R102, R453). -/
def gpllLock (g : Gov) : Gov :=
  if g.aon ∧ g.porst = false ∧ g.gclk = false ∧ g.clk.xoWait = false then
    let g := { g with gclk := true, gtime := 0 }
    let g := (g.wr F.REF_STAT_LOCK 1).setBit F.REF_STAT_REF_RDY 4
    let g := g.wr F.BRG_STAT_STAGE sSTORE
    g.ev 0x0004 0 0 0 0
  else g

end Sys2Proof.Machine
end

