-- ==== Sys2Proof/Machine/Loop.lean ====
section
/-! DEFINITION. The regulation loop (spec/06) and the phase manager's decisions at passes and boundaries (spec/07). -/

namespace Sys2Proof.Machine

/-! ## Compensator arithmetic (R158 to R161) -/

/-- One section's output for input `x`: five products, shift, rounding half up, saturation; and whether it saturated
(R158). -/
def secOut (b0 b1 b2 a1 a2 : Int) (shift : Nat) (s : Sec) (x : Int) : Int × Bool :=
  let acc := (b1 * s.x1 + b2 * s.x2 - a1 * s.y1 - a2 * s.y2 + b0 * x) * ((2 ^ (1 + shift) : Nat) : Int)
  let y := (acc + 0x8000) / 65536
  (satS 16 y, decide (y ≠ satS 16 y))

/-- Result of the cascade: output of the last enabled section, mask of saturated sections, and per section the input
and output where it is enabled. -/
structure Cascade where
  ylast : Int
  sat : Nat
  io : List (Option (Int × Int))

/-- The cascade over sections `i`, `i+1`, … of set `c` of rail `n` (R158). -/
def cascade (g : Gov) (n c : Nat) : List Sec → Nat → Int → Int → Cascade
  | [], _, _, ylast => { ylast := ylast, sat := 0, io := [] }
  | s :: r, i, x, ylast =>
    if g.secEn n c i then
      let o := secOut (sx 16 (g.rd (F.RAIL_COEF_LO_B0 n c i))) (sx 16 (g.rd (F.RAIL_COEF_LO_B1 n c i)))
        (sx 16 (g.rd (F.RAIL_COEF_LO_B2 n c i))) (sx 16 (g.rd (F.RAIL_COEF_LO_A1 n c i)))
        (sx 16 (g.rd (F.RAIL_COEF_HI_A2 n c i))) (g.rd (F.RAIL_COEF_HI_SHIFT n c i)) s x
      let k := cascade g n c r (i + 1) o.1 o.1
      { ylast := k.ylast, sat := k.sat + b2n o.2 * 2 ^ i, io := some (x, o.1) :: k.io }
    else
      let k := cascade g n c r (i + 1) x ylast
      { k with io := none :: k.io }

/-- Section state after a pass; the integrating section `last` keeps y1 and y2 where integration is held (R160). -/
def secsAfter (last : Option Nat) (held : Bool) : List Sec → List (Option (Int × Int)) → Nat → List Sec
  | s :: r, some (x, y) :: io, i =>
    (if held ∧ last = some i then { s with x2 := s.x1, x1 := x }
     else { x1 := x, x2 := s.x1, y1 := y, y2 := s.y1 }) :: secsAfter last held r io (i + 1)
  | s :: r, none :: io, i => s :: secsAfter last held r io (i + 1)
  | l, [], _ => l
  | [], _, _ => []

/-- CLOSE(Dt): every enabled section cleared but the integrating one, whose y1 and y2 take (Dt − u_ff + 1) >> 1
(R171). -/
def closeSecs (g : Gov) (n c : Nat) (last : Option Nat) (dt u : Int) : List Sec → Nat → List Sec
  | [], _ => []
  | s :: r, i =>
    let y := satS 16 ((dt - u + 1) / 2)
    (if last = some i then { x1 := 0, x2 := 0, y1 := y, y2 := y }
     else if g.secEn n c i then {} else s) :: closeSecs g n c last dt u r (i + 1)

/-- OFFSET(u_old, u_new): the integrating section's y1 and y2 lowered by (u_new − u_old + 1) >> 1 (R171). -/
def offsetSecs (last : Option Nat) (uOld uNew : Int) : List Sec → Nat → List Sec
  | [], _ => []
  | s :: r, i =>
    let d := (uNew - uOld + 1) / 2
    (if last = some i then { s with y1 := satS 16 (s.y1 - d), y2 := satS 16 (s.y2 - d) } else s)
      :: offsetSecs last uOld uNew r (i + 1)

/-! ## Feed-forward (R163, R164) -/

/-- The feed-forward term before its limits, for current `ip` and filter state `f` (R163). (DEDUCED, log 79) -/
def ffTerm (kp kd : Int) (sp sd : Nat) (ip : Nat) (f : Int) : Int :=
  let p := kp * ip * ((2 ^ sp : Nat) : Int)
  let dd := kd * ((ip : Int) * 256 - f) * ((2 ^ sd : Nat) : Int)
  (p * 256 + dd + 2 ^ 22) / 2 ^ 23

/-- The feed-forward term of rail `n`, before its limits. -/
def Gov.ffRaw (g : Gov) (n ip : Nat) (f : Int) : Int :=
  ffTerm (sx 16 (g.rd (F.RAIL_FF_KP n))) (sx 16 (g.rd (F.RAIL_FF_KD n))) (g.rd (F.RAIL_FF_SP n))
    (g.rd (F.RAIL_FF_SD n)) ip f

/-- The filter state after a pass (R163): 25 bits. -/
def ffFilter (fa ip : Nat) (f : Int) : Int := f + ((ip : Int) * 256 - f) / ((2 ^ fa : Nat) : Int)

/-- Feed-forward is active: FF_EN, CLOSED, Ready, and the rail's horizon valid (R164). -/
def Gov.ffActive (g : Gov) (n : Nat) : Bool :=
  g.flag (F.RAIL_FF_FF_EN n) && g.mode n == mCLOSED && g.stage == sREADY && g.horizonValid n

/-! ## Duty limits (R159) -/

/-- The duty from the cascade output and the feed-forward term: Dsum, Dsat and D. -/
structure Duty where
  dsum : Int
  dsat : Int
  d : Int

/-- The four steps of R159. -/
def dutyOf (ylast u : Int) (dmin dmax : Nat) : Duty :=
  let dsum := 2 * ylast + u
  let dsat := clampI 0 65535 dsum
  { dsum := dsum, dsat := dsat, d := min (max dsat dmin) dmax }

/-! ## Sticky flags (R162) -/

/-- A saturation flag at bit position `pos` of RAIL_STAT is set; a flag that was clear records RAIL_SAT with the
sample's GTIME (R162). -/
def satFlag (n : Nat) (f : Fld) (i pos t : Nat) (cond : Bool) (g : Gov) : Gov :=
  if cond then
    if bit (g.rd f) i then g
    else (g.setBit f i).ev 0x2001 n pos (bits t 0 32) (bits t 32 32)
  else g

/-! ## Adding phases (R188) -/

/-- n_min of R188. -/
def Gov.nMin (g : Gov) (n : Nat) : Nat :=
  min (g.nU n) (max (max (g.rd (F.RAIL_PSTAT_NF n)) (g.lf n (F.RAIL_LIM_N_MIN n))) 1)

/-- n_need of R188 for a summed current. -/
def Gov.nNeed (g : Gov) (n isum : Nat) : Nat :=
  let a := g.lf n (F.RAIL_SHED_IPH_ADD n)
  min (g.nU n) (max (g.nMin n) (if a = 0 then 0 else (isum + a - 1) / a))

/-- Shedding and adding are in use: SHED_EN, from GOV_READY on (R123, R188), and no CAL_PROBE (R501). -/
def Gov.shedOn (g : Gov) (n : Nat) : Bool :=
  g.lf n (F.RAIL_SHED_SHED_EN n) == 1 && g.stage == sREADY && g.brg.govReady && !g.calProbing n

/-- Adds at a pass or a sample: n_need, or every usable phase on a new limit at DMAX or a cut; with shedding off every
usable phase is in use (R188). -/
def addPhases (n isum : Nat) (emergency : Bool) (g : Gov) : Gov :=
  let old := g
  let use := g.rd (F.RAIL_PSTAT_N_USE n)
  let want := if g.shedOn n = false then g.nU n else if emergency then g.nU n else g.nNeed n isum
  if use < want then
    let g := g.setNuse n want
    (g.setRail n { g.rail n with addSeen := true, shedCnt := 0 }).phTrace old n (if emergency then 3 else 2)
  else g

/-! ## Voltage protection at a sample (R203, R204) -/

/-- Consecutive samples in the power-good window of the set-point: at 64, over-voltage is judged against it, and the
Springtail thresholds of an increase follow it, unless a decrease whose thresholds stand already is on its way (R117, R148,
R203). -/
def windowCount (n vs : Nat) (g : Gov) : Gov :=
  let r := g.rail n
  let d := (vs - r.vset) + (r.vset - vs)
  let inW := decide (d * 400 ≤ g.rd (F.RAIL_SEQ_PG_WIN n) * r.vset)
  let c := if inW then min 64 (r.winCnt + 1) else 0
  let g := g.setRail n { r with winCnt := c }
  let lower := (match r.vchg with
    | some v => decide (v.v < r.vset)
    | none => false) || (match mfind r.staged (F.RAIL_OPT_VSET n (g.rd (F.RAIL_STAT_OPT n))).key with
    | some v => decide (v < r.vset)
    | none => false)
  if c = 64 then g.setRail n { g.rail n with vov := r.vset, vthr := if lower then r.vthr else r.vset } else g

/-- Over-voltage and under-voltage counts of one sample (R203, R204); the over-voltage decided in the cycle in which the rail
has entered HICCUP wins (R208). What the entry has recorded by then stands. (DEDUCED, log 107) -/
def voltageProtect (b : Build) (n vs : Nat) (g : Gov) : Gov :=
  let r := g.rail n
  let m := g.mode n
  if g.running n ∨ m = mHICCUP ∧ r.hicAt = some g.gtime then
    let ov := if r.vov + 2 * g.lf n (F.RAIL_PROT_OV_OFS n) < vs then r.ovCnt + 1 else 0
    let uv := if (m = mCLOSED ∨ m = mOPEN) ∧ vs + 2 * g.lf n (F.RAIL_PROT_UV_OFS n) < r.vset then min 65 (r.uvCnt + 1) else 0
    let g := g.setRail n { r with ovCnt := ov, uvCnt := uv }
    let g := if uv = 64 then (g.wr (F.RAIL_PSTAT_UV n) 1).ev 0x2008 n vs r.vset 0 else g
    if 4 ≤ ov then railFault b n 1 g else g
  else g.setRail n { r with ovCnt := 0, uvCnt := 0 }

/-! ## Burst (R191 to R193) -/

/-- The one phase in use of a rail in BURST is changed by `f`. -/
def Gov.burstPhase (g : Gov) (n : Nat) (f : Phase → Phase) : Gov :=
  g.each ((g.usables n).take 1) (fun g p => g.setPh p (f (g.ph p)))

/-- A sample read in BURST at instant `tu`: it may wake the phase, which tells how long it slept, end a burst early, after
which the phase does not rise, or ask for the exit at the next boundary (R192, R193). -/
def burstSample (n vs tu : Nat) (g : Gov) : Gov :=
  let r := g.rail n
  let isum := (r.block.map (fun p => (g.ph p).last)).foldl (· + ·) 0
  let wakes := decide (r.bursting = 0) && !r.wake && decide (vs + g.lf n (F.RAIL_BURST_BLO n) < r.vset)
  let stop := decide (0 < r.bursting ∧ r.vset + g.lf n (F.RAIL_BURST_BHI n) < vs)
  let short := wakes && (match r.sleepFrom with
    | some t => decide ((tu - t) / r.perCur < g.lf n (F.RAIL_BURST_BCNT n))
    | none => false)
  let out := decide ((g.lf n (F.RAIL_BURST_BURST_OUT n) : Int) < isum)
    || decide (vs + g.lf n (F.RAIL_BURST_BEXIT n) < r.vset)
    || decide (1 < g.rd (F.RAIL_PSTAT_NF n)) || g.flag (F.RAIL_CTL_OPEN n)
  let g := g.setRail n { r with
    wake := r.wake || wakes, bursting := if stop then 0 else r.bursting,
    sleepFrom := if stop then some tu else if wakes then none else r.sleepFrom, burstExit := r.burstExit || out || short }
  if stop then g.burstPhase n (fun x => { x with next := none }) else g

/-! ## The pass (R155 to R164, R188) -/

/-- The reference in force at the start of a pass (R113, R114, R165). -/
def Gov.vrefNow (g : Gov) (n : Nat) : Nat :=
  let r := g.rail n
  if g.mode n = mCLOSED then r.vset
  else if g.ramper n ≠ n then g.trackedRef n
  else r.ramp.at g.gtime

/-- The next pass makes a CLOSE or an OFFSET (R171, R172). -/
def Gov.needsInit (g : Gov) (n : Nat) : Bool :=
  (g.rail n).close.isSome || (g.ffActive n != g.flag (F.RAIL_STAT_FF_ACT n))

/-- Both datapaths have made an initialisation in the 250 ns before instant `tu`: an initialisation there is not performed
in time (R156). (DEDUCED, log 37) -/
def Gov.initBusy (b : Build) (g : Gov) (tu : Nat) : Bool :=
  decide (2 ≤ ((List.range b.rails).filter (fun m => match (g.rail m).initAt with
    | some t => decide (t < tu + 4000 ∧ tu < t + 4000)
    | none => false)).length)

/-- Update instant j of the present period, in units of 62.5 ps (R155). -/
def Rail.instant (r : Rail) (j : Nat) : Nat := r.bnd + r.sofs + (2 * j * r.perCur + r.k) / (2 * r.k)

/-- ISUM: the sum of the latest converted currents of the rail's phases, as an unsigned field (R39, R162). -/
def Gov.isumNow (g : Gov) (n : Nat) : Nat :=
  satU 16 (((g.rail n).block.map (fun p => (g.ph p).last)).foldl (· + ·) 0)

/-- The measurements of a pass (R162): VS, ISUM, and POUT rounded to the nearest 1/8 W; the thermal attribution takes
the mean of POUT over its passes (R244). -/
def passMeas (n vs isum : Nat) (g : Gov) : Gov :=
  let w := satN 16 ((2 * vs * isum + 4000) / 8000)
  let old := mget (0, 0) g.th.pout n
  let g := { g with th := { g.th with pout := mput g.th.pout n (old.1 + w, old.2 + 1) } }
  ((g.wr (F.RAIL_MEAS_VS n) vs).wr (F.RAIL_MEAS_ISUM n) isum).wr (F.RAIL_MEAS_POUT n) w

/-- The arithmetic of the pass of update instant `tu`, on sample `vs` taken at `ts` ns: hand-overs, feed-forward, cascade,
duty, flags, state and measurements (R158 to R164, R171, R172). -/
def passCore (n vs tu ts : Nat) (g : Gov) : Gov :=
  let r := g.rail n
  let c := g.rd (F.RAIL_STAT_CSET_ACT n)
  let last := g.lastSec n c
  let vref := g.vrefNow n
  let e : Int := (vref : Int) - vs
  let act := g.ffActive n
  let was := g.flag (F.RAIL_STAT_FF_ACT n)
  let ip := g.horizonI n ((tu / 16 + 250 * g.rd (F.RAIL_FF_LEAD n)) / 250)
  let f0 : Int := if act ∧ (was = false ∨ r.close.isSome) then (ip : Int) * 256 else r.ff
  let raw := if act then g.ffRaw n ip f0 else 0
  let u := clampI (-65535) 65535 raw
  let secs0 := match r.close with
    | some dt => closeSecs g n c last dt u r.secs 0
    | none =>
      if act ∧ was = false then offsetSecs last 0 u r.secs 0
      else if act = false ∧ was then offsetSecs last r.uff 0 r.secs 0
      else r.secs
  let k := cascade g n c secs0 0 (e * 8) 0
  let d := dutyOf k.ylast u (g.rd (F.RAIL_CTL_DMIN n)) (g.rd (F.RAIL_CTL_DMAX n))
  let hi := decide ((g.rd (F.RAIL_CTL_DMAX n) : Int) < d.dsat)
  let lo := decide (d.dsat < (g.rd (F.RAIL_CTL_DMIN n) : Int))
  let held := (hi && decide (0 < e)) || (lo && decide (e < 0)) || (r.cutPass && decide (0 < e))
  let f1 := if act then ffFilter (g.rd (F.RAIL_FF_FA n)) ip f0 else f0
  let isum := g.isumNow n
  let g := g.setRail n { r with
    secs := secsAfter last held secs0 k.io 0, ff := f1, uff := if act then u else 0, close := none,
    initAt := if g.needsInit n then some tu else r.initAt,
    cutPass := false, clampPrev := hi, isums := (isum :: r.isums).take 16 }
  let g := g.wrB (F.RAIL_STAT_FF_ACT n) act
  let g := (g.wr (F.RAIL_STAT_DUTY n) d.d.toNat).wr (F.RAIL_STAT_VREF n) vref
  let g := if held then g.count (F.RAIL_MEAS_HOLDS n) 1 else g
  let g := (List.range 4).foldl (fun g i => satFlag n (F.RAIL_STAT_SAT_SEC n) i (40 + i) ts (bit k.sat i) g) g
  let g := satFlag n (F.RAIL_STAT_SAT_FF n) 0 44 ts (decide (raw ≠ u)) g
  let g := satFlag n (F.RAIL_STAT_SAT_SUM n) 0 45 ts (decide (d.dsum ≠ d.dsat)) g
  let g := satFlag n (F.RAIL_STAT_CLAMP_HI n) 0 46 ts hi g
  let g := satFlag n (F.RAIL_STAT_CLAMP_LO n) 0 47 ts lo g
  let g := passMeas n vs isum g
  -- buffer 2: the bits 23:16 hold one bit for each of the six named points (DEDUCED, log 7)
  let g := if g.rd (F.TRC_SEL_SEL 2) % 16 = n then
      g.traceAt 2 4 ts false (vs + vref * 2 ^ 16)
        (d.d.toNat + (b2n (decide (k.sat ≠ 0)) + 2 * b2n (decide (raw ≠ u)) + 4 * b2n (decide (d.dsum ≠ d.dsat))
          + 8 * b2n hi + 16 * b2n lo + 32 * b2n held) * 2 ^ 16)
        (ux 32 u) (ip % 2 ^ 16 + isum * 2 ^ 16)
    else g
  addPhases n isum ((hi && !r.clampPrev) || r.cutPass) g

/-- Start faults judged at a pass of a rail not yet good (R116). -/
def rampFaults (b : Build) (n vs vref : Nat) (g : Gov) : Gov :=
  let r := g.rail n
  if g.stage = sSEQUP ∧ r.good = false ∧ r.started then
    let vin := g.rd F.VIN_PROT_VIN
    let past := decide (65536 * (30 * vref + 16 * vin) < g.rd (F.RAIL_STAT_DUTY n) * 320 * vin)
    let high := decide (4 * g.rd (F.RAIL_SEQ_PG_WIN n) * r.vset < (vs - vref) * 400)
    let r := { r with
      overDuty := if past then r.overDuty + 1 else 0, overVolt := if high then r.overVolt + 1 else 0 }
    let g := g.setRail n r
    if 8 ≤ r.overDuty ∨ 8 ≤ r.overVolt then startFault b n 5 g else g
  else g

/-- The transfer to CLOSED, at the first pass whose reference is the set-point, or for a tracking rail when its source's ramp
ends; and the power-good count of the samples after the ramp, which ends the start, or a retry (R117, R172, R197). -/
def rampProgress (b : Build) (n vs vref : Nat) (g : Gov) : Gov :=
  let r := g.rail n
  let ended := match g.rampEnds n with
    | some t => decide (t ≤ g.gtime)
    | none => false
  if r.started ∧ (g.mode n = mRAMP ∨ g.mode n = mCLOSED) ∧ (r.good = false ∨ r.retry) then
    let there := if g.ramper n = n then vref == r.vset else ended
    let g := if g.mode n = mRAMP ∧ r.retry = false ∧ there then
        ((g.setMode n mCLOSED).setRail n { g.rail n with steadyAt := some g.gtime }).phTrace g n 7
      else g
    if ended then
      let d := (vs - r.vset) + (r.vset - vs)
      let c := if d * 400 ≤ g.rd (F.RAIL_SEQ_PG_WIN n) * r.vset then r.goodCnt + 1 else 0
      let g := g.setRail n { g.rail n with goodCnt := c }
      if c < 64 then g
      else if r.retry then
        let old := g
        let g := g.setRail n { g.rail n with
          retry := false, retryFail := false, good := true, steadyAt := some g.gtime, shedCnt := 0 }
        let g := (g.setMode n mCLOSED).setNuse n (g.nU n)
        let g := (g.updIlim n).phTrace old n 7
        let g := g.each (diesOfRail b g n) (fun g d => (g.enmaskRestore b d).holdEnds d)
        setpointRefresh b n g
      else railGood b n g
    else g
  else g

/-- A probe pulse runs on rail `n`. -/
def Gov.pulsing (g : Gov) (n : Nat) : Bool :=
  match mfind g.probes n with
  | some p => p.inPulse
  | none => false

/-- What sample `vs`, taken at `ts` ns, brings rail `n` at update instant `tu` where no sample is held: the watch over a
burst, the held duty of OPEN, the opening or the closing of the loop, or a pass. A pass that would make an initialisation
while none can be made is not run, and the duty stays (R156, R173, R178, R191). -/
def passAt (b : Build) (n vs tu ts : Nat) (g : Gov) : Gov :=
  let m := g.mode n
  if m = mBURST then burstSample n vs tu g
  else if m = mOPEN ∧ (g.flag (F.RAIL_CTL_OPEN n) ∨ g.pulsing n) then addPhases n (g.isumNow n) (g.rail n).cutPass g
  else if m = mCLOSED ∧ g.flag (F.RAIL_CTL_OPEN n) ∧ g.stage = sREADY then ((g.ffOff n).setMode n mOPEN).phTrace g n 7
  else if (g.rail n).switching = false ∧ (g.rail n).vpre = 0 then g
  else
    let closed := if m = mOPEN then
        ((g.setRail n { g.rail n with close := some (g.rd (F.RAIL_STAT_DUTY n) : Int) }).setMode n mCLOSED).phTrace g n 7
      else g
    if closed.needsInit n && g.initBusy b tu then g
    else
      let vref := closed.vrefNow n
      let g := rampFaults b n vs vref (passCore n vs tu ts closed)
      let g := if g.mode n = mRAMP ∨ g.mode n = mCLOSED then rampProgress b n vs vref g else g
      -- a pre-biased tracking rail starts when its reference passes its measured voltage (R114)
      if g.stage = sSEQUP then startTrackers b n g else g

/-- A sample within 15.625 ns of its update instant; one further away is missing (R42, R155). -/
def sampleNear (x : Sample) : Bool := decide (-250 ≤ x.ofs) && decide (x.ofs ≤ 250)

/-- One update instant of rail `n`, with the converter sample nearest it, or none (R42, R155, R162). The instant is the next one of
the present period; where every instant of the period is past, nothing happens before the next boundary. (DEDUCED, log 27)
(DEDUCED, log 35) (DEDUCED, log 36) (DESIGN CHOICE, log 37) -/
def loopPass (b : Build) (n : Nat) (sample : Option Sample) (g : Gov) : Gov :=
  let r := g.rail n
  if g.live ∧ n < b.rails ∧ g.railUp n ∧ 0 < r.perCur ∧ 0 < r.k ∧ r.jIdx < r.k ∧ r.sliceFail = false then
    let tu := r.instant r.jIdx
    let g := g.runTo ((tu + 15) / 16)
    let held := r.hold
    let g := (g.setRail n { r with jIdx := r.jIdx + 1, hold := false }).settle n tu
    -- the sample held for a set switch (R169)
    let g := if held ∧ (g.rail n).holdRamp then
        ((g.setRail n { g.rail n with holdRamp := false }).setMode n mRAMP).phTrace g n 7
      else g
    match sample.filter sampleNear with
    | none => g.count (F.RAIL_MEAS_MISS n) 1
    | some x =>
      let vs := voltCode x.nV
      let g := voltageProtect b n vs g
      let m := g.mode n
      if m = mOFF ∨ m = mHICCUP ∨ m = mFAULT then stageProgress b g
      else
        let g := if g.running n then windowCount n vs g else g
        if held then g else stageProgress b (passAt b n vs tu (((tu : Int) + x.ofs).toNat / 16) g)
  else g

/-- A rail not good within PG_TO µs of the end of its ramp, or of its source's: a start fault, or a retry that fails at the
next boundary (R116, R197, Table 7.2). -/
def pgTimeout (b : Build) (n : Nat) (g : Gov) : Gov :=
  let r := g.rail n
  match g.rampEnds n with
  | some t =>
    if g.live ∧ n < b.rails then
      let g' := g.runTo (t + 1000 * g.rd (F.RAIL_SEQ_PG_TO n))
      if r.retry ∧ g.mode n = mRAMP then g'.setRail n { r with retryFail := true }
      else if g.stage = sSEQUP ∧ g.rd (F.RAIL_SEQ_EN n) = 1 ∧ r.good = false then startFault b n 6 g'
      else g
    else g
  | none => g

/-! ## The period boundary (R153, R176, R180 to R197) -/

/-- Limited periods are counted; HICCUP_N of them outside grace end in HICCUP, a failed retry included (R194, R197). -/
def hiccupCount (b : Build) (n : Nat) (g : Gov) : Gov :=
  let r := g.rail n
  let lim := r.limited
  let g := g.setRail n { r with limited := false }
  if g.flag (F.RAIL_PSTAT_GRACE n) then g.wr (F.RAIL_PSTAT_HC n) 0
  else
    let hc := if lim then min 255 (g.rd (F.RAIL_PSTAT_HC n) + 1) else 0
    let g := g.wr (F.RAIL_PSTAT_HC n) hc
    if g.lf n (F.RAIL_PROT_HICCUP_N n) ≤ hc ∧ hc ≠ 0 ∧ (g.running n ∨ r.retry) then enterHiccup b n g else g

/-- A retry starts at the rail's boundary, from measured voltage `v` to the set-point in force (R197). -/
def retryStart (n v : Nat) (g : Gov) : Gov :=
  let old := g
  let r := g.rail n
  let g := g.setRail n { r with
    vpre := v, retry := true, retryV := none, good := false, goodCnt := 0, started := true,
    close := some (if v = 0 then 0 else (dutyPre (g.rd (F.RAIL_CTL_DMAX n)) v (g.rd F.VIN_PROT_VIN) : Int)),
    ramp := { t0 := g.gtime, v0 := v, v1 := r.vset, dur := slopeTime (g.rd (F.RAIL_SEQ_RAMP n)) v r.vset r.vset } }
  let g := (raisePen n g).setMode n mRAMP
  (g.wr (F.RAIL_PSTAT_HC n) 0).phTrace old n 6

/-- What waits for the rail's boundary in a hiccup: the end of a failed retry, or a retry, whose PEN rises only with VIN in
its window for 1 ms (R108, Table 7.2). -/
def retryBoundary (b : Build) (n : Nat) (g : Gov) : Gov :=
  let r := g.rail n
  if r.retry ∧ r.retryFail then enterHiccup b n g
  else match r.retryV with
    | some v => if g.mode n = mHICCUP ∧ g.brg.vinSettled then retryStart n v g else g
    | none => g

/-- Shedding at a boundary (R188, R190). -/
def shedAt (n : Nat) (g : Gov) : Gov :=
  let r := g.rail n
  if g.shedOn n ∧ g.mode n = mCLOSED then
    let use := g.rd (F.RAIL_PSTAT_N_USE n)
    let s := r.isums.length * g.lf n (F.RAIL_SHED_IPH_SHED n)
    let nshed := max (g.nMin n) (if s = 0 then g.nU n else (r.isums.foldl (· + ·) 0 + s - 1) / s)
    let cnt := if r.addSeen then 0 else if nshed < use then r.shedCnt + 1 else 0
    let g := g.setRail n { r with shedCnt := cnt, addSeen := false }
    if g.lf n (F.RAIL_SHED_SHED_DWELL n) ≤ cnt ∧ 0 < cnt ∧ 1 < use then
      let old := g
      let us := g.usables n
      let p := us.getD (use - 1) 0
      let g := g.setPh p { g.ph p with shedAt := some ((g.rail n).bnd + (g.ph p).offs) }
      let g := (g.wr (F.RAIL_PSTAT_N_USE n) (use - 1)).setRail n { g.rail n with shedCnt := 0 }
      g.phTrace old n 1
    else g
  else g.setRail n { r with shedCnt := 0, addSeen := false }

/-- Entry to BURST at a boundary: BEN and SHED_EN are looked at there, the other conditions have held for SHED_DWELL
boundaries (R191). -/
def burstEntry (n : Nat) (g : Gov) : Gov :=
  let r := g.rail n
  let ok := g.mode n == mCLOSED && g.stage == sREADY
    && decide (g.rd (F.RAIL_PSTAT_N_USE n) = 1 ∧ g.rd (F.RAIL_PSTAT_NF n) ≤ 1)
    && decide (r.isums.foldl (· + ·) 0 < r.isums.length * g.lf n (F.RAIL_BURST_BURST_IN n))
    && decide (r.csetReq = none ∧ r.commitAt = none) && !g.flag (F.RAIL_CTL_OPEN n) && !r.hold
  let cnt := if ok then min 256 (r.burstCnt + 1) else 0
  let g := g.setRail n { r with burstCnt := cnt }
  if ok ∧ g.lf n (F.RAIL_SHED_SHED_DWELL n) ≤ cnt ∧ g.lf n (F.RAIL_BURST_BEN n) = 1 ∧ g.shedOn n then
    let old := g
    let g := g.setRail n { g.rail n with
      burstCnt := 0, db := g.rd (F.RAIL_STAT_DUTY n), bursting := 0, wake := false, sleepFrom := none, burstExit := false }
    let g := ((g.ffOff n).setMode n mBURST).burstPhase n (fun x => x.still .mid)
    g.phTrace old n 5
  else g

/-- A boundary of a rail in BURST: the exit, a waking burst, or the running of a burst or sleep (R192, R193). -/
def burstBoundary (n : Nat) (g : Gov) : Gov :=
  let r := g.rail n
  if r.burstExit ∨ 1 < g.rd (F.RAIL_PSTAT_NF n) ∨ r.csetReq.isSome ∨ r.commitAt.isSome ∨ g.flag (F.RAIL_CTL_OPEN n) then
    let old := g
    let g := g.setRail n { r with
      bursting := 0, wake := false, sleepFrom := none, burstExit := false, close := some (r.db : Int), burstCnt := 0,
      shedCnt := 0 }
    let g := (g.setMode n mCLOSED).wr (F.RAIL_STAT_DUTY n) r.db
    let g := g.setNuse n (g.nNeed n (g.isumNow n))
    g.phTrace old n 5
  else if r.wake then
    let d := min (g.rd (F.RAIL_CTL_DMAX n)) (r.db + r.db / 4)
    let g := (g.setRail n { r with bursting := g.lf n (F.RAIL_BURST_BCNT n), wake := false, sleepFrom := none }).wr
      (F.RAIL_STAT_DUTY n) d
    g.burstPhase n (fun x => { x with sw := true })
  else if 1 < r.bursting then g.setRail n { r with bursting := r.bursting - 1 }
  else
    let g := g.setRail n { r with bursting := 0, sleepFrom := if r.bursting = 1 then some r.bnd else r.sleepFrom }
    g.burstPhase n (fun x => x.still .mid)

/-- The period in force: PER, the synchronised period, or its return to PER over 64 periods (R174, R175). -/
def Rail.nextPer (r : Rail) : Nat × Nat :=
  if 0 < r.slewLeft then
    let left := r.slewLeft - 1
    let d : Int := (r.per : Int) - r.slewFrom
    (((r.slewFrom : Int) + d * (64 - left : Nat) / 64).toNat, left)
  else (r.perCur, 0)

/-- The number of phases in use after a boundary: within its bounds where shedding is on, every usable phase where it is
off; one in BURST (R188, R193, R198, R208). -/
def Gov.boundaryUse (g : Gov) (n : Nat) : Nat :=
  let use := min (g.nU n) (g.rd (F.RAIL_PSTAT_N_USE n))
  if g.mode n = mBURST then use else if g.shedOn n then max (g.nMin n) use else g.nU n

/-- Changes that wait for the rail's boundary: limits, a burst's end, a staged commit in the order of R176, a set switch, a
set-point (R166, R169, R178, R193, R209). -/
def boundaryChanges (n : Nat) (g : Gov) : Gov :=
  let g := g.takeLimits n
  let g := if g.mode n = mBURST then burstBoundary n g else g
  let g := match (g.rail n).commitAt with
    | some t => if t ≤ g.gtime then (stagedApply n g).takeLimits n else g
    | none => g
  let g := match (g.rail n).csetReq with
    | some c => if g.mode n = mOFF ∨ g.mode n = mFAULT ∨ g.mode n = mDOWN then g.setRail n { g.rail n with csetReq := none }
      else switchCset n c g
    | none => g
  match (g.rail n).vchg with
  | some c => if c.atT ≤ g.gtime ∧ g.takesVref n then takeSetpoint n c.opt c.v g else g
  | none => g

/-- What a rail decides at a boundary, the timer itself apart: changes, the limit and its grace, hiccup, shedding, burst, the
phases in use and their starts, and a power-down that waited for the end of BURST (R180, R181, R188 to R197, Table 7.2). -/
def boundaryWork (b : Build) (n : Nat) (g : Gov) : Gov :=
  let g := (boundaryChanges n g).updIlim n
  let g := retryBoundary b n (hiccupCount b n g)
  let g := burstEntry n (shedAt n g)
  let m := g.mode n
  if m = mOFF ∨ m = mHICCUP ∨ m = mFAULT then g
  else
    let g := ((g.setNuse n (g.boundaryUse n)).phTrace g n (if g.nU n < g.rd (F.RAIL_PSTAT_N_USE n) then 4 else 2)).respace n
    if (g.rail n).downPend ∧ m ≠ mBURST then railDown n g else g

/-- A rail's period timer marks a boundary, from its start until it is off, hiccup included (R153, R176). -/
def periodBoundary (b : Build) (n : Nat) (g : Gov) : Gov :=
  let r := g.rail n
  if g.live ∧ n < b.rails ∧ 0 < r.perCur ∧ g.railUp n then
    let tb := r.bnd + r.perCur
    let g := g.runTo ((tb + 15) / 16)
    let np := r.nextPer
    let g := g.setRail n { r with bnd := tb, perCur := np.1, slewLeft := np.2, jIdx := 0 }
    stageProgress b (boundaryWork b n (g.settle n tb))
  else g

/-! ## IMON, imbalance, open phases (R183 to R187, R199, R200) -/

/-- One step of the 16-bit LFSR (R183). -/
def lfsrStep (s : Nat) : Nat :=
  let x := b2n (xor (xor (bit s 15) (bit s 13)) (xor (bit s 12) (bit s 10)))
  (2 * s + x) % 65536

/-- Converter `c` of slice `n`; its LFSR starts at each deassertion of GOV_PORST_N at 1 + 256n + 4096c (R183). -/
def Gov.conv (g : Gov) (n c : Nat) : Conv := mget { lfsr := 1 + 256 * n + 4096 * c } g.convs (2 * n + c)

/-- The imbalance test at a window end of an ACTIVE phase (R187). -/
def imbalance (n p : Nat) (ip ir : Int) (g : Gov) : Gov :=
  let x := g.ph p
  let pct : Int := g.lf n (F.RAIL_IMB_IMB_PCT n)
  let dwell := g.lf n (F.RAIL_IMB_IMB_DWELL n)
  let imin : Int := g.lf n (F.RAIL_IMB_IMB_MIN n)
  let dev := (if ip < ir then ir - ip else ip - ir) * 64
  let out := decide (imin ≤ ir ∧ pct * ir < dev)
  let calm := decide (ir < imin ∨ 4 * dev ≤ 3 * pct * ir)
  let x := { x with imbOut := if out then x.imbOut + 1 else 0, imbIn := if calm then x.imbIn + 1 else 0 }
  let g := g.setPh p x
  if g.flag (F.PH_STAT_IMB p) then
    if dwell ≤ x.imbIn ∧ calm then (g.wr (F.PH_STAT_IMB p) 0).setPh p { x with imbAt := none, imbIn := 0 } else g
  else if dwell ≤ x.imbOut ∧ out then
    let g := ((g.wr (F.PH_STAT_IMB p) 1).wr (F.PH_STAT_IMB_SEEN p) 1).count (F.PH_STAT_IMBCNT p) 1
    (g.setPh p { x with imbAt := some g.gtime, imbOut := 0 }).ev 0x2004 p (ux 32 ip) (ux 32 ir) 0
  else g

/-- The rail mean per phase: the latest window means of the ACTIVE phases over n_use, rounded half up (R184). -/
def Gov.railMean (g : Gov) (n : Nat) : Int :=
  let act := (g.rail n).block.filter (fun p => g.rd (F.PH_STAT_STATE p) == 1)
  let u := g.rd (F.RAIL_PSTAT_N_USE n)
  if u = 0 then 0 else rndUp ((act.map (fun p => (g.ph p).mean)).foldl (· + ·) 0) u

/-- Phase `p` of rail `n` is retired with a cause: 1 PFAULT, 2 OPEN, 3 SENSE; at once for PFAULT, from its next
period start otherwise. A rail left with no usable phase has a start fault until it is good, and enters FAULT after
(R116, R201). (DEDUCED, log 66) -/
def retirePhase (b : Build) (n p c : Nat) (g : Gov) : Gov :=
  let g := g.settleNow n
  let x := g.ph p
  let r := g.rail n
  let ir := g.railMean n
  let start := r.bnd + x.offs
  let start := if start ≤ 16 * g.gtime then start + r.perCur else start
  let x := if c = 1 then { x.still .hiZ with usable := false, pen := false, shut := 0 }
    else { x with usable := false, shedAt := none, retireAt := some start }
  let g := ((g.setPh p x).wr (F.PH_STAT_STATE p) 3).wr (F.PH_STAT_CAUSE p) c
  let g := (g.ev 0x2005 (p + c * 2 ^ 8) (g.rd (F.PH_STAT_IMEAN p)) (ux 32 ir) 0).svc 0
  if g.nU n = 0 ∧ g.mode n ≠ mOFF then
    let g := (g.wr (F.RAIL_PSTAT_N_USABLE n) 0).wr (F.RAIL_PSTAT_N_USE n) 0
    stageProgress b (if g.stage = sSEQUP ∧ r.good = false then startFault b n 4 g else railFault b n 3 g)
  else g

/-- The end of a window of 16 conversions of phase `p` of rail `n`. The means always stand; a window that falls partly
while the phase is IDLE, or in which its trims were written, takes no part in imbalance and open detection (R184, R187, R199,
R200, R497). -/
def windowEnd (b : Build) (n p : Nat) (g : Gov) : Gov :=
  let x := g.ph p
  let st := g.rd (F.PH_STAT_STATE p)
  let m : Int := satU 16 (rndUp (x.win.foldl (· + ·) 0) 16)
  -- 0.06 V and 1.14 V against k × 1.171875 mV
  let outR := x.raw.all (fun c => decide (c * 1171875 < 60000000 ∨ 1140000000 < c * 1171875))
  let same := x.raw.all (fun c => c == x.raw.headD 0)
  let g := g.setPh p { x with win := [], raw := [], spoiled := false, mean := m, openCnt := 0 }
  let g := g.wr (F.PH_STAT_IMEAN p) m.toNat
  if (st = 1 ∨ st = 2) ∧ (outR ∨ st = 1 ∧ same) then retirePhase b n p 3 g
  else if st = 1 ∧ x.spoiled = false then
    let ir := g.railMean n
    let openNow := decide ((g.lf n (F.RAIL_IMB_OPEN_MIN n) : Int) ≤ ir ∧
      m * 16 < (g.lf n (F.RAIL_IMB_OPEN_FRAC n) : Int) * ir)
    let oc := if openNow then x.openCnt + 1 else 0
    let g := imbalance n p m ir g
    let g := g.setPh p { g.ph p with openCnt := oc }
    if 2 ≤ oc then retirePhase b n p 2 g else g
  else g

/-- Converter `c` of slice `n` converts its next channel, with `nV` at the pin: its channels are alternate phases of
the rail's block in ascending order, and each round begins with a wait chosen by the LFSR (R39, R43, R183, R184). -/
def imonConversion (b : Build) (n c : Nat) (nV : Int) (g : Gov) : Gov :=
  let r := g.rail n
  let chans := r.block.filter (fun p => (p - r.first) % 2 == c)
  if g.live ∧ n < b.rails ∧ c < 2 ∧ chans ≠ [] ∧ r.sliceFail = false then
    let cv := g.conv n c
    let pos := if cv.pos < chans.length then cv.pos else 0
    let l := if pos = 0 then lfsrStep cv.lfsr else cv.lfsr
    let cv' : Conv := { lfsr := l, wait := if pos = 0 then l % 8 else cv.wait,
                        pos := if pos + 1 < chans.length then pos + 1 else 0 }
    let g := { g with convs := mput g.convs (2 * n + c) cv' }
    let p := chans.getD pos 0
    let x := g.ph p
    if x.pen then
      let code := imonCode nV
      let i := imonCurrent code (g.rd (F.CAL_IMON_GAIN p)) (g.rd (F.CAL_IMON_OFS p))
      let g := g.setPh p { x with last := i, win := x.win ++ [i], raw := x.raw ++ [code] }
      if (g.ph p).win.length = 16 then windowEnd b n p g else g
    else g.setPh p { x with last := 0, win := [], raw := [], openCnt := 0 }
  else g

/-- IMB has stayed set for 1 s (R187). -/
def imbTimeout (p : Nat) (g : Gov) : Gov :=
  match (g.ph p).imbAt with
  | some t => if g.live ∧ g.flag (F.PH_STAT_IMB p) then (g.runTo (t + 1000000000)).svc 2 else g
  | none => g

/-- The comparator threshold of rail `n` at the pin, nV: 0.6 V + 4 mV/A × ILIM_eff, quantised downward to 2 mV
(R185). -/
def Gov.limThreshold (g : Gov) (n : Nat) : Int := 600000000 + (g.ilimEff n / 8 : Nat) * 2000000

/-- The IMON of phase `p` is at `nV`, `age` ns after its present pulse rose, or its next one where PWM is low: a crossing
outside blanking, while the pulse is high, cuts it, and the phase does not rise again in that period of its own (R154 item 4,
R185). -/
def limitCut (b : Build) (p age : Nat) (nV : Int) (g : Gov) : Gov :=
  match railOf b g p with
  | some n =>
    let now := g.phaseAt n p (16 * g.gtime)
    match if now.pwm = .high then some now.rise else now.next with
    | some s =>
      let tu := s + 16 * age
      let x := g.phaseAt n p tu
      if g.live ∧ x.pen ∧ x.pwm = .high ∧ x.rise = s ∧ 24 ≤ age ∧ g.limThreshold n < nV then
        let g := (g.runTo ((tu + 15) / 16)).settle n tu
        let g := g.setPh p { g.ph p with pwm := .low }
        let g := (g.count (F.PH_STAT_CUTS p) 1).wr (F.PH_STAT_LIM_SEEN p) 1
        let g := g.wr (F.RAIL_PSTAT_LIM_SEEN n) 1
        let g := g.setRail n { g.rail n with
          cutPass := true, limited := true, burstExit := (g.rail n).burstExit || (g.mode n == mBURST) }
        { g with recr := { g.recr with limitedUs := true } }
      else g
    | none => g
  | none => g

/-! ## Shutdown delays, retry, grace, fault inputs -/

/-- Phase `p` with its shutdown delays as they stand: a phase retired at a period start has them from that start (R201). -/
def Gov.shutting (g : Gov) (p : Nat) : Phase :=
  let x := g.ph p
  match x.retireAt with
  | some t => { x.still .mid with shut := 2, shutAt := (t + 15) / 16 }
  | none => x

/-- One of the 1 µs delays of phase `p` after mid level expires: PEN falls, then PWM goes to high impedance (R196,
R201, R203). -/
def phaseShutdown (b : Build) (p : Nat) (g : Gov) : Gov :=
  let x := g.shutting p
  if g.live ∧ p < b.phases ∧ x.shut ≠ 0 then
    let g := g.runTo (x.shutAt + 1000)
    if x.shut = 2 then
      let g := g.setPh p { x with pen := false, shut := 1, shutAt := g.gtime }
      let st := g.rd (F.PH_STAT_STATE p)
      let g := if st = 1 ∨ st = 2 then g.wr (F.PH_STAT_STATE p) 0 else g
      match railOf b g p with
      | some n => if g.mode n = mHICCUP ∧ (g.rail n).penFell = none ∧ (g.rail n).retryV = none then
          g.setRail n { g.rail n with penFell := some g.gtime } else g
      | none => g
    else g.setPh p { x with pwm := .hiZ, shut := 0 }
  else g

/-- HICCUP_OFF has elapsed: the rail retries at its next boundary from the voltage now measured, which is pre-biased above
50 mV (R107, R113, R197, Table 7.2). A slice marked failed measures nothing (R45). -/
def hiccupRetry (b : Build) (n : Nat) (nV : Int) (g : Gov) : Gov :=
  match (g.rail n).penFell with
  | some t =>
    if g.live ∧ n < b.rails ∧ g.mode n = mHICCUP ∧ (g.rail n).sliceFail = false then
      let g := g.runTo (t + 1000 * g.lf n (F.RAIL_PROT_HICCUP_OFF n))
      let v := voltCode nV
      g.setRail n { g.rail n with penFell := none, retryV := some (if 100 < v then v else 0) }
    else g
  | none => g

/-- After 100 ms in CLOSED, OPEN or BURST without a hiccup, HR returns to 0 (R197). -/
def hrReset (b : Build) (n : Nat) (g : Gov) : Gov :=
  match (g.rail n).steadyAt with
  | some t => if g.live ∧ n < b.rails ∧ g.running n then (g.runTo (t + 100000000)).wr (F.RAIL_PSTAT_HR n) 0 else g
  | none => g

/-- Grace expires and HC counts again (R195). -/
def graceEnd (b : Build) (n : Nat) (g : Gov) : Gov :=
  match (g.rail n).graceAt with
  | some t =>
    if g.live ∧ n < b.rails then
      let g := g.runTo (t + 1000 * g.lf n (F.RAIL_LIM_GRACE n))
      (g.wr (F.RAIL_PSTAT_GRACE n) 0).setRail n { g.rail n with graceAt := none }
    else g
  | none => g

/-- A low pulse of `ns` ns on PFAULT_N is recognised: from 40 ns always, below 20 ns never; between the two the spec leaves
it open (R40). (DESIGN CHOICE, log 99) -/
def Gov.faultSeen (g : Gov) (ns : Nat) : Bool := decide (40 ≤ ns) || decide (20 ≤ ns) && Config.shortFaultSeen g.fresh

/-- PFAULT_N is low for `ns` ns on phase `p`: where that is recognised (R40) with PEN high, the phase is shut off and retired
(R198). -/
def pfaultRecognised (b : Build) (p ns : Nat) (g : Gov) : Gov :=
  let seen := g.faultSeen ns
  let g := if 20 ≤ ns ∧ ns < 40 then g.nextFresh else g
  if g.live ∧ p < b.phases ∧ seen then
    let g := g.wr (F.PH_STAT_PFLT p) 1
    if (g.ph p).pen then
      match railOf b g p with
      | some n => retirePhase b n p 1 g
      | none => g
    else g
  else g

/-- PFAULT_N of a phase with PEN low changes level: reported only (R40). -/
def pfaultLevel (b : Build) (p : Nat) (low : Bool) (g : Gov) : Gov :=
  if g.live ∧ p < b.phases ∧ (g.ph p).pen = false then g.wrB (F.PH_STAT_PFLT p) low else g

/-- A slice link delivers no valid frame for 1 µs: the slice stays failed, its rail faults where it has started and is not
off, and with slice 0 VIN is lost at once (R45, R202). -/
def sliceFail (b : Build) (n : Nat) (g : Gov) : Gov :=
  if g.live ∧ n < b.rails ∧ (g.rail n).sliceFail = false then
    let g := g.setRail n { g.rail n with sliceFail := true }
    let g := if g.railUp n then
        (railFault b n 2 g).each (g.rail n).block (fun g p => g.wr (F.PH_STAT_CAUSE p) 4) else g
    let g := if n = 0 then
        vinFault b { g with
          brg := { g.brg with
          vinIn := none, vinSettled := false, vinOutSince := some (g.brg.vinOutSince.getD g.gtime) } }
      else g
    stageProgress b g
  else g

/-- After an over-voltage a sample lies below 50 mV, or 1 ms has passed: the phases go to mid level, PEN falls, and PWM goes
to high impedance 1 µs later (R203). A slice marked failed gives no sample (R45). -/
def ovClampEnd (b : Build) (n : Nat) (nV : Int) (g : Gov) : Gov :=
  match (g.rail n).clampAt with
  | some t =>
    if g.live ∧ n < b.rails then
      let g := if voltCode nV < 100 ∧ (g.rail n).sliceFail = false then g else g.runTo (t + 1000000)
      (g.setRail n { g.rail n with clampAt := none }).endPhases n
    else g
  | none => g

/-! ## PWM_SYNC (R174, R175) -/

/-- The interval `iv` ns of PWM_SYNC edges lies within 5 % of the expected one, PER / 2^SYNC_DIV (R174). -/
def Gov.syncGood (g : Gov) (n iv : Nat) : Bool :=
  let per := (g.rail n).per
  let x := 1600 * iv * 2 ^ g.rd (F.RAIL_CTL_SYNC_DIV n)
  decide (95 * per ≤ x ∧ x ≤ 105 * per)

/-- 1.5 expected intervals, in ns (R175). -/
def Gov.syncTimeout (g : Gov) (n : Nat) : Nat :=
  let d := 32 * 2 ^ g.rd (F.RAIL_CTL_SYNC_DIV n)
  (3 * (g.rail n).per + d - 1) / d

/-- The sync of rail `n` is lost: flags, event, and the return to PER over 64 periods (R175). -/
def loseSync (n : Nat) (g : Gov) : Gov :=
  let r := g.rail n
  if g.flag (F.RAIL_STAT_SYNC_LOCK n) ∨ 16 ≤ r.syncGood then
    let g := (g.wr (F.RAIL_STAT_SYNC_LOCK n) 0).wr (F.RAIL_STAT_SYNC_LOST n) 1
    (g.setRail n { r with syncGood := 0, syncIdx := 0, slewLeft := 64, slewFrom := r.perCur }).ev 0x2003 n r.syncInt 0 0
  else g.setRail n { r with syncGood := 0, syncIdx := 0 }

/-- A rising edge of PWM_SYNC at the present GTIME as rail `n` sees it (R174). -/
def syncEdgeRail (n : Nat) (g : Gov) : Gov :=
  let r := g.rail n
  if g.flag (F.RAIL_CTL_SYNC_EN n) ∧ r.started ∧ 0 < r.per then
    match r.syncEdge with
    | none => g.setRail n { r with syncEdge := some g.gtime, syncGood := 0, syncIdx := 0 }
    | some t0 =>
      let iv := g.gtime - t0
      if g.syncGood n iv then
        let div := 2 ^ g.rd (F.RAIL_CTL_SYNC_DIV n)
        let good := min 16 (r.syncGood + 1)
        let idx := (r.syncIdx + 1) % div
        let g := g.setRail n { r with
          syncEdge := some g.gtime, syncGood := good, syncIdx := idx, syncInt := iv,
          perCur := if 16 ≤ good then iv * 16 * div else r.perCur, slewLeft := if 16 ≤ good then 0 else r.slewLeft }
        if 16 ≤ good ∧ idx = 0 then
          -- the boundary moves toward this edge plus 16 ns, by at most PER / 256, or follows it once locked
          let target := 16 * (g.gtime + 16)
          let r := g.rail n
          let nxt := r.bnd
          let diff : Int := (target : Int) - nxt
          let per : Int := r.perCur
          let diff := (diff + per / 2) % per - per / 2
          let lock := g.flag (F.RAIL_STAT_SYNC_LOCK n)
          let step := if lock then diff else clampI (-(r.per / 256 : Nat)) (r.per / 256 : Nat) diff
          let g := g.setRail n { r with bnd := ((nxt : Int) + step).toNat }
          if -16 ≤ diff - step ∧ diff - step ≤ 16 then g.wr (F.RAIL_STAT_SYNC_LOCK n) 1 else g
        else g
      else
        let g := loseSync n g
        g.setRail n { g.rail n with syncEdge := some g.gtime }
  else g

/-- A rising edge of PWM_SYNC, `ns` after the one before it (R70, R174). -/
def pwmSyncEdge (b : Build) (ns : Nat) (g : Gov) : Gov :=
  if g.live then
    let g := g.runTo (g.gtime + ns)
    g.each (List.range b.rails) (fun g n => syncEdgeRail n g)
  else g

/-- No rising edge within 1.5 expected intervals (R175). -/
def syncLost (b : Build) (n : Nat) (g : Gov) : Gov :=
  match (g.rail n).syncEdge with
  | some t =>
    if g.live ∧ n < b.rails ∧ g.flag (F.RAIL_CTL_SYNC_EN n) then
      let g := loseSync n (g.runTo (t + g.syncTimeout n))
      g.setRail n { g.rail n with syncEdge := none }
    else g
  | none => g

/-! ## VSEL and rail writes -/

/-- All three VSEL bits have held one value for 32 RCLK cycles: the code is taken, before the first GPLL lock too, since
RCLK runs from the XO (R69); from the Ready stage it reaches every rail (R166). -/
def vselValid (b : Build) (code : Nat) (g : Gov) : Gov :=
  if g.aon ∧ g.porst = false then
    let g := { g with clk := { g.clk with vsel := code % 8 } }
    g.each (List.range b.rails) (fun g n => setpointRefresh b n g)
  else g

end Sys2Proof.Machine
end

