-- ==== Sys2Proof/Machine/Probe.lean ====
section
/-! DEFINITION. The load probe of bring-up and of CAL_PROBE (R119 to R121, R417, R501). -/

namespace Sys2Proof.Machine

/-- The rail the bring-up probe takes next: the lowest enabled rail not yet probed (R119). -/
def nextProbe (b : Build) (g : Gov) : Option Nat := (enabledRails b g).find? (fun n => !(g.rail n).probed)

/-- A repetition starts on rail `n`: the reference sums are taken, the loop opens holding D0, and the first pulse duty
is applied; the second follows 2 µs later (R119 items 1 to 3). `v0` and `i0` are the sums of the 32 voltage codes and of the 32 summed currents of the
microsecond before the pulse. (DEDUCED, log 38) -/
def probeRepStart (b : Build) (n : Nat) (v0 i0 : Int) (g : Gov) : Gov :=
  let p? : Option Probe := match mfind g.probes n with
    | some p => some p
    | none => if g.stage = sPROBE ∧ nextProbe b g = some n ∧ g.probes = [] then some { rail := n, t0 := g.gtime } else none
  match p? with
  | some p =>
    if g.live ∧ n < b.rails ∧ p.inPulse = false ∧ p.reps < 8 ∧ g.mode n = mCLOSED ∧ (g.rail n).hold = false then
      let g := g.runTo (p.t0 + 128000 * p.reps)
      let g := g.settleNow n
      let d0 := g.rd (F.RAIL_STAT_DUTY n)
      let s : Int := if p.reps % 2 = 0 then 1 else -1
      let dd : Int := g.rd (F.RAIL_PLAUS_PROBE_DD n)
      let g := { g with
        probes := mput g.probes n { p with
          inPulse := true, v0 := v0, i0 := i0, d0 := d0, tp := g.gtime, d2 := (clampI 0 65535 (d0 - s * dd)).toNat } }
      let g := ((g.ffOff n).setMode n mOPEN).wr (F.RAIL_STAT_DUTY n) (clampI 0 65535 (d0 + s * dd)).toNat
      if g.rd (F.RAIL_PSTAT_N_USE n) < g.nU n then g.setNuse n (g.nU n) else g
    else g
  | none => g

/-- Sums of a pulse's samples: ΔV, ΔI and Q scaled by 32, Q in units of half a sample interval; the products of R120.
Folding by the sign of the repetition changes no product. -/
structure ProbeSums where
  q : Int
  prev : Option Int
  sqq : Int
  sqi : Int
  sii : Int
  sqv : Int
  siv : Int
  bad : Bool

/-- One voltage sample instant of the pulse (R119, R120): voltage in nV at the sense lines, summed current in codes. -/
def probeSample (v0 i0 : Int) (lim : Int) (s : ProbeSums) (x : Int × Int) : ProbeSums :=
  if s.bad then s
  else
    let dv := 32 * (voltCode x.1 : Int) - v0
    let di := 32 * x.2 - i0
    let q := match s.prev with | some d => s.q + d + di | none => s.q
    if lim < (if dv < 0 then -dv else dv) * 800 then { s with bad := true }
    else { q := q, prev := some di, sqq := s.sqq + q * q, sqi := s.sqi + q * di, sii := s.sii + di * di,
           sqv := s.sqv + q * dv, siv := s.siv + di * dv, bad := false }

/-- The pulse ends, or a sample beyond the excursion limit ends it at once; the loop closes bumplessly with D0 (R119
items 3 and 4). -/
def probePulseEnd (b : Build) (n : Nat) (samples : List (Int × Int)) (g : Gov) : Gov :=
  match mfind g.probes n with
  | some p =>
    if g.live ∧ p.inPulse then
      let lim : Int := 32 * (g.rd F.BRG_CTL_PROBE_VMAX : Int) * (g.rail n).vset
      let s := samples.foldl (probeSample p.v0 p.i0 lim)
        { q := 0, prev := none, sqq := p.sqq, sqi := p.sqi, sii := p.sii, sqv := p.sqv, siv := p.siv, bad := false }
      let bad := s.bad
      let g := (g.runTo (p.tp + (if bad then 0 else 4000))).probeClose n p.d0
      let p' : Probe :=
        if bad then { p with reps := p.reps + 1, aborts := p.aborts + 1, inPulse := false }
        else { p with
                      reps := p.reps + 1, kept := p.kept + 1, inPulse := false,
                      sqq := s.sqq, sqi := s.sqi, sii := s.sii, sqv := s.sqv, siv := s.siv }
      let g := { g with probes := mput g.probes n p' }
      let g := g.wr (F.RAIL_PROBE_ABORTS n) (satN 4 p'.aborts)
      if p.stopPend ∧ g.probes.any (fun e => e.2.inPulse) = false then enterSeqDown b true g else g
    else g
  | none => g

/-- A class-0 grant with a segment on a probed rail, or a write of CAL_IMON, discards the repetition in progress
(R501, R502); its pulse is over, so a STOP that waited for it goes on (Table 4.4). -/
def probeDiscard (b : Build) (n : Nat) (g : Gov) : Gov :=
  match mfind g.probes n with
  | some p =>
    if p.inPulse then
      let g := g.probeClose n p.d0
      let g := { g with probes := mput g.probes n { p with reps := p.reps + 1, aborts := p.aborts + 1, inPulse := false } }
      let g := g.wr (F.RAIL_PROBE_ABORTS n) (satN 4 (p.aborts + 1))
      if p.stopPend ∧ g.probes.any (fun e => e.2.inPulse) = false then enterSeqDown b true g else g
    else g
  | none => g

/-- The estimates C = 1/x in 10 µF and ESR = y in 1 µΩ of a least-squares fit, rounded to the nearest unit and
saturated; none where x or y is zero or negative (R120). (DEDUCED, log 33) -/
def probeFit (sqq sqi sii sqv siv : Int) : Option (Nat × Nat) :=
  let det := sqq * sii - sqi * sqi
  let xn := sqv * sii - siv * sqi
  let yn := siv * sqq - sqv * sqi
  if 0 < det ∧ 0 < xn ∧ 0 < yn then
    -- a unit of Q is (1/16 A / 32) × 15.625 ns and one of ΔV is 0.5 mV / 32, so x is xn / det × 512,000 per farad
    some ((rndUp (det * 25) (xn * 128)).toNat, (rndUp (yn * 8000) det).toNat)
  else none

/-- The lowest-numbered of CSET1 to CSET3 whose band holds the estimates (R121, R167). -/
def bandMatch (g : Gov) (n c esr : Nat) : Option Nat :=
  [1, 2, 3].find? (fun k =>
    decide (g.rd (F.RAIL_CBAND_C_LO n k) ≤ c ∧ c ≤ g.rd (F.RAIL_CBAND_C_HI n k) ∧ esr ≤ g.rd (F.RAIL_CBAND_ESR_MAX n k)))

/-- The choice made from a probe: the set is loaded with the loop opened for the change (R121, R169). (DEDUCED, log 34) -/
def probeChoose (n c : Nat) (g : Gov) : Gov := (g.wr (F.RAIL_CTL_CSET n) c).requestCset n c

/-- Eight repetitions are over: the estimates are fitted and a set is chosen (R120, R121, R417, R501). -/
def probeComplete (b : Build) (n : Nat) (g : Gov) : Gov :=
  match mfind g.probes n with
  | some p =>
    if g.live ∧ p.inPulse = false ∧ p.reps = 8 then
      let g := g.runTo (p.t0 + 1024000)
      let g := { g with probes := mdel g.probes n }
      let keep := if p.cal then g.rd (F.RAIL_STAT_CSET_ACT n) else 0
      let pick := !p.cal || p.pick
      let g :=
        if 2 < p.aborts then probeOutcome n 4 keep g
        else match probeFit p.sqq p.sqi p.sii p.sqv p.siv with
          | none => probeOutcome n 3 keep g
          | some (c, esr) =>
            let c := satN 16 c
            let esr := satN 16 esr
            let g := (g.wr (F.RAIL_PROBE_C_EST n) c).wr (F.RAIL_PROBE_ESR_EST n) esr
            if c < g.rd (F.RAIL_PLAUS_C_MIN n) ∨ g.rd (F.RAIL_PLAUS_C_MAX n) < c ∨ g.rd (F.RAIL_PLAUS_ESR_MAX n) < esr then
              probeOutcome n 3 keep (g.svc 5)
            else match bandMatch g n c esr with
              | some k => probeOutcome n 1 (if pick then k else keep) (if pick then probeChoose n k g else g)
              | none => probeOutcome n 2 keep g
      let g := match p.cmd with | some k => g.probeReply b k n 0x00 | none => g
      if p.cal then g else stageProgress b (g.setRail n { g.rail n with probed := true })
    else g
  | none => g

end Sys2Proof.Machine
end

