-- ==== Sys2Proof/Machine/Thermal.lean ====
section
/-! DEFINITION. The thermal model (spec/09): decoding and checks of the region, TH_LOAD and KEEP, power attribution,
the update, levels, chatter windows, corrections from the diodes, the rate and the die ceilings. -/

namespace Sys2Proof.Machine

/-! ## The records (R238, R239) -/

/-- Store offset of the record of node `i` (Table 17.11). -/
def thAddr (i : Nat) : Nat := 0xAB0000 + 128 * i

/-- A 16-bit temperature code of a record, signed. -/
def thTemp (l : List Nat) (a : Nat) : Int := sx 16 (leAt l a 2)

/-- NCPL of a record. -/
def thNcpl (l : List Nat) : Nat := bits (leAt l 0 2) 2 4

/-- A coupling word of a record. -/
def thCpl (l : List Nat) (k : Nat) : Nat × Nat := (bits (leAt l (4 + 4 * k) 4) 0 9, bits (leAt l (4 + 4 * k) 4) 16 16)

/-- The enabled sources of a record, as (rail, W). -/
def thSrc (l : List Nat) : List (Nat × Nat) :=
  (if bit (leAt l 44 1) 7 then [(bits (leAt l 44 1) 0 4, leAt l 46 2)] else []) ++
  (if bit (leAt l 48 1) 7 then [(bits (leAt l 48 1) 0 4, leAt l 50 2)] else [])

/-- The decoded form of a record of at least 96 bytes (Table 9.1). -/
def thDecode (l : List Nat) : ThCfg :=
  { fixed := bit (leAt l 0 2) 1, die := bits (leAt l 0 2) 6 4, act := bit (leAt l 0 2) 10, tInit := thTemp l 2,
    cpl := (List.range (thNcpl l)).map (thCpl l), g := leAt l 36 2, gs := bits (leAt l 38 1) 0 3, lk := leAt l 40 2,
    tlref := thTemp l 42, src := thSrc l, tile := bits (leAt l 52 2) 0 9,
    cgrp := if bit (leAt l 54 1) 7 then some (bits (leAt l 54 1) 0 5) else none,
    thr := [thTemp l 56, thTemp l 58, thTemp l 60, thTemp l 62],
    hyst := if leAt l 64 2 = 0 then 256 else leAt l 64 2, dwell := if leAt l 66 1 = 0 then 8 else leAt l 66 1,
    raw := leNat (l.take 96) }

/-- A threshold that is enabled. -/
def thOn (x : Int) : Bool := x != 32767

/-- The values of a list rise, equality allowed. -/
def sortedI : List Int → Bool
  | a :: b :: r => decide (a ≤ b) && sortedI (b :: r)
  | _ => true

/-- ΣC of a node. -/
def ThCfg.sumC (c : ThCfg) : Nat := (c.cpl.map (·.2)).foldl (· + ·) 0

/-- A reserved field of a record is not 0 (Table 9.1). -/
def thReserved (l : List Nat) : Bool :=
  decide (leAt l 0 2 / 2 ^ 11 ≠ 0)
  || (List.range 8).any (fun k => bits (leAt l (4 + 4 * k) 4) 9 7 != 0)
  || decide (leAt l 38 2 / 8 ≠ 0)
  || decide (bits (leAt l 44 1) 4 3 ≠ 0 ∨ leAt l 45 1 ≠ 0 ∨ bits (leAt l 48 1) 4 3 ≠ 0 ∨ leAt l 49 1 ≠ 0)
  || decide (leAt l 52 2 / 2 ^ 9 ≠ 0 ∨ bits (leAt l 54 1) 5 2 ≠ 0 ∨ leAt l 55 1 ≠ 0)
  || ((l.drop 67).take 25).any (fun x => x != 0)

/-- Node `i` is enabled in the region. -/
def thEn (m : List (Nat × Byte)) (i : Nat) : Bool := bit (memGet m (thAddr i)).toNat 0

/-- The first check of R239 that enabled node `i` fails, numbered as listed, 0 for none. Check 1 is the CRC; the
number of enabled records and the sums of check 6 belong to no single node. -/
def thCheckNode (b : Build) (m : List (Nat × Byte)) (i : Nat) : Nat :=
  let l := memBytes m (thAddr i) 96
  let c := thDecode l
  if crc32 (l.take 92) ≠ leAt l 92 4 then 1
  else if !c.fixed && (decide (8 < thNcpl l) || c.cpl.any (fun e => e.1 == i || !thEn m e.1)) then 2
  else if !c.fixed ∧ 4096 < c.sumC then 3
  else if !c.fixed ∧ c.lk ≠ 0 ∧ c.sumC ≤ c.g * 2 ^ c.gs * c.lk / 65536 then 4
  else if 8 < c.die ∨ (c.die ≠ 8 ∧ b.dies ≤ c.die) then 5
  else if !c.fixed && c.src.any (fun e => decide (b.rails ≤ e.1)) then 6
  else if !c.fixed && ((c.act && !b.has .tile c.tile)
      || (match c.cgrp with | some k => decide (b.dies ≤ k / 4) | none => false)) then 7
  else if !c.fixed && !sortedI (c.thr.filter thOn) then 8
  else if thReserved l then 9
  else 0

/-- The enabled nodes of the region with their decoded records. -/
def thNodes (m : List (Nat × Byte)) : Sparse ThCfg :=
  ((List.range 512).filter (thEn m)).map (fun i => (i, thDecode (memBytes m (thAddr i) 96)))

/-- The sources that name rail `n`, over the nodes that are not FIXED. -/
def thWeights (l : Sparse ThCfg) (n : Nat) : Nat :=
  (l.map (fun e => if e.2.fixed then 0
    else (e.2.src.map (fun s => if s.1 = n then s.2 else 0)).foldl (· + ·) 0)).foldl (· + ·) 0

/-- The check of R239 over the region: (node, check) of the failure reported, or none. The lowest failing node is
named with its first check; where none fails, a failure that belongs to no node is named 0x1FF (R400). -/
def thCheck (b : Build) (m : List (Nat × Byte)) : Option (Nat × Nat) :=
  let ns := (List.range 512).filter (thEn m)
  if ns = [] then some (0x1FF, 1)
  else
    match ns.find? (fun i => thCheckNode b m i != 0) with
    | some i => some (i, thCheckNode b m i)
    | none => if (List.range b.rails).any (fun n => decide (65536 < thWeights (thNodes m) n)) then some (0x1FF, 6) else none

/-! ## Access -/

/-- A node of the working model. -/
def Gov.setThNode (g : Gov) (i : Nat) (x : ThNode) : Gov := { g with th := { g.th with nodes := mput g.th.nodes i x } }
/-- What the core keeps of diode `k`. -/
def Gov.thDiode (g : Gov) (k : Nat) : ThDiode := mget {} g.th.diodes k
/-- The same, replaced. -/
def Gov.setThDiode (g : Gov) (k : Nat) (x : ThDiode) : Gov :=
  { g with th := { g.th with diodes := mput g.th.diodes k x } }
/-- The diodes mapped to node `i` with EN = 1. -/
def Gov.diodesOf (b : Build) (g : Gov) (i : Nat) : List Nat :=
  (List.range (4 * b.dies)).filter (fun k => g.rd (F.TH_DIODE_EN k) == 1 && g.rd (F.TH_DIODE_NODE k) == i)

/-- The greatest usable reading of the diodes mapped to node `i` at instant `t`: each diode's latest that was not
faulted and came no more than 2 ms before (R250). -/
def Gov.diodeTop (b : Build) (g : Gov) (i t : Nat) : Option Int :=
  (g.diodesOf b i).foldl (fun (m : Option Int) k => match (g.thDiode k).good with
    | some (v, at_) => if t ≤ at_ + 2000000 then (match m with | some x => some (if x < v then v else x) | none => some v)
                      else m
    | none => m) none

/-! ## Levels and chatter windows (R252, R253, R255) -/

/-- THROTTLE or higher is asserted. -/
def ThNode.hot (x : ThNode) : Bool := bits x.level 1 3 != 0

/-- Time with THROTTLE or higher asserted is counted up to `t`. -/
def ThNode.countHot (x : ThNode) (t : Nat) : ThNode :=
  match x.hotAt with
  | some h => { x with winHot := x.winHot + (t - h), hotAt := if x.hot then some t else none }
  | none => { x with hotAt := if x.hot then some t else none }

/-- The chatter window of node `i` closes at `t`: one TH_CHATTER event where changes went unrecorded. (DEDUCED, log 44) -/
def chatterClose (i t : Nat) (g : Gov) : Gov :=
  match mfind g.th.nodes i with
  | some x =>
    let x := x.countHot t
    let g := if 0 < x.winLost then
        g.ev 0x4002 (i + x.winLv * 2 ^ 12) x.winLost (x.winHot / 1000000) (ux 32 x.winTop)
      else g
    g.setThNode i { x with winAt := none, winN := 0, winLost := 0, winLv := 0, winHot := 0, hotAt := none }
  | none => g

/-- A level of node `i` is asserted or released at `t`: its state, CHG, the window, and the event or its count. -/
def levelChange (i l t : Nat) (up : Bool) (g : Gov) : Gov :=
  match mfind g.th.nodes i with
  | some x =>
    let x := match x.winAt with
      | some _ => x
      | none => { x with winAt := some t, hotAt := if x.hot then some t else none, winTop := x.te }
    let x := x.countHot t
    let x := { x with
      level := if up then withBit x.level l else withoutBit x.level l, cnt := x.cnt.set l 0, chg := min 65535 (x.chg + 1) }
    let x := { x with hotAt := if x.hot then some t else none, winLv := withBit x.winLv l }
    if x.winN < g.rd F.TH_CTL_CHAT_MAX then
      (g.setThNode i { x with winN := x.winN + 1 }).ev 0x4001 (i + l * 2 ^ 12 + b2n up * 2 ^ 15) (ux 32 x.te) 0 0
    else g.setThNode i { x with winLost := x.winLost + 1 }
  | none => g

/-- Level `l` of node `i` is judged on TE at an update (R252); one still asserted that a load has disabled, or whose node a
load has made FIXED, is released (R240). -/
def judgeLevel (i t : Nat) (g : Gov) (l : Nat) : Gov :=
  match mfind g.th.nodes i with
  | some x =>
    let th := x.cfg.thr.getD l 32767
    if x.cfg.fixed || !thOn th then (if bit x.level l then levelChange i l t false g else g)
    else
      let up := bit x.level l
      let hi := decide (th ≤ x.te)
      let lo := decide (x.te < th - x.cfg.hyst)
      let c := x.cnt.getD l 0
      let c := if (if up then lo else hi) then c + 1 else if (if up then hi else lo) then 0 else c
      if x.cfg.dwell ≤ c ∧ c ≠ x.cnt.getD l 0 then levelChange i l t (!up) g
      else g.setThNode i { x with cnt := x.cnt.set l c }
  | none => g

/-- The levels of node `i` at an update; a window that has expired closes first (R255). -/
def judgeNode (t : Nat) (g : Gov) (i : Nat) : Gov :=
  match mfind g.th.nodes i with
  | some x =>
    let g := match x.winAt with
      | some w => if w + 1000000 * g.rd F.TH_CTL_CHAT_WIN ≤ t then chatterClose i t g else g
      | none => g
    let g := [0, 1, 2, 3].foldl (judgeLevel i t) g
    match mfind g.th.nodes i with
    | some y => g.setThNode i { y with winTop := if y.winTop < y.te then y.te else y.winTop }
    | none => g
  | none => g

/-! ## Loading (R240) -/

/-- A node of a new model: kept where KEEP asks for it and the node was enabled before, else initialised. SAT and CHG count
from the load (Table 9.1). (DEDUCED, log 102) -/
def thInit (b : Build) (g : Gov) (keep : Bool) (t i : Nat) (c : ThCfg) : ThNode :=
  match (if keep then mfind g.th.nodes i else none) with
  | some o =>
    let same (l : Nat) : Bool := o.cfg.thr.getD l 32767 == c.thr.getD l 32767 && o.cfg.hyst == c.hyst
    let bd := if o.cfg.fixed ∧ c.fixed then o.bound else c.tInit
    { o with
      cfg := c, sat := false, chg := 0, base := none, a := 65536, bound := bd, te := if c.fixed then bd else o.te,
      cnt := [0, 1, 2, 3].map (fun l => if same l then o.cnt.getD l 0 else 0) }
  | none =>
    let v := if c.fixed then c.tInit else (g.diodeTop b i t).getD c.tInit
    { cfg := c, s := v * 65536, t := v, te := v, peak := v, bound := c.tInit }

/-- The accepted model takes the place of the one in use, and diodes that it leaves without a node are reported (R240,
R249). Its first update releases the levels that it disables, or that belong to nodes it makes FIXED. -/
def thTake (b : Build) (t : Nat) (l : ThLoad) (g : Gov) : Gov :=
  let ns := l.nodes.map (fun e => (e.1, thInit b g l.keep t e.1 e.2))
  let g := { g with th := { g.th with nodes := ns, load := none, firstUpd := true } }
  let g := (g.wr F.TH_STAT_LOADED 1).wr F.TH_STAT_NODES ns.length
  g.each (List.range (4 * b.dies)) (fun g k =>
    if g.rd (F.TH_DIODE_EN k) = 1 then
      match mfind g.th.nodes (g.rd (F.TH_DIODE_NODE k)) with
      | some x => if x.cfg.fixed then g.ev 0x4005 k (g.rd (F.TH_DIODE_NODE k)) 0 0 else g
      | none => g.ev 0x4005 k (g.rd (F.TH_DIODE_NODE k)) 0 0
    else g)

/-- TH_LOAD in progress `i` on memory `m` (R239, R240, R400). The region is decoded as it stands when the command is
taken. -/
def thLoad (b : Build) (m : List (Nat × Byte)) (i : Nat) (keep : Bool) (g : Gov) : Gov :=
  if g.th.load.isSome then g.reply i 0x11 []
  else
    match thCheck b m with
    | some (n, c) => g.reply i 0x26 [n + c * 2 ^ 12]
    | none => { g with th := { g.th with load := some { keep := keep, nodes := thNodes m } } }.waitFor i 4 0

/-- The decode of an accepted model completes, within 100 µs (R240). -/
def thLoadDecodeDone (g : Gov) : Gov :=
  match g.th.load with
  | some l => if g.live then { g with th := { g.th with load := some { l with ready := true } } } else g
  | none => g

/-! ## Attribution (R244 to R246) -/

/-- P̄ of rail `n`. -/
def Gov.pBar (g : Gov) (n : Nat) : Nat :=
  let p := mget (0, 0) g.th.pout n
  if p.2 = 0 then (if g.mode n = mBURST then g.rd (F.RAIL_MEAS_POUT n) else 0) else (2 * p.1 + p.2) / (2 * p.2)

/-- The activity of a node with ACT at an update (R245). -/
def thActivity (g : Gov) (x : ThNode) : ThNode :=
  if x.cfg.act then
    let r := mget ({} : TRec) g.st.recs x.cfg.tile
    let a := if g.flag (F.ST_TILE_NOREP x.cfg.tile) then 65536
      else match x.base with
        | none => 65536
        | some (c, s) =>
          if r.cap = c then x.a else 65536 - min 65536 (2 * (r.tstop - s) * 65536 / (r.cap - c))
    { x with a := a, base := some (r.cap, r.tstop) }
  else x

/-- W of a source weighted by the node's activity. -/
def ThNode.wa (x : ThNode) (w : Nat) : Nat := if x.cfg.act then (w * x.a + 0x8000) / 65536 else w

/-- Sums over the enabled sources naming rail `n`: of W, and of W weighted. -/
def thSums (ns : Sparse ThNode) (n : Nat) : Nat × Nat :=
  ns.foldl (fun (acc : Nat × Nat) e => if e.2.cfg.fixed then acc else e.2.cfg.src.foldl (fun (acc : Nat × Nat) s =>
    if s.1 = n then (acc.1 + s.2, acc.2 + e.2.wa s.2) else acc) acc) (0, 0)

/-- Attributed power of a node (R246); `tbl` gives P̄, Sw and Sa by rail. -/
def thPower (tbl : Sparse (Nat × Nat × Nat)) (x : ThNode) : Nat :=
  min 65535 ((x.cfg.src.map (fun s =>
    let e := mget (0, 0, 0) tbl s.1
    let w := if e.2.2 = 0 then s.2 else (x.wa s.2 * e.2.1 + e.2.2 / 2) / e.2.2
    (e.1 * w + 0x8000) / 65536)).foldl (· + ·) 0)

/-! ## The update (R247) -/

/-- The temperature of a state. -/
def thT (s : Int) : Int := min 32767 ((s + 0x8000) / 65536)

/-- One node computed from the snapshot: acc × M added to S, limited. -/
def thStep (tOf : Nat → Int) (m : Nat) (x : ThNode) : Int × Bool :=
  let t := tOf 512
  let acc := (x.cfg.cpl.map (fun (e : Nat × Nat) => (e.2 : Int) * (tOf e.1 - t))).foldl (· + ·) 0
  let pe := clampI 0 65535 ((x.p : Int) + ((x.cfg.lk : Int) * (t - x.cfg.tlref)) / 65536)
  let s := x.s + (acc + (x.cfg.g : Int) * pe * ((2 ^ x.cfg.gs : Nat) : Int)) * m
  let l := clampI (-32768 * 65536) (32767 * 65536 + 65535) s
  (l, l != s)

/-- Snapshot of a node: pending corrections applied, FIXED nodes at their boundary value. -/
def thSnap (x : ThNode) : ThNode :=
  if x.cfg.fixed then { x with s := x.bound * 65536, t := x.bound, pend := 0 }
  else { x with s := x.s + x.pend, t := thT (x.s + x.pend), pend := 0 }

/-- A node after the update: S, T, TE and PEAK. -/
def thNode (b : Build) (g : Gov) (snap : Sparse ThNode) (m t i : Nat) (x : ThNode) : ThNode :=
  if x.cfg.fixed then { x with te := x.bound, peak := if x.peak < x.bound then x.bound else x.peak }
  else
    let r := thStep (fun j => if j = 512 then x.t else (mget ({} : ThNode) snap j).t) m x
    let tn := thT r.1
    let te := match g.diodeTop b i t with
      | some d => if tn < d then d else tn
      | none => tn
    { x with s := r.1, sat := x.sat || r.2, t := tn, te := te, peak := if x.peak < te then te else x.peak }

/-- The margin m of R243; none where no threshold counts. -/
def thMargin (ns : Sparse ThNode) : Option Int :=
  ns.foldl (fun (acc : Option Int) e => if e.2.cfg.fixed then acc else [1, 2, 3].foldl (fun (acc : Option Int) l =>
    let th := e.2.cfg.thr.getD l 32767
    if thOn th && !bit e.2.level l then
      let d := th - e.2.te
      match acc with | some x => some (if d < x then d else x) | none => some d
    else acc) acc) none

/-- The rate after an update (R243). -/
def thRate (g : Gov) : Gov :=
  let r := g.rd F.TH_STAT_RATE
  if g.rd F.TH_CTL_FAST = 1 then
    { g.wr F.TH_STAT_RATE 2 with th := { g.th with fall := 0 } }
  else
    let m := (thMargin g.th.nodes).getD 100000
    let need := if m ≤ 256 then 2 else if m ≤ 768 then 1 else 0
    if r < need then { g.wr F.TH_STAT_RATE need with th := { g.th with fall := 0 } }
    else
      let easy := (r == 2 && decide (320 < m)) || (r == 1 && decide (832 < m))
      let f := if easy then g.th.fall + 1 else 0
      if 16 ≤ f then { g.wr F.TH_STAT_RATE (r - 1) with th := { g.th with fall := 0 } }
      else { g with th := { g.th with fall := f } }

/-! ## Ceilings and what is reported (R254) -/

/-- A node counts for die `d`. -/
def ThNode.counts (x : ThNode) (d : Nat) : Bool := !x.cfg.fixed && (x.cfg.die == d || x.cfg.die == 8)

/-- The highest level that rules die `d`: 0 none, 1 THROTTLE, 2 CRIT, 3 SHUT. -/
def Gov.dieLevel (g : Gov) (d : Nat) : Nat :=
  let has (l : Nat) := g.th.nodes.any (fun e => e.2.counts d && bit e.2.level l)
  if has 3 then 3 else if has 2 then 2 else if has 1 then 1 else 0

/-- The ceiling of die `d` (R254). -/
def Gov.ceiling (g : Gov) (d : Nat) : Nat :=
  let l := g.dieLevel d
  let base := if l = 3 then 0 else if l = 2 then g.rd (F.TH_DIE_CCRIT d) else if l = 1 then g.rd (F.TH_DIE_CTHR d)
    else g.rd (F.TH_DIE_CNOM d)
  let base := if bit (g.rd F.FT_STAT_BLIND) d then min base (g.rd (F.TH_DIE_CTHR d)) else base
  let dr := if g.flag F.FT_STAT_DERATE then g.rd F.TH_CTL_FT_DERATE else 0
  base * (64 - dr) / 64

/-- MARGIN of die `d`, 1/8 °C. -/
def Gov.dieMargin (g : Gov) (d : Nat) : Int :=
  let m := g.th.nodes.foldl (fun (acc : Option Int) e =>
    if e.2.counts d && thOn (e.2.cfg.thr.getD 1 32767) then
      let x := e.2.cfg.thr.getD 1 32767 - e.2.te
      match acc with | some y => some (if x < y then x else y) | none => some x
    else acc) none
  match m with
  | some x => clampI (-2048) 2047 (x / 16)
  | none => 2047

/-- The ceilings are written to admission, with what TH_DIE reports. -/
def thCeilings (b : Build) (g : Gov) : Gov :=
  g.each (List.range b.dies) (fun g d =>
    (((g.wr (F.DMD_DIE_CEIL d) (g.ceiling d)).wr (F.TH_DIE_LEVEL d) (g.dieLevel d)).wr (F.TH_DIE_MARGIN d)
      (ux 12 (g.dieMargin d))).wrB (F.TH_DIE_BLIND d) (bit (g.rd F.FT_STAT_BLIND) d))

/-- TH_STAT after an update: levels, the hottest node. -/
def thReport (g : Gov) : Gov :=
  let anyL (l : Nat) := g.th.nodes.any (fun e => bit e.2.level l)
  let g := (((g.wrB F.TH_STAT_ANY_WARN (anyL 0)).wrB F.TH_STAT_ANY_THR (anyL 1)).wrB F.TH_STAT_ANY_CRIT (anyL 2)).wrB
    F.TH_STAT_ANY_SHUT (anyL 3)
  match g.th.nodes with
  | [] => g
  | (i, x) :: r =>
    let top := r.foldl (fun (acc : Nat × Int) e => if acc.2 < e.2.te then (e.1, e.2.te) else acc) (i, x.te)
    (g.wr F.TH_STAT_HOTNODE top.1).wr F.TH_STAT_HOT_T (ux 16 top.2)

/-- Bytes 96 to 111 of a record, as two words (Table 9.1). -/
def ThNode.image (x : ThNode) : Nat × Nat :=
  (ux 32 x.s + ux 16 x.t * 2 ^ 32 + ux 16 x.te * 2 ^ 48,
   x.p + x.level * 2 ^ 16 + b2n x.sat * 2 ^ 20 + ux 16 x.peak * 2 ^ 32 + x.chg * 2 ^ 48)

/-- Histograms of the die temperatures (Table 16.7) and the trace of the selected node (Table 16.9). -/
def thSamples (b : Build) (m : Nat) (g : Gov) : Gov :=
  let g := g.each (List.range b.dies) (fun g d =>
    let l := (g.th.nodes.filter (fun e => e.2.counts d)).map (fun e => e.2.te)
    match l with
    | [] => g
    | x :: r => g.histo (40 + d) (r.foldl (fun a v => if a < v then v else a) x))
  match mfind g.th.nodes (g.rd (F.TRC_SEL_SEL 4) % 512) with
  | some x => g.trace 4 6 (g.rd (F.TRC_SEL_SEL 4) % 512 + x.level * 2 ^ 12) (ux 16 x.t + ux 16 x.te * 2 ^ 16) x.p
      (m + g.rd F.TH_STAT_RATE * 2 ^ 8)
  | none => g

/-- One update, at tick `u`, over `m` ticks (R242 to R248). It completes within 6,000 ns; the model gives its results
the GTIME of its tick. -/
def thUpdate (b : Build) (u m : Nat) (g : Gov) : Gov :=
  let t := 6250 * u
  let ns := mmap (fun _ x => thSnap (thActivity g x)) g.th.nodes
  let tbl : Sparse (Nat × Nat × Nat) := (List.range b.rails).map (fun n => (n, g.pBar n, thSums ns n))
  let ns := mmap (fun _ (x : ThNode) => { x with p := if x.cfg.fixed then 0 else thPower tbl x }) ns
  let old := g.th.nodes
  let new := mmap (fun i x => thNode b g ns m t i x) ns
  let g := { g with th := { g.th with nodes := new, pout := [], updTick := u, firstUpd := false } }
  let g := new.foldl (fun g e => if e.2.sat && !(mget ({} : ThNode) old e.1).sat then
    (g.wr F.TH_STAT_SAT 1).ev 0x4003 e.1 0 0 0 else g) g
  let g := (mkeys (fun _ _ => true) new).foldl (judgeNode t) g
  let g := thCeilings b (thReport (thRate g))
  let img := g.th.nodes.foldl (fun (a : Sparse (Nat × Nat)) e => mput a e.1 e.2.image) g.th.img
  let g := { g with th := { g.th with img := img } }
  let g := ((g.wr F.TH_UPD_SEQ (g.rd F.TH_UPD_SEQ + 2)).wr F.TH_UPD_M m).wr F.TH_UPDT_GTIME t
  let g := thSamples b m g
  if (g.waiters 4 0) = [] ∨ g.th.load.isSome then g
  else g.answer 4 0 0x00 [g.th.nodes.length + u % 2 ^ 48 * 2 ^ 16]

/-- Ticks from one update to the next at a rate. -/
def thStride (g : Gov) : Nat :=
  if g.rd F.TH_CTL_FAST = 1 then 1
  else if g.rd F.TH_STAT_RATE = 2 then 1 else if g.rd F.TH_STAT_RATE = 1 then 2 else 16

/-- The next tick of 6.25 µs: an update starts where one is due, and with no model the ceilings are computed
(R240, R242). (DESIGN CHOICE, log 30) -/
def thermalTick (b : Build) (g : Gov) : Gov :=
  if g.live then
    let u := max (g.th.tick + 1) (g.gtime / 6250)
    let g := g.runTo (6250 * u)
    let g := { g with th := { g.th with tick := u } }
    let g := if g.rd F.TH_CTL_FAST = 1 then g.wr F.TH_STAT_RATE 2 else g
    let st := thStride g
    let due := decide (g.th.updTick / st < u / st)
    let ready : Option ThLoad := match g.th.load with
      | some l => if l.ready then some l else none
      | none => none
    if due then
      match ready with
      | some l => thUpdate b u st (thTake b (6250 * u) l g)
      | none =>
        if g.th.nodes = [] then thCeilings b { g with th := { g.th with pout := [], updTick := u } }
        else thUpdate b u (if g.th.firstUpd then st else min 16 (u - g.th.updTick)) g
    else if g.th.nodes = [] then thCeilings b g
    else g
  else g

/-- A chatter window's time is over (R255). -/
def chatterWindowClose (i : Nat) (g : Gov) : Gov :=
  match mfind g.th.nodes i with
  | some x =>
    match x.winAt with
    | some w =>
      if g.live then
        let t := w + 1000000 * g.rd F.TH_CTL_CHAT_WIN
        chatterClose i t (g.runTo t)
      else g
    | none => g
  | none => g

/-! ## Readings at the core (R249 to R251) -/

/-- DISAGREE of diode `k` is judged on residual `r` (R251). -/
def thDisagree (k node : Nat) (r : Int) (g : Gov) : Gov :=
  let x := g.thDiode k
  let lim : Int := 16 * g.rd (F.TH_DIODE_RMAX k)
  if lim < (if r < 0 then -r else r) then
    let n := x.out + 1
    let g := g.setThDiode k { x with out := min 8 n, inn := 0 }
    if 8 ≤ n ∧ g.flag (F.TH_DIODE_DISAGREE k) = false then
      ((g.wr (F.TH_DIODE_DISAGREE k) 1).wr F.TH_STAT_DISAGREE 1).ev 0x4004 k (ux 32 r) node 0
    else g
  else
    let n := x.inn + 1
    let g := g.setThDiode k { x with out := 0, inn := min 8 n }
    if 8 ≤ n then g.wr (F.TH_DIODE_DISAGREE k) 0 else g

/-- The highest reading of a diode that is not excluded, of those passed to the core (Table 9.8). -/
def thHotD (b : Build) (g : Gov) : Gov :=
  let ks := (List.range (4 * b.dies)).filter (fun k =>
    !bit (g.rd F.FT_STAT_EXCL) k && (mfind g.th.diodes k).isSome)
  match ks with
  | [] => g
  | k :: r =>
    g.wr F.TH_STAT_HOT_D (ux 16 (r.foldl (fun (m : Int) j =>
      let v := sx 16 (g.thDiode j).temp
      if m < v then v else m) (sx 16 (g.thDiode k).temp)))

/-- The latest reading of diode `k` reaches the core and queues its corrections (R249). -/
def diodeReadingArrival (b : Build) (k : Nat) (g : Gov) : Gov :=
  if g.live ∧ k < 4 * b.dies then
    let flt := g.flag (F.FT_DSTAT_FLT k)
    let td := sx 16 (g.rd (F.FT_DSTAT_TEMP k))
    let x := g.thDiode k
    let g := g.setThDiode k { x with
      temp := g.rd (F.FT_DSTAT_TEMP k), flt := flt, good := if flt then x.good else some (td, g.gtime) }
    let g := thHotD b g
    let node := g.rd (F.TH_DIODE_NODE k)
    if g.rd (F.TH_DIODE_EN k) = 1 ∧ flt = false then
      match mfind g.th.nodes node with
      | some y =>
        if y.cfg.fixed then g
        else
          let r := td - y.t
          let lim : Int := 16 * g.rd F.TH_CTL_RCLAMP
          let c := clampI (-lim) lim r * g.rd (F.TH_DIODE_KC k)
          let g := { g with
            th := { g.th with
            nodes := mmap (fun i (z : ThNode) =>
            { z with
                pend := z.pend + (if i = node then c else 0)
                + (if !z.cfg.fixed && z.cfg.cgrp == some k then c else 0) }) g.th.nodes } }
          thDisagree k node r g
      | none => g
    else g
  else g

/-- TH_BOUND: the boundary value of a FIXED node (R241, R401). -/
def thBound (i : Nat) (v : Int) (g : Gov) : Gov :=
  match mfind g.th.nodes i with
  | some x => if x.cfg.fixed then g.setThNode i { x with bound := v } else g
  | none => g

end Sys2Proof.Machine
end

