-- ==== Sys2Proof/Machine/Firethorn.lean ====
section
/-! DEFINITION. Firethorn (spec/09, R256 to R265, R511): diode conversions on FCLK, trips, release, exclusion, the
configuration shadow, the override of the output cells, and what the core does with its status. It runs through
GOV_PORST_N and without the core. -/

namespace Sys2Proof.Machine

/-! ## Readings (R257, R258) -/

/-- What Firethorn keeps of diode `k`. -/
def Gov.ftDiode (g : Gov) (k : Nat) : FtDiode := mget {} g.ft.diodes k
/-- The same, replaced. -/
def Gov.setFtDiode (g : Gov) (k : Nat) (x : FtDiode) : Gov :=
  { g with ft := { g.ft with diodes := mput g.ft.diodes k x } }

/-- Temperature code from the two differential voltages, nV, with ideality trim `ideal`: the mean of q ΔV / (n k ln 4)
rounded to the nearest code, ties upward (R257). The constants are the SI values of q and k, and ln 4 to 30 decimals
(PRESUMED, log 9). -/
def diodeCode (dv1 dv2 : Int) (ideal : Nat) : Int :=
  let num : Int := (dv1 + dv2) * 16021766340 * 16384 * 128 * (10 ^ 30 : Nat)
  let den : Int := 2 * (10 ^ 9 : Nat) * 1380649 * (16384 + sx 12 ideal) * 1386294361119890618834464242916
  rndUp (10 * num - 349632 * den) (10 * den)

/-- The reading with its offset trim: a temperature code of at most 150 °C, or none where it lies below −40 °C. -/
def diodeReading (dv1 dv2 : Int) (ideal ofs : Nat) : Option Int :=
  let v := diodeCode dv1 dv2 ideal + sx 12 ofs
  if v < -5120 then none else some (if 19200 < v then 19200 else v)

/-- Diode `k` may count: it lies on a built die and is not excluded. -/
def Gov.ftCounts (b : Build) (g : Gov) (k : Nat) : Bool := decide (k < 4 * b.dies) && !bit (g.rd F.FT_STAT_EXCL) k

/-- A trip is decided: stamps, TRIPS, DERATE, LATCHED, THERM_TRIP_N and PWM at mid level (R259, R260, R263). -/
def ftTrip (k : Nat) (g : Gov) : Gov :=
  let c := g.ft.cyc
  let st := (g.ft.stamps.filter (fun s => decide (c - s < 45 * 2 ^ 30)))
  let n := min 3 (st.length + 1)
  let g := { g with ft := { g.ft with stamps := c :: st, ovr := 1, cool := 0 } }
  let g := (((g.wr F.FT_STAT_TRIPPED 1).wr F.FT_STAT_TRIPS n).wr F.FT_STAT_TRIP_DIODE k).wr F.FT_STAT_TRIPS_TOTAL
    (satN 11 (g.rd F.FT_STAT_TRIPS_TOTAL + 1))
  let g := if 2 ≤ n then g.wr F.FT_STAT_DERATE 1 else g
  if 3 ≤ n then g.wr F.FT_STAT_LATCHED 1 else g

/-- Firethorn trips where a diode that is not excluded has read at or above TRIP on 2 consecutive scans (R259). -/
def ftTripCheck (b : Build) (g : Gov) : Gov :=
  if g.flag F.FT_STAT_TRIPPED then g
  else
    match (List.range 32).find? (fun k => g.ftCounts b k && decide (2 ≤ (g.ftDiode k).above)) with
    | some k => ftTrip k g
    | none => g

/-- The conversion of the next diode in scan order: anode voltage `v` and the two differences, nV (R77, R257, R258).
Diode inputs of unbuilt dies are ignored. The trip follows the second reading at or above TRIP at once, which the
bound of R259 requires (DEDUCED, log 10). -/
def diodeConversion (b : Build) (v dv1 dv2 : Int) (g : Gov) : Gov :=
  if g.aon ∧ g.ft.pos < 32 then
    let k := g.ft.pos
    let g := { g with ft := { g.ft with pos := k + 1, cyc := g.ft.cyc + 320 } }
    if k < 4 * b.dies then
      let tr := mget (0x083, 0) g.ft.trims k
      let rd : Option Int := if 1200000000 < v ∨ v < 100000000 then none else diodeReading dv1 dv2 tr.1 tr.2
      let x := g.ftDiode k
      match rd with
      | none => (g.wr (F.FT_DSTAT_FLT k) 1).setFtDiode k { x with bad := min 4 (x.bad + 1), good := 0 }
      | some t =>
        let hot := decide ((g.rd F.FT_ACT_TRIP : Int) ≤ t)
        let g := (g.wr (F.FT_DSTAT_FLT k) 0).wr (F.FT_DSTAT_TEMP k) (ux 16 t)
        let g := g.setFtDiode k { bad := 0, good := min 4 (x.good + 1), above := if hot then min 2 (x.above + 1) else 0 }
        ftTripCheck b g
    else g
  else g

/-! ## The end of a scan -/

/-- Events of Firethorn reach the recorder once the core has taken its first status after reset (R511). -/
def Gov.ftHeard (g : Gov) : Bool := g.live && g.th.ftSeen

/-- Diode `k` is excluded or restored (R258). -/
def ftExclude (k : Nat) (g : Gov) : Gov :=
  let x := g.ftDiode k
  if bit (g.rd F.FT_STAT_EXCL) k then
    if 4 ≤ x.good then
      let g := (g.clrBit F.FT_STAT_EXCL k).wr (F.FT_DSTAT_EXCL k) 0
      if g.ftHeard then g.ev 0x4014 k 0 0 0 else g
    else g
  else if 4 ≤ x.bad then
    let g := (g.setBit F.FT_STAT_EXCL k).wr (F.FT_DSTAT_EXCL k) 1
    if g.ftHeard then g.ev 0x4014 k 1 0 0 else g
  else g

/-- BLIND follows the excluded diodes; the core asserts SERVICE_REQ_N for a blind die (R258). -/
def ftBlind (b : Build) (g : Gov) : Gov :=
  g.each (List.range b.dies) (fun g d =>
    if (List.range 4).all (fun i => bit (g.rd F.FT_STAT_EXCL) (4 * d + i)) then
      let g := g.setBit F.FT_STAT_BLIND d
      if g.ftHeard then g.svc 7 else g
    else g.clrBit F.FT_STAT_BLIND d)

/-- Every diode of a built die that was not excluded read below RESTART on this scan (R262). -/
def ftCoolScan (b : Build) (g : Gov) : Bool :=
  (List.range (4 * b.dies)).all (fun k => bit (g.rd F.FT_STAT_EXCL) k
    || (!g.flag (F.FT_DSTAT_FLT k) && decide (sx 16 (g.rd (F.FT_DSTAT_TEMP k)) < (g.rd F.FT_ACT_RESTART : Int))))

/-- Release at a scan end (R262). -/
def ftRelease (g : Gov) : Gov :=
  let t := g.ft.stamps.headD 0
  if g.flag F.FT_STAT_TRIPPED ∧ g.flag F.FT_STAT_LATCHED = false ∧ 4 ≤ g.ft.cool
      ∧ g.rd F.FT_ACT_MIN_OFF * 2 ^ 20 ≤ g.ft.cyc - t then
    { g.wr F.FT_STAT_TRIPPED 0 with ft := { g.ft with ovr := 0 } }
  else g

/-- The words of the configuration shadow: FT_CFG's fields, then IDEAL and OFS of every diode (R265). -/
def Gov.ftShadow (g : Gov) : List Nat :=
  [g.rd F.FT_CFG_TRIP, g.rd F.FT_CFG_RESTART, g.rd F.FT_CFG_MIN_OFF, g.rd F.FT_CFG_LOCK]
    ++ (List.range 32).map (fun k => g.rd (F.FT_DTRIM_IDEAL k)) ++ (List.range 32).map (fun k => g.rd (F.FT_DTRIM_OFS k))

/-- A shadow that Firethorn may accept (R265). -/
def ftShadowOk (l : List Nat) : Bool :=
  let trip := l.getD 0 0
  let rs := l.getD 1 0
  decide (11520 ≤ trip ∧ trip ≤ 16000 ∧ 5120 ≤ rs ∧ rs + 1280 ≤ trip ∧ 100 ≤ l.getD 2 0)
    && (l.drop 36).all (fun o => decide (-1280 ≤ sx 12 o ∧ sx 12 o ≤ 1280))

/-- The shadow is read at a scan end; two reads that agree are acted on (R265). From a reset to the end of the Store stage
the shadow is not read. (DEDUCED, log 93) -/
def ftAccept (g : Gov) : Gov :=
  if g.flag F.FT_STAT_PEND ∧ g.flag F.FT_ACT_LOCK = false ∧ g.live ∧ g.stage ≠ sSTORE then
    let l := g.ftShadow
    if g.ft.shadow = some l then
      let g := { g.wr F.FT_STAT_PEND 0 with ft := { g.ft with shadow := none } }
      if ftShadowOk l then
        let g := (((g.wr F.FT_ACT_TRIP (l.getD 0 0)).wr F.FT_ACT_RESTART (l.getD 1 0)).wr F.FT_ACT_MIN_OFF
          (l.getD 2 0)).wr F.FT_ACT_LOCK (l.getD 3 0)
        { g with
            ft := { g.ft with
            trims := (List.range 32).map (fun k => (k, (l.getD (4 + k) 0x083, l.getD (36 + k) 0))) } }
      else
        let g := g.wr F.FT_STAT_CFG_REJ 1
        let w := l.getD 0 0 + l.getD 1 0 * 2 ^ 16 + l.getD 2 0 * 2 ^ 32 + l.getD 3 0 * 2 ^ 42
        if g.ftHeard then g.ev 0x4015 (w % 2 ^ 32) (w / 2 ^ 32) 0 0 else g
    else { g with ft := { g.ft with shadow := some l } }
  else g

/-- The scan of 32 diodes ends (R258, R259, R262, R265). -/
def scanEnd (b : Build) (g : Gov) : Gov :=
  if g.aon ∧ g.ft.pos = 32 then
    let cool := ftCoolScan b g
    let g := { g with ft := { g.ft with pos := 0, cool := if cool then min 4 (g.ft.cool + 1) else 0 } }
    let g := g.each (List.range (4 * b.dies)) (fun g k =>
      ftExclude k (g.wr (F.FT_DSTAT_SCANS k) (g.rd (F.FT_DSTAT_SCANS k) + 1)))
    let g := ftTripCheck b (ftBlind b g)
    if g.flag F.FT_STAT_TRIPPED then ftRelease g else ftAccept g
  else g

/-- Fifty-two FCLK cycles after a trip every PEN is overridden low (R260). -/
def ftPenOverride (g : Gov) : Gov :=
  if g.aon ∧ g.ft.ovr = 1 then { g with ft := { g.ft with ovr := 2 } } else g

/-- A further 52 FCLK cycles later every PWM goes to high impedance (R260). -/
def ftPwmHiz (g : Gov) : Gov :=
  if g.aon ∧ g.ft.ovr = 2 then { g with ft := { g.ft with ovr := 3 } } else g

/-- What a PWM output cell drives at the present GTIME: the override first, else the phase's level (R154, R260). -/
def Gov.pwmOut (b : Build) (g : Gov) (p : Nat) : Pwm :=
  if g.ft.ovr = 3 then .hiZ
  else if g.ft.ovr ≠ 0 then .mid
  else match railOf b g p with
    | some n => (g.phaseAt n p (16 * g.gtime)).pwm
    | none => (g.ph p).pwm

/-- What a PEN output cell drives, the override first (R260). -/
def Gov.penOut (g : Gov) (p : Nat) : Bool := if 2 ≤ g.ft.ovr then false else (g.ph p).pen

/-- THERM_TRIP_N is asserted from a trip to its release, GOV_PORST_N or not (R256, R260, R262, R263). (DEDUCED, log 92) -/
def Gov.thermTrip (g : Gov) : Bool := g.aon && g.flag F.FT_STAT_TRIPPED

/-! ## At the core (R261, R262, R511) -/

/-- A CAL_PROBE that runs or waits ends with the trip; a running one is answered 0x12 by `dropProbes`. The stage
becomes Off unless the governor is before Seq-up, and ERR is unchanged (R261). (DEDUCED, log 75) -/
def ftCoreActions (b : Build) (g : Gov) : Gov :=
  let st := g.stage
  let g := emergencyOff b g
  let g := if st ≤ sWAITCFG then g.wr F.BRG_STAT_STAGE st else g
  if g.flag F.DUMP_CTL_ON_TRIP then g.autoDump (2 + 0xF * 2 ^ 4) else g

/-- The FT_TRIP event, with the diode, its reading and TRIPS. -/
def ftTripEvent (g : Gov) : Gov :=
  let k := g.rd F.FT_STAT_TRIP_DIODE
  g.ev 0x4010 k (ux 32 (sx 16 (g.rd (F.FT_DSTAT_TEMP k)))) (g.rd F.FT_STAT_TRIPS) 0

/-- DERATE and LATCHED are recorded and assert SERVICE_REQ_N (R263). `d` and `l` say which are new to the core. -/
def ftHistory (d l : Bool) (g : Gov) : Gov :=
  let g := if d then (g.ev 0x4012 0 0 0 0).svc 8 else g
  if l then (g.ev 0x4013 0 0 0 0).svc 9 else g

/-- The trip status reaches GCLK (R261, R263). -/
def ftTripAtCore (b : Build) (g : Gov) : Gov :=
  if g.ftHeard ∧ g.flag F.FT_STAT_TRIPPED ∧ g.th.tripSeen = false then
    let g := { g with th := { g.th with tripSeen := true } }
    let g := ftHistory (g.rd F.FT_STAT_TRIPS == 2) (g.flag F.FT_STAT_LATCHED) (ftTripEvent g)
    ftCoreActions b g
  else g

/-- The hottest diode that is not excluded, with its reading. -/
def ftHottest (b : Build) (g : Gov) : Nat × Int :=
  let ks := (List.range (4 * b.dies)).filter (fun k => !bit (g.rd F.FT_STAT_EXCL) k)
  ks.foldl (fun (acc : Nat × Int) k =>
    if acc.2 < sx 16 (g.rd (F.FT_DSTAT_TEMP k)) then (k, sx 16 (g.rd (F.FT_DSTAT_TEMP k))) else acc)
    (ks.headD 0, sx 16 (g.rd (F.FT_DSTAT_TEMP (ks.headD 0))))

/-- The release reaches the core: FT_RELEASE with the hottest diode, and START with FT_AUTO in the Off stage (R262). -/
def ftReleaseAtCore (b : Build) (g : Gov) : Gov :=
  if g.ftHeard ∧ g.flag F.FT_STAT_TRIPPED = false ∧ g.th.tripSeen then
    let g := { g with th := { g.th with tripSeen := false } }
    let g := g.ev 0x4011 (ftHottest b g).1 (ux 32 (ftHottest b g).2) 0 0
    if g.rd F.TH_CTL_FT_AUTO = 1 ∧ g.stage = sOFF then (brgStart b false g).1 else g
  else g

/-- The first Firethorn status after REC_START is compared with the state after reset (R511). -/
def ftStatusAfterReset (b : Build) (g : Gov) : Gov :=
  if g.live ∧ g.recr.started ∧ g.th.ftSeen = false then
    let g := { g with th := { g.th with ftSeen := true } }
    let trip := g.flag F.FT_STAT_TRIPPED
    let g := if trip then ftTripEvent { g with th := { g.th with tripSeen := true } } else g
    let g := ftHistory (g.flag F.FT_STAT_DERATE) (g.flag F.FT_STAT_LATCHED) g
    let g := g.each (List.range (4 * b.dies)) (fun g k =>
      if bit (g.rd F.FT_STAT_EXCL) k then g.ev 0x4014 k 1 0 0 else g)
    let g := if g.rd F.FT_STAT_BLIND ≠ 0 then g.svc 7 else g
    if trip then ftCoreActions b g else g
  else g

end Sys2Proof.Machine
end

