-- ==== Sys2Proof/Machine/PlaceStep.lean ====
section
/-! DEFINITION. A placement step (spec/11, spec/12): the descriptor, its refusals, the snapshot, leaves, shards,
continues, joins, moves, spills, and the reply (R293 to R313, R326 to R331). -/

namespace Sys2Proof.Machine

/-! ## The descriptor (R294) -/

/-- A shard record (Table 11.2). -/
structure Shard where
  ntile : Nat
  pin : Bool
  pinDie : Nat
  pwr : Nat
  ctx : Nat
  first : Nat
  count : Nat

/-- A sequence record (Table 11.3). -/
structure SRec where
  skey : Nat
  kind : Nat
  prio : Nat
  ctx : Nat
  grow : Nat

/-- A step descriptor (Table 11.1) with its records. -/
structure Desc where
  nomig : Bool
  step : Nat
  nshard : Nat
  nseq : Nat
  replyAddr : Nat
  replyLen : Nat
  shards : List Shard
  recs : List SRec

/-- A shard record from its two 64-bit words. -/
def shardOf (a c : Nat) : Shard :=
  { ntile := bits a 0 7, pin := bit a 8, pinDie := bits a 16 3, pwr := bits a 32 16, ctx := bits a 48 12,
    first := bits c 0 16, count := bits c 16 16 }

/-- A sequence record from its two 64-bit words. -/
def srecOf (a c : Nat) : SRec :=
  { skey := bits a 0 32, kind := bits a 32 2, prio := bits a 40 3, ctx := bits a 48 12, grow := bits c 0 16 }

/-- NSHARD and NSEQ may stand in a descriptor (R295, 0x22). -/
def countsOk (ns nq : Nat) : Bool := decide (1 ≤ ns ∧ ns ≤ 512 ∧ nq ≤ 2048)

/-- The descriptor that 64-bit little-endian words spell; records beyond the counts of R295 are not read. -/
def descOf (l : List Nat) : Desc :=
  let w := fun i => l.getD i 0
  let ns := bits (w 1) 0 16
  let nq := bits (w 1) 16 16
  let ok := countsOk ns nq
  { nomig := bit (w 0) 16, step := bits (w 0) 32 32, nshard := ns, nseq := nq, replyAddr := bits (w 2) 4 52 * 16,
    replyLen := bits (w 3) 0 32,
    shards := if ok then (List.range ns).map (fun i => shardOf (w (8 + 2 * i)) (w (9 + 2 * i))) else [],
    recs := if ok then (List.range nq).map (fun j => srecOf (w (8 + 2 * ns + 2 * j)) (w (9 + 2 * ns + 2 * j))) else [] }

/-- FORMAT and the reserved bits of the header, and of the records where the counts stand (R295, 0x21). -/
def descBad (l : List Nat) : Bool :=
  let w := fun i => l.getD i 0
  let ns := bits (w 1) 0 16
  let nq := bits (w 1) 16 16
  bits (w 0) 0 16 != 1 || bits (w 0) 17 15 != 0 || bits (w 1) 32 32 != 0 || bits (w 2) 56 8 != 0
    || bits (w 3) 32 32 != 0 || [4, 5, 6, 7].any (fun i => w i != 0)
    || (countsOk ns nq &&
      ((List.range ns).any (fun i =>
        let a := w (8 + 2 * i)
        bit a 7 || bits a 9 7 != 0 || bits a 19 13 != 0 || bits a 60 4 != 0 || bits (w (9 + 2 * i)) 32 32 != 0)
      || (List.range nq).any (fun j =>
        let a := w (8 + 2 * ns + 2 * j)
        bits a 34 6 != 0 || bits a 43 5 != 0 || bits a 60 4 != 0 || bits (w (9 + 2 * ns + 2 * j)) 16 48 != 0)))

/-- The shards whose range holds record `j`. -/
def Desc.shardsOf (d : Desc) (j : Nat) : List Nat :=
  (List.range d.shards.length).filter (fun i => match d.shards[i]? with
    | some s => decide (s.first ≤ j ∧ j < s.first + s.count)
    | none => false)

/-- The ranges of the shards and the kinds of the records agree (R295, 0x23). -/
def Desc.rangesOk (d : Desc) : Bool :=
  d.shards.all (fun s => decide (s.first + s.count ≤ d.nseq))
    && (List.range d.nseq).all (fun j => match d.recs[j]? with
      | some r =>
        let n := (d.shardsOf j).length
        if r.kind = 3 then false else if r.kind = 2 then n == 0 else n == 1
      | none => true)

/-- Pages that the records ask for. -/
def Desc.growth (d : Desc) : Nat := (d.recs.map (fun r => if r.kind = 0 ∨ r.kind = 1 then r.grow else 0)).foldl (· + ·) 0

/-- The status with which a step is refused, 0 where it is not (R295). -/
def descCheck (l : List Nat) (g : Gov) : Nat :=
  let d := descOf l
  if descBad l then 0x21
  else if countsOk d.nshard d.nseq = false ∨ 1024 < (d.recs.filter (fun r => r.kind == 0 || r.kind == 1)).length ∨
      1024 < (d.recs.filter (fun r => r.kind == 2)).length then 0x22
  else if d.rangesOk = false then 0x23
  else if d.replyLen < 64 + 8 * d.nshard + 16 * d.nseq + 4 * d.growth then 0x24
  else if g.flag F.PL_LAST_APPLIED ∧ d.step ≠ (g.pl.lastApplied + 1) % 2 ^ 32 then 0x25
  else 0

/-! ## Context policy (R298) -/

/-- DMASK allows built die `d`. -/
def dieAllowed (b : Build) (pol d : Nat) : Bool := decide (d < b.dies) && (bits pol 0 8 == 0 || bit pol d)

/-- TMASK of a policy. -/
def tmask (pol : Nat) : Nat := if bits pol 8 3 = 0 then 3 else bits pol 8 3

/-- A record's PRIO after PRIO_MAX of its context. -/
def Gov.recPrio (g : Gov) (r : SRec) : Nat := min r.prio (bits (g.policy r.ctx) 12 3)

/-- MIG of a context. -/
def Gov.mayMove (g : Gov) (c : Nat) : Bool := bit (g.policy c) 11

/-! ## Results of a step -/

/-- A shard's result (Table 11.10). -/
structure ShRes where
  die : Option Nat := none
  result : Nat := 3
  part : Nat := 0
  tiles : Nat := 0
  score : Nat := 0

/-- A record's result (Table 11.11), with its priority, whether frames were lacking, and its pages below T0. -/
structure SqRes where
  sid : Nat := 0x7FF
  result : Nat := 0
  home : Nat := 15
  first : Nat := 0
  count : Nat := 0
  prio : Nat := 0
  lackF : Bool := false
  low : Nat := 0

/-- What a step carries along: the governor, the results, the new-page words in allocation order, the frames that
leaves released, and the counts of moves. -/
structure Work where
  g : Gov
  sh : Sparse ShRes := []
  sq : Sparse SqRes := []
  new : List Nat := []
  rel : List Nat := []
  nmove : Nat := 0

/-! ## Sequences -/

/-- The LIVE or DEFERRED sequence with this SKEY in this context (R304). -/
def Gov.findSeq (g : Gov) (skey ctx : Nat) : Option Nat :=
  match g.pl.seqs.find? (fun (e : Nat × Seqn) =>
    (e.2.state == qLIVE || e.2.state == qDEFERRED) && e.2.skey == skey && e.2.ctx == ctx) with
  | some e => some e.1
  | none => none

/-- No page: HEAD and TAIL (Table 11.7). -/
def noPage : Nat := 0x100000

/-- The list from page `p` on, at most `n` pages. -/
def Gov.chainFrom (g : Gov) : Nat → Nat → List Nat
  | 0, _ => []
  | n + 1, p =>
    let x := g.page p
    if x.next = p then [p] else p :: g.chainFrom n x.next

/-- The pages of slot `sid` in logical order from HEAD. -/
def Gov.chain (g : Gov) (sid : Nat) : List Nat :=
  let s := g.seqn sid
  if s.head = noPage then [] else g.chainFrom (g.pagesOf s.uid).length s.head

/-- A second record naming the same SKEY and CTX among those that come after the leaves, or among the leaves (R304). -/
def Desc.dup (d : Desc) (j : Nat) : Bool :=
  match d.recs[j]? with
  | some r => (d.recs.take j).any (fun q => q.skey == r.skey && q.ctx == r.ctx && (q.kind == 2) == (r.kind == 2))
  | none => false

/-! ## Leaves (R304, R326) -/

/-- One page of a leaving sequence: FREE at once, its frame free for the rest of the step, or DRAIN. -/
def leavePage (step : Nat) (w : Work) (p : Nat) : Work :=
  let g := w.g
  let x := g.page p
  if !g.named p ∧ !g.pageOrds p ∧ x.state = pRESIDENT then
    let (g, rel) := if x.tier = 3 then (g, w.rel)
      else ((g.release p x.frame step false).freeFrame x.frame, w.rel ++ [x.frame])
    { w with g := g.setPage p { x with state := pFREE }, rel := rel }
  else
    let g := g.drainPage p
    { w with g := g.setPage p { g.page p with selStep := step } }

/-- LEAVE records, in record order. A page that stays DRAIN belongs to no sequence (R326). (DEDUCED, log 47) -/
def stepLeaves (d : Desc) (w : Work) : Work :=
  (List.range d.recs.length).foldl (fun (w : Work) j => match d.recs[j]? with
    | some r =>
      if r.kind = 2 then
        if d.dup j then { w with sq := mput w.sq j { result := 3 } }
        else match w.g.findSeq r.skey r.ctx with
          | some sid =>
            let w := (w.g.pagesOf (w.g.seqn sid).uid).foldl (leavePage d.step) w
            { w with
              g := w.g.setSeqn sid { w.g.seqn sid with state := qFREE, head := noPage, tail := noPage, uid := 0 },
              sq := mput w.sq j { sid := sid, result := 4 } }
          | none => { w with sq := mput w.sq j { result := 2 } }
      else w
    | none => w) w

/-! ## The snapshot (R296, R299 to R301) -/

/-- What R300 and R301 take of each die at the snapshot. -/
structure DieSnap where
  margin : Int := 0
  he : Int := 0
  free0 : Nat := 0
  frames0 : Nat := 0

/-- Tile `t` is available (R299). -/
def Gov.tileAvail (b : Build) (g : Gov) (t : Nat) : Bool :=
  b.tile t && !g.flag (F.ST_TILE_NOREP t) && !g.flag (F.ST_TILE_HOLD_OFF t) && !g.tileHeld t
    && g.running (g.rd (F.ST_THR_RAIL (t / 64)))
    && !(List.range b.rails).any (fun n => (g.mode n == mHICCUP || g.mode n == mFAULT) && bit (g.lf n (F.RAIL_PROT_DIEMASK n)) (t / 64))

/-- AV[q][d], by q × 8 + d. -/
def Gov.availAll (b : Build) (g : Gov) : Sparse Nat :=
  (List.range b.dies).foldl (fun m d => (List.range b.tiles).foldl (fun (m : Sparse Nat) i =>
    let t := 64 * d + i
    if g.tileAvail b t then mput m (g.tilePart t * 8 + d) (mget 0 m (g.tilePart t * 8 + d) + 1) else m) m) []

/-- HC and HR of R300, before PLAN. -/
def Gov.dieHead (b : Build) (g : Gov) (d : Nat) : Int :=
  let hc : Int := (g.rd (F.DMD_DIE_CEIL d) : Int) - (g.dieDemand b d : Int)
  let hs := ((List.range b.rails).filter (fun n => g.railDie n == d)).map (fun n =>
    (((min (g.rd (F.RAIL_PSTAT_ILIM_RAIL n)) (g.rd (F.BUD_RAIL_LIM n)) : Nat) : Int) - (g.pkOf n : Int))
      * (g.vsetNow n : Int) / 4000)
  hs.foldl (fun a x => if x < a then x else a) hc

/-- The snapshot of die `d`. -/
def Gov.dieSnap (b : Build) (g : Gov) (d : Nat) : DieSnap :=
  { margin := sx 12 (g.rd (F.TH_DIE_MARGIN d)), he := g.dieHead b d, free0 := g.framesFree d, frames0 := g.framesSet d }

/-- A ratio of R301, in 1/1,024 and at most 1,024. -/
def ratio (i : Int) (ref : Nat) : Nat := min 1024 (i.toNat * 1024 / (if ref = 0 then 1 else ref))

/-- nt of R301. -/
def Gov.scoreNt (g : Gov) (s : DieSnap) : Nat := ratio s.margin (g.rd F.PL_POLICY_TREF)

/-- nf of R301. -/
def scoreNf (s : DieSnap) : Nat := if s.frames0 = 0 then 0 else s.free0 * 1024 / s.frames0

/-- Headroom as PL_DIE.HE holds it: signed, saturating. -/
def heField (i : Int) : Nat := ux 16 (satS 16 i)

/-! ## Shards (R300 to R302) -/

/-- A shard's context is not LIVE. -/
def Gov.badCtx (g : Gov) (s : Shard) : Bool := (g.ctx s.ctx).st != 1

/-- Records of a shard, with their indices. -/
def Desc.recsOf (d : Desc) (s : Shard) : List (Nat × SRec) :=
  ((List.range s.count).map (fun k => s.first + k)).filterMap (fun j => (d.recs[j]?).map (fun r => (j, r)))

/-- The pages of the CONT sequences of a shard: their number, and by die those near it (TOT and LOC of R301). -/
def Gov.locality (d : Desc) (s : Shard) (g : Gov) : Nat × Sparse Nat :=
  let sids := (d.recsOf s).filterMap (fun (e : Nat × SRec) =>
    if e.2.kind = 0 ∧ e.2.ctx = s.ctx ∧ d.dup e.1 = false then g.findSeq e.2.skey e.2.ctx else none)
  let ps := sids.flatMap (fun sid => g.pagesOf (g.seqn sid).uid)
  let near := fun (p : Nat) =>
    let x := g.page p
    if x.tier = 0 then some (x.loc / 2 ^ 18) else if x.tier = 1 then some (g.rd (F.PL_STACK_DIE (x.loc / 2 ^ 18))) else none
  (ps.length, ps.foldl (fun (m : Sparse Nat) p => match near p with
    | some k => if k < 8 then mput m k (mget 0 m k + 1) else m
    | none => m) [])

/-- Shards in the order of R302. -/
def Desc.shardOrder (d : Desc) (g : Gov) : List Nat :=
  let key := fun (i : Nat) => match d.shards[i]? with
    | some s => maxOf ((d.recsOf s).map (fun (e : Nat × SRec) => g.recPrio e.2)) id * 65536 + s.pwr
    | none => 0
  let rec ins (i k : Nat) : List (Nat × Nat) → List (Nat × Nat)
    | [] => [(i, k)]
    | (j, m) :: r => if m < k then (i, k) :: (j, m) :: r else (j, m) :: ins i k r
  ((List.range d.shards.length).foldl (fun l i => ins i (key i) l) []).map (·.1)

/-- What the shards placed so far have taken: AV, PLAN, and SHARDS of each die. -/
structure ShTake where
  av : Sparse Nat := []
  plan : Sparse Nat := []
  n : Sparse Nat := []
  res : Sparse ShRes := []

/-- The best of the candidates by score, the lower die on a tie. -/
def bestDie (l : List (Nat × Nat)) : Option (Nat × Nat) :=
  l.foldl (fun (a : Option (Nat × Nat)) e => match a with
    | some x => if x.2 < e.2 then some e else some x
    | none => some e) none

/-- One shard is placed (R300 to R302). -/
def placeShard (b : Build) (g : Gov) (d : Desc) (snap : List DieSnap) (t : ShTake) (i : Nat) : ShTake :=
  match d.shards[i]? with
  | none => t
  | some s =>
    let q := (g.ctx s.ctx).part
    if g.badCtx s then { t with res := mput t.res i { result := 4, part := q } }
    else
      let pol := g.policy s.ctx
      let av := fun (k : Nat) => mget 0 t.av (q * 8 + k)
      let he := fun (k : Nat) => (snap.getD k {}).he - ((mget 0 t.plan k : Nat) : Int)
      let cand := (List.range b.dies).filter (fun k =>
        (if s.pin then k == s.pinDie else dieAllowed b pol k) && decide (0 < av k))
      let (tot, loc) := g.locality d s
      let score := fun (k : Nat) =>
        let x := snap.getD k {}
        g.rd F.PL_POLICY_WT * g.scoreNt x + g.rd F.PL_POLICY_WE * ratio (he k - (s.pwr : Int)) (g.rd F.PL_POLICY_EREF)
          + g.rd F.PL_POLICY_WM * (if tot = 0 then 0 else mget 0 loc k * 1024 / tot) + g.rd F.PL_POLICY_WF * scoreNf x
      let pick := fun (p : Nat → Bool) => bestDie ((cand.filter p).map (fun k => (k, score k)))
      let room := fun (k : Nat) => decide (s.ntile ≤ av k)
      let fits := fun (k : Nat) => decide ((s.pwr : Int) ≤ he k)
      let choice := match pick (fun k => room k && fits k) with
        | some e => some (e, 0)
        | none => match pick (fun k => room k && !fits k) with
          | some e => some (e, 1)
          | none => match pick (fun k => !room k) with
            | some e => some (e, 2)
            | none => none
      match choice with
      | some ((k, sc), r) =>
        let n := min s.ntile (av k)
        { av := mput t.av (q * 8 + k) (av k - n), plan := mput t.plan k (mget 0 t.plan k + s.pwr),
          n := mput t.n k (mget 0 t.n k + 1),
          res := mput t.res i { die := some k, result := r, part := q, tiles := n, score := sc } }
      | none => { t with res := mput t.res i { result := 3, part := q } }

/-! ## Allocation (R306 to R309, R327) -/

/-- Stacks that satisfy `p`. -/
def stacksBy (b : Build) (g : Gov) (p : Nat → Bool) : List Nat :=
  (List.range b.nStacks).filter (fun m => p (g.rd (F.PL_STACK_DIE m)))

/-- The peer windows that a page may take (R307). -/
def Gov.peersUsable (g : Gov) : List Nat :=
  (List.range 32).filter (fun w => g.flag (F.PL_PEER_EN w) && !g.flag (F.PL_PEER_UNREACH w))

/-- The groups of containers of R308 in order, from T0 or from item 2, for home die `h` (15: none). -/
def placeGroups (b : Build) (g : Gov) (pol h : Nat) (below : Bool) : List (List Nat) :=
  let t1 := bit (tmask pol) 1
  let i1 := if bit (tmask pol) 0 ∧ h < 8 ∧ !below then [h] else []
  let i2 := if t1 ∧ h < 8 then stacksBy b g (fun k => k == h) else []
  let i3 := if t1 then stacksBy b g (fun k => k == 8) else []
  let i4 := if t1 then stacksBy b g (fun k => k != h && dieAllowed b pol k) else []
  let i5 := if bit (tmask pol) 2 ∧ g.flag F.PL_CTL_T2EN then g.peersUsable else []
  [i1, i2.map (32 + ·), i3.map (32 + ·), i4.map (32 + ·)] ++ i5.map (fun w => [64 + w])

/-- The container of a group with the most free frames, the lower index on a tie; none where none is free. -/
def Gov.mostFree (g : Gov) (l : List Nat) : Option Nat :=
  match l.foldl (fun (a : Option (Nat × Nat)) c => match a with
    | some x => if x.2 < g.framesFree c then some (c, g.framesFree c) else some x
    | none => some (c, g.framesFree c)) none with
  | some e => if 0 < e.2 then some e.1 else none
  | none => none

/-- The container a page takes under R308. -/
def Gov.container (b : Build) (g : Gov) (pol h : Nat) (below : Bool) : Option Nat :=
  (placeGroups b g pol h below).findSome? (fun l => g.mostFree l)

/-- Frames that a record could take (R327). -/
def Gov.couldTake (b : Build) (g : Gov) (pol h : Nat) : Nat :=
  ((placeGroups b g pol h false).flatMap id).foldl (fun a c => a + g.framesFree c) 0

/-- Banks of the residency table below PLIM that hold entries: one that is dark holds none (R443, R487). -/
def Gov.pageBanks (g : Gov) : List Nat :=
  (List.range (g.rd F.PL_STAT_PLIM / 32768)).filter (fun k => g.rd (F.STORE_MAP_PHYS k) != 63)

/-- Page indices of bank `k` whose entries are not FREE, ascending. -/
def Gov.pagesTaken (g : Gov) (k : Nat) : List Nat :=
  mkeys (fun p x => x.state != pFREE && p / 32768 == k) g.pl.pages

/-- FREE entries below PLIM (PL_STAT.FREEP). -/
def Gov.freePages (g : Gov) : Nat :=
  (g.pageBanks.map (fun k => 32768 - (g.pagesTaken k).length)).foldl (· + ·) 0

/-- The lowest FREE page index (R309), of a bank that is not dark (DEDUCED, log 51). -/
def Gov.lowPage (g : Gov) : Nat :=
  (g.pageBanks.findSome? (fun k =>
    let p := firstGap (32768 * k) (g.pagesTaken k)
    if p < 32768 * (k + 1) then some p else none)).getD (g.rd F.PL_STAT_PLIM)

/-- One page is allocated for slot `sid` and appended at its tail (R308, R309): the new-page word, where one could
be. -/
def allocPage (b : Build) (sid step : Nat) (g : Gov) : Gov × Option Nat :=
  let s := g.seqn sid
  match g.container b (g.policy s.ctx) s.home false with
  | none => (g, none)
  | some c => match g.lowFrame c with
    | none => (g, none)
    | some f =>
      let p := g.lowPage
      let g := (g.takeFrame f).setPage p
        { state := pRESIDENT, tier := frTier f, sid := sid, loc := frLoc f, next := p, uid := s.uid,
          ctx := s.ctx, cgen := s.cgen, part := s.part, selStep := step }
      let g := if s.tail = noPage then g else g.setPage s.tail { g.page s.tail with next := p }
      (g.setSeqn sid { s with head := if s.head = noPage then p else s.head, tail := p }, some (p + frTier f * 2 ^ 20))

/-- `n` pages are allocated for slot `sid`. -/
def allocPages (b : Build) (sid step : Nat) : Nat → Gov → List Nat → Gov × List Nat
  | 0, g, l => (g, l)
  | n + 1, g, l =>
    match allocPage b sid step g with
    | (g, some x) => allocPages b sid step n g (l ++ [x])
    | (g, none) => (g, l)

/-- A record's pages, whole or not at all (R327): the governor, the words, and 0 where they were allocated, 1 where
frames lacked, 2 where only entries did. -/
def growWhole (b : Build) (sid step n : Nat) (g : Gov) : Gov × List Nat × Nat :=
  let s := g.seqn sid
  if g.couldTake b (g.policy s.ctx) s.home < n then (g, [], 1)
  else if g.freePages < n then (g, [], 2)
  else
    let (g, l) := allocPages b sid step n g []
    (g, l, 0)

/-- A deferral is entered in the slot (Table 12.11). (DEDUCED, log 49) -/
def Gov.noteDefer (g : Gov) (sid step : Nat) : Gov :=
  let s := g.seqn sid
  g.setSeqn sid { s with dstep := if s.dcnt = 0 then step else s.dstep, dcnt := satN 16 (s.dcnt + 1) }

/-- The result of a record whose pages were allocated. -/
def Work.grown (w : Work) (j : Nat) (g : Gov) (words : List Nat) (x : SqRes) : Work :=
  { w with
    g := g, new := w.new ++ words,
    sq := mput w.sq j { x with
      first := if words = [] then 0 else w.new.length, count := words.length,
      low := (words.filter (fun v => decide (2 ^ 20 ≤ v))).length } }

/-! ## CONT and JOIN (R304, R327, R328) -/

/-- The die of the shard of record `j`, and its index: none for a shard that is not placed. -/
def Work.dieOf (w : Work) (d : Desc) (j : Nat) : Option Nat × Nat :=
  match d.shardsOf j with
  | i :: _ => ((mget {} w.sh i).die, i)
  | [] => (none, 0)

/-- A CONT or JOIN record is turned away before anything else: CTX or DUPLICATE; 0 where it is not. -/
def Work.turnedAway (w : Work) (d : Desc) (j : Nat) (r : SRec) : Nat :=
  match d.shardsOf j with
  | i :: _ =>
    let c := match d.shards[i]? with
      | some s => s.ctx
      | none => 0
    if (mget {} w.sh i).result = 4 ∨ r.ctx ≠ c then 5 else if d.dup j then 3 else 0
  | [] => 5

/-- A CONT record's sequence takes its shard's die, LAST and SHARD (R304). -/
def Work.takePart (w : Work) (d : Desc) (j sid : Nat) : Gov :=
  let s := w.g.seqn sid
  let (die, i) := w.dieOf d j
  w.g.setSeqn sid { s with home := die.getD s.home, last := d.step, shard := i }

/-- CONT records of LIVE sequences, in record order. -/
def stepConts (b : Build) (d : Desc) (w : Work) : Work :=
  (List.range d.recs.length).foldl (fun (w : Work) j => match d.recs[j]? with
    | some r =>
      if r.kind = 0 then
        match w.turnedAway d j r with
        | 0 => match w.g.findSeq r.skey r.ctx with
          | none => { w with sq := mput w.sq j { result := 2 } }
          | some sid =>
            if (w.g.seqn sid).state = qDEFERRED then w
            else
              let g := w.takePart d j sid
              let x : SqRes := { sid := sid, home := (g.seqn sid).home, prio := g.recPrio r }
              match growWhole b sid d.step r.grow g with
              | (g, words, 0) => w.grown j g words x
              | (g, _, k) =>
                { w with g := g.noteDefer sid d.step, sq := mput w.sq j { x with result := 1, lackF := k == 1 } }
        | c => { w with sq := mput w.sq j { result := c } }
      else w
    | none => w) w

/-- The lowest FREE slot (R304). -/
def Gov.freeSlotId (g : Gov) : Option Nat :=
  lowest 1024 (fun sid => (g.seqn sid).state == qFREE)

/-- The home die of a JOIN whose shard found no candidate (R304). -/
def Gov.homeless (b : Build) (g : Gov) (pol : Nat) : Nat :=
  match bestDie (((List.range b.dies).filter (dieAllowed b pol)).map (fun k => (k, g.framesFree k))) with
  | some e => e.1
  | none => 15

/-- A record of item 4 on its slot: allocated and LIVE, or DEFERRED, which binds lower priorities of the same die
(R328 items 2 to 4). `blk` lists (die, priority, frames lacked) of the deferrals so far. -/
def joinGrow (b : Build) (d : Desc) (j sid : Nat) (r : SRec) (blk : List (Nat × Nat × Bool)) (w : Work) :
    Work × List (Nat × Nat × Bool) :=
  let h := (w.g.seqn sid).home
  let p := w.g.recPrio r
  let x : SqRes := { sid := sid, home := h, prio := p }
  let stop := blk.filter (fun e => e.1 == h && decide (p < e.2.1))
  if stop ≠ [] then
    let lf := stop.any (fun e => e.2.2)
    ({ w with
       g := (w.g.setSeqn sid { w.g.seqn sid with state := qDEFERRED }).noteDefer sid d.step,
       sq := mput w.sq j { x with result := 1, lackF := lf } }, blk)
  else
    match growWhole b sid d.step r.grow w.g with
    | (g, words, 0) => (w.grown j (g.setSeqn sid { g.seqn sid with state := qLIVE }) words x, blk)
    | (g, _, k) =>
      ({ w with
         g := (g.setSeqn sid { g.seqn sid with state := qDEFERRED }).noteDefer sid d.step,
         sq := mput w.sq j { x with result := 1, lackF := k == 1 } }, blk ++ [(h, p, k == 1)])

/-- A JOIN record (R304, R328). -/
def joinRec (b : Build) (d : Desc) (j : Nat) (r : SRec) (blk : List (Nat × Nat × Bool)) (w : Work) :
    Work × List (Nat × Nat × Bool) :=
  match w.turnedAway d j r with
  | 0 =>
    if (w.g.findSeq r.skey r.ctx).isSome then ({ w with sq := mput w.sq j { result := 3 } }, blk)
    else
      let (die, i) := w.dieOf d j
      let h := die.getD (w.g.homeless b (w.g.policy r.ctx))
      match w.g.freeSlotId with
      | none => ({ w with sq := mput w.sq j { result := 1, home := h, prio := w.g.recPrio r } }, blk)
      | some sid =>
        let c := w.g.ctx r.ctx
        let s : Seqn := {
          state := qLIVE, prio := w.g.recPrio r, ctx := r.ctx, cgen := c.cgen, part := c.part, home := h,
          skey := r.skey, head := noPage, tail := noPage, jstep := d.step, last := d.step, shard := i,
          upd := (w.g.seqn sid).upd, uid := w.g.pl.uids }
        let g := w.g.setSeqn sid s
        joinGrow b d j sid r blk { w with g := { g with pl := { g.pl with uids := g.pl.uids + 1 } } }
  | c => ({ w with sq := mput w.sq j { result := c } }, blk)

/-- The records of item 4 in order: descending PRIO, retries of DEFERRED sequences before JOINs, then record order. -/
def Work.item4 (w : Work) (d : Desc) : List Nat :=
  let js := (List.range d.recs.length).filter (fun j => match d.recs[j]? with
    | some r => r.kind == 1 || (r.kind == 0 && (mfind w.sq j).isNone)
    | none => false)
  let at' := fun (p k : Nat) => js.filter (fun j => match d.recs[j]? with
    | some r => w.g.recPrio r == p && r.kind == k
    | none => false)
  [7, 6, 5, 4, 3, 2, 1, 0].flatMap (fun p => at' p 0 ++ at' p 1)

/-- Item 4 of R297. -/
def stepJoins (b : Build) (d : Desc) (w : Work) : Work :=
  ((w.item4 d).foldl (fun (a : Work × List (Nat × Nat × Bool)) j => match d.recs[j]? with
    | some r =>
      let (w, blk) := a
      if r.kind = 1 then joinRec b d j r blk w
      else match w.g.findSeq r.skey r.ctx with
        | some sid => joinGrow b d j sid r blk { w with g := w.takePart d j sid }
        | none => ({ w with sq := mput w.sq j { result := 2 } }, blk)
    | none => a) (w, [])).1

/-! ## Moves and spills (R310, R330) -/

/-- Page `p` is selected: DEFERRED, its destination frame reserved (Table 12.3). -/
def Gov.select (g : Gov) (p f step : Nat) (spill : Bool) : Gov :=
  let x := g.page p
  (g.takeFrame f).setPage p { x with
    state := pDEFERRED, dst := some f, spill := spill, selStep := step, selT := g.gtime, waitH := none, abort := false }

/-- Page `p` may be selected: RESIDENT in T0 and not held for a dump (R471). -/
def Gov.selectable (g : Gov) (p : Nat) : Bool :=
  let x := g.page p
  x.state == pRESIDENT && x.tier == 0 && !g.recr.dumpHold.contains p

/-- The moves of R310. -/
def stepMoves (d : Desc) (order : List Nat) (w : Work) : Work :=
  let q := w.g.rd F.PL_CTL_MIGQ
  if d.nomig ∨ q = 0 then w
  else order.foldl (fun (w : Work) i => match d.shards[i]?, (mget {} w.sh i).die with
    | some s, some k => (d.recsOf s).foldl (fun (w : Work) (e : Nat × SRec) =>
      let r := mget {} w.sq e.1
      if e.2.kind = 0 ∧ r.sid < 1024 ∧ (r.result = 0 ∨ r.result = 1) ∧ w.g.mayMove e.2.ctx then
        (w.g.chain r.sid).foldl (fun (w : Work) p =>
          if w.nmove < q ∧ w.g.selectable p ∧ (w.g.page p).loc / 2 ^ 18 ≠ k ∧ bit (tmask (w.g.policy e.2.ctx)) 0 then
            match w.g.lowFrame k with
            | some f => { w with g := w.g.select p f d.step false, nmove := w.nmove + 1 }
            | none => w
          else w) w
      else w) w
    | _, _ => w) w

/-- The victims on die `h` below priority `p`, in the order of R330. -/
def Gov.victims (g : Gov) (h p : Nat) : List Nat :=
  let ss := g.pl.seqs.filter (fun (e : Nat × Seqn) => e.2.state == qLIVE && decide (e.2.prio < p) && g.mayMove e.2.ctx)
  let less := fun (a c : Nat × Seqn) =>
    decide (a.2.prio < c.2.prio) || (a.2.prio == c.2.prio && (decide (a.2.last < c.2.last) ||
      (a.2.last == c.2.last && decide (a.1 < c.1))))
  let rec ins (x : Nat × Seqn) : List (Nat × Seqn) → List (Nat × Seqn)
    | [] => [x]
    | y :: r => if less x y then x :: y :: r else y :: ins x r
  ((ss.foldl (fun l x => ins x l) []).flatMap (fun (e : Nat × Seqn) => g.chain e.1)).filter (fun x =>
    g.selectable x && (g.page x).loc / 2 ^ 18 == h)

/-- Spills from die `h`, with the number that may still be selected. -/
def spillDie (b : Build) (d : Desc) (a : Work × Nat) (h : Nat) : Work × Nat :=
  let (w, left) := a
  let recs := w.sq.filter (fun (e : Nat × SqRes) =>
    e.2.home == h && ((e.2.result == 1 && e.2.lackF) || decide (0 < e.2.low)))
  if recs = [] then a
  else
    let p := maxOf (recs.map (fun (e : Nat × SqRes) => e.2.prio)) id
    let grow := (recs.map (fun (e : Nat × SqRes) => if e.2.result = 1 then (match d.recs[e.1]? with
      | some r => r.grow
      | none => 0) else e.2.low)).foldl (· + ·) 0
    let need := grow - w.g.framesFree h
    let r := (w.g.victims h p).foldl (fun (a : Gov × Nat × Nat) x =>
      let (g, need, left) := a
      if need = 0 ∨ left = 0 then a
      else
        let s := g.seqn (g.page x).sid
        match g.container b (g.policy s.ctx) s.home true with
        | some c => match g.lowFrame c with
          | some f => (g.select x f d.step true, need - 1, left - 1)
          | none => a
        | none => a) (w.g, need, left)
    ({ w with g := r.1 }, r.2.2)

/-- The spills of R330. -/
def stepSpills (b : Build) (d : Desc) (w : Work) : Work :=
  if w.g.flag F.PL_SPILL_SPILL_EN then ((List.range 8).foldl (spillDie b d) (w, w.g.rd F.PL_SPILL_SPILLQ)).1 else w

/-! ## Frames of the leaves at the end of the step (R320, R326) -/

/-- A frame that a leave released and the step took again delays the reply until its RELEASE completes; one that was
not taken is free when its RELEASE completes, and not before. -/
def stepFrames (w : Work) : Work :=
  w.rel.foldl (fun (w : Work) f =>
    let c := frCont f
    if (w.g.framesUsed c).contains (f % 2 ^ 18) then
      { w with
        g := { w.g with
        pl := { w.g.pl with
        ords := w.g.pl.ords.map (fun o =>
          if o.kind = 3 ∧ o.src = f ∧ o.issued = false then { o with replyWait := true } else o) } } }
    else { w with g := w.g.takeFrame f }) w

/-! ## The reply (R311) -/

/-- The header words of a reply; DONE stands in the last (Table 11.9). -/
def replyHead (status step tSnap tDone nsh nsq nnew nmove ndefer : Nat) : List Nat :=
  [1 + status * 2 ^ 16 + step * 2 ^ 32, tSnap, tDone, nsh + nsq * 2 ^ 16 + nnew * 2 ^ 32, nmove + ndefer * 2 ^ 32,
   0, 0, 2 ^ 32]

/-- A shard result's word (Table 11.10). -/
def ShRes.word (x : ShRes) : Nat :=
  x.die.getD 15 + x.result * 2 ^ 4 + x.part * 2 ^ 8 + x.tiles * 2 ^ 16 + x.score * 2 ^ 32

/-- A sequence result's words (Table 11.11). (DEDUCED, log 48) -/
def SqRes.words (x : SqRes) (skey : Nat) : List Nat :=
  [skey + x.sid * 2 ^ 32 + x.result * 2 ^ 44 + x.home * 2 ^ 48, x.first + x.count * 2 ^ 32]

/-- New-page words two to a 64-bit word. -/
def pairUp : List Nat → List Nat
  | [] => []
  | [a] => [a]
  | a :: c :: r => (a + c * 2 ^ 32) :: pairUp r

/-- Records with result DEFERRED. -/
def Work.nDefer (w : Work) : Nat := (w.sq.filter (fun (e : Nat × SqRes) => e.2.result == 1)).length

/-- The whole reply of an applied step. -/
def Work.reply (w : Work) (d : Desc) (status tSnap : Nat) : List Nat :=
  replyHead status d.step tSnap w.g.gtime d.nshard d.nseq w.new.length w.nmove w.nDefer
    ++ (List.range d.nshard).map (fun i => (mget {} w.sh i).word)
    ++ (List.range d.nseq).flatMap (fun j => (mget {} w.sq j).words (match d.recs[j]? with
      | some r => r.skey
      | none => 0))
    ++ pairUp w.new

/-! ## The SEQUENCE dump at the snapshot (R471) -/

/-- A SEQUENCE dump armed for this step takes its copy, and is written: at once, or after the dump that runs. -/
def Gov.snapDump (g : Gov) (step : Nat) : Gov :=
  match g.recr.armed with
  | some a =>
    if a.kind = 1 ∧ a.step = step then
      let g := ({ g with recr := { g.recr with armed := none } }).wr F.DUMP_STAT_SEQ_ARMED 0
      let (g, a) := match g.findSeq a.skey a.ctx with
        | some sid =>
          let ps := g.chain sid
          (({ g with recr := { g.recr with dumpHold := ps } }).wr F.DUMP_STAT_HOLD 1,
            { a with sid := some sid, pages := ps.take 49124, status := if 49124 < ps.length then 3 else 0 })
        | none => (g, { a with status := 2 })
      let secs := if a.sid.isSome then [256, 16 * a.pages.length] else []
      if g.recr.dump.isSome then { g with recr := { g.recr with seqWait := some a } } else g.beginDump a secs
    else g
  | none => g

/-! ## The step -/

/-- PL_DIE of every built die is written with the inputs and results of the step (Table 11.24). -/
def writeDies (b : Build) (snap : List DieSnap) (av : Sparse Nat) (t : ShTake) (g : Gov) : Gov :=
  g.each (List.range b.dies) (fun g d =>
    let x := snap.getD d {}
    let g := (g.wr (F.PL_DIE_SHARDS d) (satN 8 (mget 0 t.n d))).wr (F.PL_DIE_AVAIL d) (sumTo 16 (fun q => mget 0 av (q * 8 + d)))
    ((g.wr (F.PL_DIE_HE d) (heField x.he)).wr (F.PL_DIE_NT d) (g.scoreNt x)).wr (F.PL_DIE_NF d) (scoreNf x))

/-- A step accepted under R295 is applied from the present state (R296, R297): the governor, the status and the reply
words. -/
def applyStep (b : Build) (d : Desc) (g : Gov) : Gov × Nat × List Nat :=
  let g := g.snapDump d.step
  let g := g.each (mkeys (fun _ x => x.state == pDEFERRED) g.pl.pages) (fun g p => g.dropSelection p)
  let tSnap := g.gtime
  let snap := (List.range 8).map (fun k => g.dieSnap b k)
  let av := g.availAll b
  let order := d.shardOrder g
  let w := stepLeaves d { g := g }
  let t := order.foldl (placeShard b w.g d snap) { av := av }
  let w := { w with g := writeDies b snap av t w.g, sh := t.res }
  let w := stepFrames (stepSpills b d (stepMoves d order (stepJoins b d (stepConts b d w))))
  let n := w.nDefer
  let dies := (w.sq.filter (fun (e : Nat × SqRes) => e.2.result == 1)).map (fun (e : Nat × SqRes) => e.2.home)
  let g := if n = 0 then w.g
    else (w.g.count (F.PL_CNT_COUNT 6) n).ev 0x5004 d.step n (dies.foldl min 15) 0
  let fine := (List.range d.nshard).all (fun i => (mget {} w.sh i).result == 0)
    && (List.range d.nseq).all (fun j => let r := (mget {} w.sq j).result; r == 0 || r == 4)
  let st := if fine then 0 else 0x50
  let g := { g with pl := { g.pl with lastApplied := d.step } }
  (g.wr F.PL_LAST_APPLIED 1, st, ({ w with g := g }).reply d st tSnap)

/-- The whole descriptor of the step in progress has come, as 64-bit words: the step is refused, or applied
(R293 to R311). -/
def descriptorFetchDone (b : Build) (l : List Nat) (g : Gov) : Gov :=
  match g.pl.cur with
  | some c =>
    if c.fetched then g
    else
      let g := g.dmaShut 3
      let d := descOf l
      let st := descCheck l g
      let g := g.wr F.PL_LAST_STEP d.step
      let r := if st = 0 then applyStep b d g
        else (g, st, replyHead st d.step g.gtime g.gtime 0 0 0 0 0)
      let g := r.1.wr F.PL_LAST_STATUS r.2.1
      let c := { c with fetched := true, replyAddr := d.replyAddr, reply := r.2.2 }
      ({ g with pl := { g.pl with cur := some c } }).dmaOpen 3 d.replyAddr true r.2.2
        (replyParts (8 * r.2.2.length))
  | none => g

/-! ## Submitting, starting and ending a step (R293, R311, R404) -/

/-- A pending step starts where none is in progress and no error of the function stands (R63, R293, R404). -/
def Gov.startPending (g : Gov) : Gov :=
  match g.pl.pend with
  | some s =>
    if g.pl.cur.isNone ∧ !g.flag F.PL_STAT_FETCH_ERR ∧ !g.flag F.PL_STAT_REPLY_ERR ∧ !g.flag F.DMA_STAT_PL_ERR then
      ({ g with pl := { g.pl with cur := some s, pend := none } }).dmaOpen 3 s.addr false []
        fetchParts
    else g
  | none => g

/-- PL_STAT.STATE. -/
def Gov.plState (g : Gov) : Nat := if g.pl.pend.isSome then 2 else if g.pl.cur.isSome then 1 else 0

/-- PL_STEP: the step is in progress or pending, or a step is pending already (R293, R404). -/
def plSubmit (addr : Nat) (g : Gov) : Gov × Bool :=
  if g.pl.pend.isSome then (g, false)
  else (({ g with pl := { g.pl with pend := some { addr := addr, tCmd := g.gtime } } }).startPending, true)

/-- The step in progress is over: contexts revoked meanwhile are torn down, and a pending step starts (R333, R293). -/
def plEnd (g : Gov) : Gov :=
  let rv := g.pl.revoked
  let g := { g with pl := { g.pl with cur := none, revoked := [] } }
  (rv.foldl (fun g e => tearDown e.1 e.2 g) g).startPending

/-- The reply's write responses have come: DONE is written, no frame of a leave that the step took being still to be
released (R311, R326). -/
def stepReplyDone (g : Gov) : Gov :=
  match g.pl.cur with
  | some c =>
    if c.fetched ∧ !g.pl.ords.any (fun o => o.replyWait) then
      plEnd ((g.dmaShut 3).histo 60 (((g.gtime - c.tCmd) / 1000 : Nat) : Int))
    else g
  | none => g

end Sys2Proof.Machine
end

