-- ==== Sys2Proof/Machine/PlaceOrders.lean ====
section
/-! DEFINITION. Placement orders as they are issued, completed and timed out (R315 to R320, R322, R331, R334), and the
walk of the residency table after a lost entry (R439 to R441). -/

namespace Sys2Proof.Machine

/-! ## Issue (R315, R316, R319) -/

/-- The entry of slot `sid` is written again where the sequence instance still owns it (R303). -/
def Gov.seqWritten (g : Gov) (sid uid : Nat) : Gov :=
  if (g.seqn sid).uid = uid ∧ (g.seqn sid).state ≠ qFREE then g.setSeqn sid (g.seqn sid) else g

/-- An order goes out under the next ID, with the partition generation as it stands (R316, R428). -/
def Gov.sendOrd (g : Gov) (o : Ord) : Gov :=
  let x := g.page o.page
  let o := { o with
    id := g.pl.nextId, issued := true, tIssue := g.gtime, pgen := g.pgen o.part,
    ver := if x.uid = o.uid then x.ver else o.ver }
  let g := { g with pl := { g.pl with nextId := (g.pl.nextId + 1) % 65536, ords := g.pl.ords ++ [o], plo := some o } }
  (g.seqWritten o.sid o.uid).trace 5 7 (o.id + o.kind * 2 ^ 16) (o.page + o.ver * 2 ^ 20) o.sid 0

/-- The order of `kind` about `page` is issued: a COPY of a DEFERRED page that no write grant names, or the oldest
XLATE_INV or RELEASE that waits (R319, R322). -/
def orderIssue (kind page : Nat) (g : Gov) : Gov :=
  if 4096 ≤ g.ordsOut then g
  else if kind = 1 then
    let x := g.page page
    match x.dst with
    | some f =>
      if x.state = pDEFERRED ∧ g.writeRefs page = 0 then
        let g := g.traceWaited page
        let g := g.setPage page { x with state := pMOVING, abort := false, waitH := none }
        g.sendOrd { g.ordFor 1 page with src := x.frame, dst := f, spill := x.spill }
      else g
    | none => g
  else
    match g.pl.ords.find? (fun o => o.kind == kind && o.page == page && !o.issued) with
    | some o => ({ g with pl := { g.pl with ords := g.pl.ords.erase o } }).sendOrd o
    | none => g

/-! ## Completion (R317, R318, R320, R334) -/

/-- The record of an order in PLO_DATA (Table 12.2), as a number of 64 bytes. -/
def Ord.record (o : Ord) : Nat :=
  o.id + o.kind * 2 ^ 16 + b2n o.spill * 2 ^ 24 + (o.page + o.ver * 2 ^ 20) * 2 ^ 32
    + (if o.kind = 2 then 0 else (frTier o.src + frLoc o.src * 4) * 2 ^ 64)
    + (if o.kind = 1 then (frTier o.dst + frLoc o.dst * 4) * 2 ^ 96 else 0)
    + o.ctx * 2 ^ 128 + o.cgen * 2 ^ 144 + o.part * 2 ^ 152 + o.pgen * 2 ^ 156 + o.sid * 2 ^ 160 + o.step * 2 ^ 192
    + o.tIssue * 2 ^ 256

/-- A completed COPY of a page that is still its sequence's (Table 12.3). -/
def copyDone (o : Ord) (good : Bool) (g : Gov) : Gov :=
  let p := o.page
  let x := g.page p
  if x.state = pMOVING then
    if good ∧ x.abort = false then
      let g := g.setPage p { x with
        state := pOLDKEEP, tier := frTier o.dst, loc := frLoc o.dst, ver := (x.ver + 1) % 16, old := some o.src,
        dst := none, invDone := false, spill := false }
      let s := g.seqn x.sid
      let g := if o.spill ∧ s.uid = x.uid then g.setSeqn x.sid { s with spilled := satN 32 (s.spilled + 1) } else g
      (g.queueOrd { g.ordFor 2 p with step := o.step }).count (F.PL_CNT_COUNT (if o.spill then 2 else 0)) 1
    else
      let g := g.setPage p { x with state := pRESIDENT, dst := none, abort := false, spill := false }
      (g.release p o.dst o.step false).count (F.PL_CNT_COUNT (if o.spill then 3 else 1)) 1
  else g

/-- A completed XLATE_INV: grants decided before it hold the old frame still (R322 item 5). -/
def invComplete (o : Ord) (g : Gov) : Gov :=
  let x := g.page o.page
  if x.state = pOLDKEEP ∧ x.uid = o.uid then (g.setPage o.page { x with invDone := true }).dropOld o.page else g

/-- An XLATE_INV or RELEASE was completed otherwise than with 0b00: counted, issued once more, and at a second failure
the frame it concerns is withheld (R317). -/
def orderFailed (o : Ord) (g : Gov) : Gov :=
  let g := g.count (F.PL_CNT_COUNT 5) 1
  if o.retried = false then g.queueOrd { o with issued := false, retried := true, late := false }
  else if o.kind = 3 then g.withholdFrame o.src 1
  else
    let g := match (g.page o.page).old with
      | some f => if (g.page o.page).uid = o.uid then g.withholdFrame f 1 else g
      | none => g
    invComplete o g

/-- A written-off order is counted (R334); the destination of a COPY is released. -/
def lateOrder (o : Ord) (g : Gov) : Gov :=
  let g := (g.count (F.PL_CNT_COUNT 4) 1).count F.PL_TD_LATE 1
  if o.kind = 1 then
    let g := g.tryFree o.page
    let x := g.page o.page
    if x.state = pDRAIN ∧ x.uid = o.uid ∧ x.dst = some o.dst then
      (g.setPage o.page { x with dst := none }).release o.page o.dst o.step false
    else g
  else g

/-- A completion arrives (R318). -/
def orderCompletion (id code : Nat) (g : Gov) : Gov :=
  match g.pl.ords.find? (fun o => o.issued && o.id == id) with
  | none => if g.live then ((g.count (F.PL_CNT_COUNT 5) 1).wr F.PL_ORD_PROTO 1).ev 0x5002 id code 0 0 else g
  | some o =>
    let g := { g with pl := { g.pl with ords := g.pl.ords.erase o } }
    let g := g.trace 5 8 (id + o.kind * 2 ^ 16 + code * 2 ^ 20) (o.page + o.ver * 2 ^ 20) o.sid ((g.gtime - o.tIssue) / 1000)
    let g := if code = 3 ∧ o.kind = 1 then g.count (F.PL_CNT_COUNT 5) 1 else g
    let g := if o.wo then lateOrder o g else g
    let g :=
      if o.kind = 1 then (if o.wo then g else copyDone o (code == 0) g)
      else if code ≠ 0 then orderFailed o g
      else if o.kind = 2 then (if o.wo then g else invComplete o g)
      else if o.replyWait then g else g.freeFrame o.src
    ((g.seqWritten o.sid o.uid).tryFree o.page).freeSlots

/-! ## Timeout (R319, cause 4 of Table 15.1) -/

/-- An order has been outstanding for more than ORD_TO. -/
def orderTimeout (b : Build) (id : Nat) (g : Gov) : Gov :=
  match g.pl.ords.find? (fun o => o.issued && o.id == id && !o.late) with
  | none => g
  | some o =>
    let g := g.runTo (o.tIssue + g.rd F.PL_TD_ORD_TO * 1000 + 1)
    let g := { g with pl := { g.pl with ords := g.pl.ords.map (fun q => if q = o then { q with late := true } else q) } }
    let g := (g.wr F.PL_ORD_TIMEOUT 1).ev 0x5003 id o.kind o.page 0
    ladder b 3 0 4 0 (g.dwHang 4 0 0 id 0)

/-! ## Lost words of the sequence and residency tables (R439 to R441) -/

/-- A sequence ends because a word of the store was lost (R439): its slot and pages go to DRAIN, and what nothing
names is freed at once. -/
def seqLost (sid skey ctx : Nat) (g : Gov) : Gov :=
  let s := g.seqn sid
  if s.state = qLIVE ∨ s.state = qDEFERRED then
    let g := g.setSeqn sid { s with state := qDRAIN, ttd := g.gtime }
    let ps := g.pagesOf s.uid
    let g := g.each ps (fun g p => g.drainPage p)
    let g := g.ev 0x5009 sid skey ctx 0
    (g.each ps (fun g p => g.tryFree p)).freeSlots
  else g

/-- Lost residency entries are written FREE with TIER 3; the walk that follows is still to come (R440). -/
def Gov.loseEntry (g : Gov) (p : Nat) : Gov :=
  let x := g.page p
  let g := g.setPage p { x with state := pFREE, tier := 3, loc := 0, dst := none, old := none }
  let g := if x.state ≠ pFREE ∧ (g.seqn x.sid).uid = x.uid then
      g.setSeqn x.sid { g.seqn x.sid with lostPg := (g.seqn x.sid).lostPg + 1 } else g
  { g with pl := { g.pl with walk := true, lostPages := insertNat p g.pl.lostPages } }

/-- Frames that surviving entries and orders still name. -/
def Gov.framesNamed (g : Gov) : List Nat :=
  (g.pl.pages.filter (fun e => e.2.state != pFREE && e.2.tier != 3)).flatMap (fun (e : Nat × Page) =>
    [e.2.frame] ++ e.2.old.toList ++ e.2.dst.toList)
    ++ (g.pl.ords.filter (fun o => o.kind == 3)).map (·.src)

/-- The walk of R440 has ended: sequences that reach a lost index or come up short end, and frames that USED counts
but nothing names are withheld. It waits for the reply of the step in progress (Table 15.7). -/
def residencyWalkDone (g : Gov) : Gov :=
  if g.pl.walk ∧ g.pl.cur.isNone then
    let bad := mkeys (fun _ s => s.state != qFREE && decide (0 < s.lostPg)) g.pl.seqs
    let g := { g with pl := { g.pl with walk := false, lostPages := [] } }
    let g := g.each bad (fun g sid =>
      let s := g.seqn sid
      (seqLost sid s.skey s.ctx (g.setSeqn sid { s with lostPg := 0 })).freeSlots)
    let named := g.framesNamed
    let gone := (g.pl.used.flatMap (fun (e : Nat × List Nat) => e.2.map (fun f => frameOf (e.1 / 32) (e.1 % 32) f))).filter
      (fun f => !named.contains f && !g.pl.held.contains f)
    g.each gone (fun g f => g.withholdFrame f 2)
  else g

end Sys2Proof.Machine
end

