-- ==== Sys2Proof/Machine/Store.lean ====
section
/-! DEFINITION. The banks of the store (R28, R437 to R444, R487): errors, retirement, the source of a replacement, the
copy, and what a lost word means for each function (Table 15.6). -/

namespace Sys2Proof.Machine

/-! ## Banks -/

/-- Physical bank that serves logical bank `b`; 63 where it is dark. -/
def Gov.phys (g : Gov) (b : Nat) : Nat := g.rd (F.STORE_MAP_PHYS b)
/-- Function that holds logical bank `b` (codes of R452); 15 none. -/
def Gov.func (g : Gov) (b : Nat) : Nat := g.rd (F.STORE_MAP_FUNC b)
/-- Logical bank `b` is dark (R487). -/
def Gov.dark (g : Gov) (b : Nat) : Bool := g.phys b == 63
/-- Logical banks that function `f` holds whole, those being given up apart. -/
def Gov.heldBanks (g : Gov) (f : Nat) : List Nat :=
  (List.range 48).filter (fun b => g.func b == f && !g.dark b && !g.store.gone.contains b)
/-- The same without the banks that wait for one of the residency table (R443). -/
def Gov.keptBanks (g : Gov) (f : Nat) : List Nat :=
  (g.heldBanks f).filter (fun b => !g.store.waits.any (fun e => e.1 == b))

/-- The highest of a list. -/
def topOf (l : List Nat) : Option Nat := l.foldl (fun (a : Option Nat) x => match a with
  | some y => some (max x y)
  | none => some x) none

/-- What the source of R28 gives for logical bank `b`: the logical bank given up, or none. A retired bank that itself waits
for one of the residency table is no whole bank of its function (R443). A function that gives up its own highest bank,
where that is `b`, goes without a replacement. (DEDUCED, log 51) -/
def Gov.bankSource (g : Gov) (b : Nat) : Option Nat :=
  let own := g.func b
  let from_ := fun (f least : Nat) =>
    let l := g.keptBanks f
    if l.length < least then none
    else if f = own then (if l.any (fun x => x != b) then topOf l else none)
    else topOf l
  match [(9, 1), (5, 1), (4, 3)].findSome? (fun (e : Nat × Nat) => from_ e.1 e.2) with
  | some h => if h = b then none else some h
  | none => if own = 0 then none else topOf (g.keptBanks 0)

/-! ## Sizes that follow the banks -/

/-- SLOTS for the banks that the ring keeps (R451). -/
def Gov.slotsFor (g : Gov) : Nat := max 16384 (8192 * (g.keptBanks 4).length)

/-- The ring takes the size its banks give; REC_RESIZE comes first under it (R451). -/
def Gov.resizeRing (g : Gov) : Gov :=
  let n := g.slotsFor
  let o := g.rd F.REC_HEAD_SLOTS
  if n = o then g
  else
    let e : Evt := { code := 0x0002, time := g.gtime, unal := !g.flag F.GTIME_STAT_ALIGNED, p0 := o, p1 := n }
    let g := g.wr F.REC_HEAD_SLOTS n
    { g with recr := { g.recr with queue := e :: g.recr.queue } }

/-- Trace buffers whose space is given up (R467). -/
def Gov.traceGone (g : Gov) : Nat :=
  let n := (g.keptBanks 5).length
  if n = 0 then 0xFF else if n = 1 then 0xF0 else 0

/-- Buffers without space are disabled and their entries go (R467). -/
def Gov.shrinkTrace (g : Gov) : Gov :=
  let m := g.traceGone
  g.each ((List.range 8).filter (fun k => bit m k && !bit (g.rd F.TRC_CTL_GONE) k)) (fun g k =>
    ((g.setBit F.TRC_CTL_GONE k).clrBit F.TRC_CTL_EN k).setTbuf k { g.tbuf k with img := [], held := 0 })

/-- PLIM falls by one bank (R309). -/
def Gov.plimDown (g : Gov) : Gov :=
  ({ g with pl := { g.pl with given := g.pl.given + 1 } }).wr F.PL_STAT_PLIM (g.rd F.PL_STAT_PLIM - 32768)

/-- Function `f` has lost or given up a bank. -/
def Gov.shrink (g : Gov) (f : Nat) : Gov :=
  if f = 4 then g.resizeRing else if f = 5 then g.shrinkTrace
  else if f = 6 ∧ (g.heldBanks 6) = [] then g.wr F.HIST_CTL_GONE 1 else g

/-! ## Lost words (Table 15.6) -/

/-- Base of a histogram block within the store. -/
def histBase (h : Nat) : Nat := 0xA80000 + 0x8000 + 512 * h

/-- A lost word of the live configuration image at window offset `o` (R442). -/
def loseConfig (b : Build) (o : Nat) (g : Gov) : Gov :=
  let fs := (b.fieldsAt o).filter (fun f => keyRetained f.key)
  let sh := g.rd F.CFG_STAT_STATE != 1 && !g.cfg.changed
  let g := fs.foldl (fun g f => g.wr f (if sh then mget f.rst g.cfg.shadow f.key else f.rst)) g
  ((g.dirty).ev 0x6007 o (b2n sh) 0 0).svc 15

/-- A lost word of the histograms and extremes region, at offset `o` from its base. -/
def loseHist (o : Nat) (g : Gov) : Gov :=
  if o < 0x8000 then g.setTrec (o / 64) { g.trec (o / 64) with wiped := true }
  else
    let h := (o - 0x8000) / 512
    let w := (o - 0x8000) % 512
    if 64 ≤ h then g
    else if 64 ≤ w then g.setHist h { g.hist h with buckets := mdel (g.hist h).buckets ((w - 64) / 8) }
    else g.setHist h { g.hist h with image := {} }

/-- The word at store offset `off` is lost. A lost check word covers nothing until it is written again. (DEDUCED, log 51) -/
def loseWord (b : Build) (off : Nat) (g : Gov) : Gov :=
  let g := g.count (F.RCV_CNT_COUNT 7) 1
  if off < 0x800000 then g.loseEntry (off / 8)
  else if off < 0x8C0000 then g
  else if off < 0x900000 then
    let sid := (off - 0x8C0000) / 256
    let w := (off - 0x8C0000) % 256 / 8
    let s := g.seqn sid
    seqLost sid (if w = 1 then 0 else s.skey) (if w = 0 then 0xFFFF else s.ctx) g
  else if off < 0xA00000 then
    { g with recr := { g.recr with ring := mdel g.recr.ring ((off - 0x900000) / 32) } }
  else if off < 0xA80000 then
    let k := (off - 0xA00000) / 0x10000
    let slot := (off - 0xA00000) % 0x10000 / 32
    g.setTbuf k { g.tbuf k with img := mdel (g.tbuf k).img slot }
  else if off < 0xAB0000 then loseHist (off - 0xA80000) g
  else if off < 0xAC0000 then g
  else if off < 0xAE0000 then
    if (b.fieldsAt (off - 0xAC0000)).any (fun f => keyRetained f.key) then loseConfig b (off - 0xAC0000) g else g
  else if 0xB00000 ≤ off ∧ off < 0xB20000 then
    if g.rd F.CFG_STAT_STATE = 1 then (g.abortStage).ev 0x7007 (g.rd F.CFG_STAT_OWNER) 0 0 0 else g
  else if off = 0xB3FFF8 then { (g.dirty) with cfg := { (g.dirty).cfg with chk := none } }
  else g

/-- Word offsets of logical bank `k` whose loss changes anything. -/
def Gov.bankWords (b : Build) (g : Gov) (k : Nat) : List Nat :=
  if k < 32 then (mkeys (fun i x => x.state != pFREE && i / 32768 == k) g.pl.pages).map (8 * ·)
  else if k = 35 then (mkeys (fun _ s => s.state == qLIVE || s.state == qDEFERRED) g.pl.seqs).map (fun sid => 0x8C0000 + 256 * sid)
  else if 36 ≤ k ∧ k < 40 then
    (mkeys (fun i _ => i / 8192 == k - 36) g.recr.ring).map (fun i => 0x900000 + 32 * i)
  else if k = 43 then
    ((List.range 0x4000).map (8 * ·)).filter (fun o => (b.fieldsAt o).any (fun f => keyRetained f.key))
      |>.map (0xAC0000 + ·)
  else if k = 44 then [0xB00000, 0xB3FFF8]
  else []

/-! ## Retirement (R437, R438, R443, R444) -/

/-- Logical bank `k` goes dark (R487). -/
def Gov.goDark (g : Gov) (k : Nat) : Gov :=
  ((g.wr (F.STORE_MAP_PHYS k) 63).wr (F.STORE_MAP_FUNC k) 15).wr (F.STORE_MAP_COPY k) 0

/-- The copy of logical bank `k` into the bank that served `h` begins. -/
def Gov.startCopy (g : Gov) (k h : Nat) : Gov :=
  { g.wr (F.STORE_MAP_COPY k) 1 with store := { g.store with copying := some (k, h) } }

/-- A residency bank given up passes once every entry in it is FREE and no copy runs (R443, R444). -/
def Gov.bankPass (g : Gov) : Gov :=
  if g.store.copying.isSome then g
  else
    match g.store.waits.find? (fun (e : Nat × Nat) =>
      !g.pl.pages.any (fun (p : Nat × Page) => p.2.state != pFREE && p.1 / 32768 == e.2)) with
    | some e => ({ g with store := { g.store with waits := g.store.waits.erase e } }).startCopy e.1 e.2
    | none => g

/-- Logical bank `k` is retired for reason `why` (cases 1 to 4 of R437), no copy being in progress. -/
def retireNow (b : Build) (k why : Nat) (g : Gov) : Gov :=
  let p := g.phys k
  let f := g.func k
  let g := ((g.setBit F.STORE_RET_BANKS p).wr F.STORE_RET_NRET (g.rd F.STORE_RET_NRET + 1)).svc 10
  let src := g.bankSource k
  let g := g.ev 0x6006 p why f (match src with
    | some h => g.phys h
    | none => 0xFF)
  match src with
  | none =>
    let ws := g.bankWords b k
    let g := (g.goDark k).shrink f
    let g := if f = 0 then g.plimDown else g
    ws.foldl (fun g o => loseWord b o g) g
  | some h =>
    let sf := g.func h
    let g := { g with store := { g.store with gone := h :: g.store.gone } }
    if sf = 0 then
      let g := ({ g with store := { g.store with waits := g.store.waits ++ [(k, h)] } }).plimDown
      (g.shrink f).bankPass
    else (g.shrink sf).startCopy k h

/-- The logical bank that physical bank `p` serves. -/
def Gov.servedBy (g : Gov) (p : Nat) : Option Nat := lowest 48 (fun k => g.phys k == p && !g.dark k)

/-- The retirements that wait take their turns until one of them needs a copy. A physical bank that has gone dark
meanwhile, or has been retired, is passed over (R444). -/
def retireQueued (b : Build) : List (Nat × Nat) → Gov → Gov
  | [], g => { g with store := { g.store with queue := [] } }
  | (p, why) :: r, g =>
    if g.store.copying.isSome then { g with store := { g.store with queue := (p, why) :: r } }
    else
      retireQueued b r (match g.servedBy p with
        | some k => if bit (g.rd F.STORE_RET_BANKS) p then g else retireNow b k why g
        | none => g)

/-- What comes when no copy runs: a bank of the residency table that may pass, and then the retirements that wait. -/
def bankNext (b : Build) (g : Gov) : Gov :=
  let g := g.bankPass
  retireQueued b g.store.queue g

/-- A retirement condition of logical bank `k` arises: at once, or in its turn after the copy that runs; the condition is
that of the physical bank that serves `k` (R444). (DEDUCED, log 51) -/
def retire (b : Build) (k why : Nat) (g : Gov) : Gov :=
  if g.dark k ∨ bit (g.rd F.STORE_RET_BANKS) (g.phys k) then g
  else if g.store.copying.isSome then
    if g.store.queue.any (fun (e : Nat × Nat) => e.1 == g.phys k) then g
    else { g with store := { g.store with queue := g.store.queue ++ [(g.phys k, why)] } }
  else retireNow b k why g

/-- Logical bank `k` is served by the physical bank that served `h`, which goes dark (R487). -/
def Gov.mapOver (g : Gov) (k h : Nat) : Gov :=
  ((g.wr (F.STORE_MAP_PHYS k) (g.phys h)).wr (F.STORE_MAP_COPY k) 0).goDark h

/-- The copy of logical bank `k` is over, and the bank given up is `h`; an engine rewrites the images of the signature store
and of the thermal model within 1 ms (Tables 8.6 and 9.5). -/
def copyEnd (k h : Nat) (g : Gov) : Gov :=
  let g := g.mapOver k h
  let g := { g with store := { g.store with
    copying := none, gone := g.store.gone.filter (fun x => x != h),
    rewrites := if k = 34 ∨ k = 42 then mput g.store.rewrites k g.gtime else g.store.rewrites } }
  if g.func k = 4 then g.resizeRing else g

/-- The copy of a retired bank ends, `lost` being the offsets of words of that bank that could not be read in it
(R438, R487). -/
def bankCopyDone (b : Build) (lost : List Nat) (g : Gov) : Gov :=
  match g.store.copying with
  | none => g
  | some (k, h) =>
    bankNext b (copyEnd k h
      ((lost.filter (fun o => o / 0x40000 == k)).foldl (fun g o => loseWord b (o / 8 * 8) g) g))

/-- Logical bank `k` has failed its pattern in the clearing of the Store stage: it is retired before any function uses it,
and since its words are cleared nothing is copied (R104). (DEDUCED, log 51) -/
def retireCleared (b : Build) (g : Gov) (k : Nat) : Gov :=
  if 48 ≤ k ∨ g.dark k ∨ bit (g.rd F.STORE_RET_BANKS) (g.phys k) then g
  else
    let c := g.store.copying
    let g := retireNow b k 3 { g with store := { g.store with copying := none } }
    let g := match g.store.copying with
      | some (k, h) => copyEnd k h g
      | none => g
    { g with store := { g.store with copying := c } }

/-- A read of the word at store offset `off` finds an error it cannot correct (R437 case 1, R488). -/
def uncorrectable (b : Build) (off : Nat) (g : Gov) : Gov :=
  let k := off / 0x40000
  let g := ((g.count (F.ERR_CNT_COUNT 1) 1).count F.STORE_ECC_UE 1).wr F.STORE_ECC_LAST_BANK (g.phys k)
  retire b k 1 (loseWord b (off / 8 * 8) g)

/-- A word is written back corrected: counted, and the bank retired where its corrected errors within 1 s reach CE_MAX
(R437). -/
def correctedWriteback (b : Build) (off : Nat) (g : Gov) : Gov :=
  let k := off / 0x40000
  if g.live = false ∨ 48 ≤ k ∨ g.dark k then g
  else
    let p := g.phys k
    let g := ((g.count (F.ERR_CNT_COUNT 0) 1).count F.STORE_ECC_CE 1).wr F.STORE_ECC_LAST_BANK p
    let l := g.gtime :: (mget [] g.store.ce p).filter (fun t => decide (g.gtime ≤ t + 1000000000))
    let g := { g with store := { g.store with ce := mput g.store.ce p l } }
    let mx := g.rd F.STORE_ECC_CE_MAX
    if mx ≠ 0 ∧ mx ≤ l.length then retire b k 2 g else g

/-! ## The raw bytes (Tables 8.6 and 9.5) -/

/-- The bytes of a word, 0. -/
def memLose (m : List (Nat × Byte)) (off : Nat) : List (Nat × Byte) := memPutBytes m (off / 8 * 8) 0 8

/-- Raw bytes live in the signature store and in bytes 0 to 95 of a thermal record (R485). -/
def rawByte (off : Nat) : Bool :=
  decide (0x880000 ≤ off ∧ off < 0x8C0000) || (decide (0xAB0000 ≤ off ∧ off < 0xAC0000) && decide (off % 128 < 96))

/-- The images of loaded signatures, or of the nodes in use, are written again from the working copies once logical
bank `k` has been copied. -/
def memRewrite (g : Gov) (k : Nat) (m : List (Nat × Byte)) : List (Nat × Byte) :=
  if k = 34 then g.dm.sigs.foldl (fun m (e : Nat × Sig) => memPutBytes m (sigAddr e.1) e.2.img 64) m
  else if k = 42 then g.th.nodes.foldl (fun m (e : Nat × ThNode) => memPutBytes m (thAddr e.1) e.2.cfg.raw 96) m
  else m

/-- The raw bytes after the copy of a bank, words of `lost` gone. -/
def memAfterCopy (g : Gov) (lost : List Nat) (m : List (Nat × Byte)) : List (Nat × Byte) :=
  match g.store.copying with
  | none => m
  | some (k, _) =>
    memRewrite g k ((lost.filter (fun o => o / 0x40000 == k && rawByte o)).foldl memLose m)

/-- The raw bytes after an uncorrectable word. -/
def memAfterLoss (off : Nat) (m : List (Nat × Byte)) : List (Nat × Byte) := if rawByte off then memLose m off else m

end Sys2Proof.Machine
end

