-- ==== Sys2Proof/Machine/Recovery.lean ====
section
/-! DEFINITION. Deathwatch's scan and timeouts, the recovery opcodes, and the releases of holds (spec/15, R407, R408). -/

namespace Sys2Proof.Machine

/-! ## The scan (R421, R422) -/

/-- GTO of a class, 100 µs. -/
def Gov.gto (g : Gov) (c : Nat) : Nat :=
  g.rd (if c = 0 then F.DW_GTO_GTO0 else if c = 1 then F.DW_GTO_GTO1 else if c = 2 then F.DW_GTO_GTO2 else F.DW_GTO_GTO3)

/-- The ENMASK bits of die `d` are held clear by a hiccup or a recovery hold, or GTO has not passed since that ended
(R422). -/
def Gov.dieExcused (b : Build) (g : Gov) (d c : Nat) : Bool :=
  (List.range b.rails).any (fun n => g.mode n == mHICCUP && bit (g.lf n (F.RAIL_PROT_DIEMASK n)) d)
    || (List.range b.rails).any (fun n => g.mode n == mHICCUP && g.rd (F.ST_THR_RAIL d) == n)
    || (List.range b.tiles).any (fun i => g.tileHeld (64 * d + i))
    || (match mfind g.st.holdEnd d with
      | some t => decide (g.gtime < t + g.gto c * 100000)
      | none => false)

/-- The entry of handle `h` is overdue and has not been named (R421). -/
def Gov.overdue (b : Build) (g : Gov) (h : Nat) : Bool :=
  let x := g.grant h
  x.st == 2 && !x.named && g.gto x.cls != 0
    && decide (g.gto x.cls * 400 < (g.slotNow + 2 ^ 32 - x.gslot) % 2 ^ 32) && !g.dieExcused b (b.hubOf x.req) x.cls

/-- Deathwatch reads the next entry of the grant table, in ascending handle order (R421, cause 1). (DEDUCED, log 52) -/
def dwScanRead (b : Build) (g : Gov) : Gov :=
  if g.live then
    let h := g.rcv.scan % 32768
    let g := { g with rcv := { g.rcv with scan := (h + 1) % 32768 } }
    if g.overdue b h then
      let x := g.grant h
      let g := g.setGrant h { x with named := true }
      ladder b 0 x.ctx 1 x.part (g.dwHang 1 x.ctx x.cgen x.req h)
    else g
  else g

/-! ## Timeouts of steps and of the DMA port (Table 15.1) -/

/-- The step of code `st` on `obj` that is in progress and whose timeout has not been acted on. -/
def Gov.stepOn (g : Gov) (st obj : Nat) : Option RStep :=
  g.rcv.steps.find? (fun s => s.step == st && s.obj == obj && !s.toDone)

/-- The step's timeout has been acted on. -/
def Gov.stepTimed (g : Gov) (s : RStep) : Gov :=
  { g with rcv := { g.rcv with steps := g.rcv.steps.map (fun x => if x = s then { x with toDone := true } else x) } }

/-- The drain of context `c` under its context step has outlasted DRAIN_TO: an engine step on each requester that holds
a standing grant of it (cause 2). -/
def drainTimeout (b : Build) (c : Nat) (g : Gov) : Gov :=
  match g.stepOn 0 c with
  | none => g
  | some s =>
    let g := (g.runTo (s.start + g.rd F.DW_TO_DRAIN_TO * 100000)).stepTimed s
    let x := g.ctx c
    if x.st = 2 ∧ x.ended = false ∧ s.ctxs.contains (c, x.cgen) then
      let hs := g.grantsBy (fun e => e.st == 2 && e.ctx == c)
      let rs := (hs.map (fun h => (g.grant h).req)).eraseDups
      g.each rs (fun g r => engineStep b r 2 x.part (g.dwHang 2 r x.cgen r 0))
    else g

/-- The partition step on `q` has not completed within PART_TO (cause 6). -/
def partTimeout (b : Build) (q : Nat) (g : Gov) : Gov :=
  match g.stepOn 2 q with
  | none => g
  | some s => ladder b 3 0 6 0 (((g.runTo (s.start + g.rd F.DW_TO_PART_TO * 1000000)).stepTimed s).dwHang 6 0 0 0 0)

/-- The chip step has not completed within CHIP_TO (cause 7). -/
def chipTimeout (b : Build) (g : Gov) : Gov :=
  match g.stepOn 3 0 with
  | none => g
  | some s => ladder b 4 0 7 0 (((g.runTo (s.start + g.rd F.DW_TO_CHIP_TO * 1000000)).stepTimed s).dwHang 7 0 0 0 0)

/-- The oldest transaction of DMA function `f` that has not been named yet has been outstanding for more than DMA_TO
(cause 5). -/
def dmaTimeout (b : Build) (f : Nat) (g : Gov) : Gov :=
  match mfind g.dma f with
  | none => g
  | some x =>
    match x.out.find? (fun q => !q.late) with
    | none => g
    | some q =>
      if g.rd F.DW_TO_DMA_TO = 0 then g
      else
        let g := g.runTo (q.t + g.rd F.DW_TO_DMA_TO * 1000 + 1)
        let out := x.out.map (fun r => if r.id = q.id then { r with late := true } else r)
        let g := { g with dma := mput g.dma f { x with out := out } }
        ladder b 3 0 5 0 (g.dwHang 5 0 0 0 0)

/-! ## Releases (R425, R426, R430) -/

/-- A release of partition `q`'s hold is written. -/
def releasePart (b : Build) (q : Nat) (g : Gov) : Gov :=
  if bit (g.rd F.RCV_HOLD_PART) q then
    if g.rcv.steps.any (fun s => (s.step == 2 && s.obj == q) || (s.step == 3 && s.parts.contains q)) then
      g.setBit F.RCV_HOLD_REL_PEND q
    else g.releaseHold b q
  else g

/-- A release of the chip hold is written. -/
def releaseChip (b : Build) (g : Gov) : Gov :=
  if g.flag F.RCV_HOLD_CHIP then
    if g.rcv.steps.any (fun s => s.step == 3) then g.wr F.RCV_HOLD_REL_PEND_CHIP 1 else g.releaseHold b 16
  else g

/-- A write of RCV_HOLD. -/
def rcvHoldWrite (b : Build) (w : Nat) (g : Gov) : Gov :=
  let g := g.each ((List.range 16).filter (bit w)) (fun g q => releasePart b q g)
  if bit w 16 then releaseChip b g else g

/-- A write of 1 to DW_STAT.BLOCKED. -/
def blockedClear (w : Nat) (g : Gov) : Gov :=
  if bit w 20 then { g.wr F.DW_STAT_BLOCKED 0 with rcv := { g.rcv with blocked := [] } } else g

/-! ## The recovery opcodes (R408) -/

/-- A partition in which requester `r` holds an entry, 16 for none. -/
def Gov.reqPart (g : Gov) (r : Nat) : Nat :=
  match g.grantsBy (fun x => x.st != 0 && x.req == r) with
  | h :: _ => (g.grant h).part
  | [] => 16

/-- RCV_CONTEXT; each opcode that starts a step is a detection of cause 12. -/
def rcvContext (b : Build) (c : Nat) (g : Gov) : Gov × Nat :=
  if (g.ctx c).st = 0 then (g, 0x14)
  else if g.underStep 0 c (some (g.ctxPart c)) then (g, 0x11)
  else (startStep b 0 c 12 0 (g.dwHang 12 c (g.ctx c).cgen 0 0), 2)

/-- RCV_ENGINE. -/
def rcvEngine (b : Build) (r : Nat) (g : Gov) : Gov × Nat :=
  if b.requesters ≤ r then (g, 0x22)
  else if g.underStep 1 r none then (g, 0x11)
  else (engRepeat b r (startStep b 1 r 12 (g.reqPart r) (g.dwHang 12 r 0 r 0)), 2)

/-- RCV_PARTITION. -/
def rcvPartition (b : Build) (q : Nat) (g : Gov) : Gov × Nat :=
  if b.partitions ≤ q then (g, 0x22)
  else if g.underStep 2 q none then (g, 0x11)
  else (startStep b 2 q 12 q (g.dwHang 12 q 0 0 0), 2)

/-- RCV_CHIP with its confirmation field. -/
def rcvChip (b : Build) (confirm : Nat) (g : Gov) : Gov × Nat :=
  if confirm ≠ 0x5947 then (g, 0x22)
  else if g.underStep 3 0 none then (g, 0x11)
  else (startStep b 3 0 12 0 (g.dwHang 12 0 0 0 0), 2)

/-- RCV_PWRCYC with its confirmation field. -/
def rcvPwrcyc (b : Build) (confirm : Nat) (g : Gov) : Gov × Nat :=
  if confirm ≠ 0x5947 then (g, 0x22)
  else if g.rcv.pwrcyc then (g, 1)
  else (startStep b 4 0 12 0 (g.dwHang 12 0 0 0 0), 0)

/-! ## What may follow any command -/

/-- Freed entries go to the entry wait list before anyone else, steps of the ladder have come to their completion, answers
to RAIL_CSET, and a residency bank that may pass (R218, R424, R391, R443). -/
def Gov.after (b : Build) (g : Gov) : Gov :=
  let g := (g.serve b).settleSteps b
  let g := g.each (List.range b.rails) (fun g n => g.answerCset b n)
  g.bankPass

end Sys2Proof.Machine
end

