-- ==== Sys2Proof/Machine/Hedgerow.lean ====
section
/-! DEFINITION. The Hedgerow cascade (spec/10): frames sent and received, admission of child links, the round trip and
the servo, division of budgets, epochs, lost links, holds and orphans. -/

namespace Sys2Proof.Machine

/-! ## The tree (R271 to R273, R281) -/

/-- The child links that are joined. (DEDUCED, log 46) -/
def Gov.hrKids (g : Gov) : List Nat := ((List.range 9).drop 1).filter (fun k => (g.hlink k).join)

/-- The joined children that count as parties: those whose frames carry ALIGNED (R280, R289). -/
def Gov.hrParties (g : Gov) : List Nat := g.hrKids.filter (fun k => bit (g.hlink k).pFlags 0)

/-- The device is the root, or joined to a parent. -/
def Gov.hrInTree (g : Gov) : Bool := g.hrRootDev || (g.hlink 0).join

/-- S: devices in the joined subtree. -/
def Gov.hrSubn (g : Gov) : Nat := 1 + (g.hrKids.map (fun k => g.rd (F.HR_LSTAT_PSUBN k))).foldl (· + ·) 0

/-- Height of the joined subtree. -/
def Gov.hrHt (g : Gov) : Nat := maxOf g.hrKids (fun k => g.rd (F.HR_LSTAT_PHT k) + 1)

/-- The quota of child link `k`; `adm` says whether its own subtree is counted (R273). -/
def Gov.hrQuota (g : Gov) (k : Nat) (adm : Bool) : Nat :=
  (if adm then g.rd (F.HR_LSTAT_PSUBN k) else 0) + (g.hr.quota - g.hrSubn) / 8

/-- DEM_self (R270); 0 from a Firethorn trip until release (R287). -/
def Gov.hrDemSelf (b : Build) (g : Gov) : Nat :=
  if g.flag F.FT_STAT_TRIPPED then 0
  else
    let ph := (g.dm.grants.map (fun e => if e.2.st = 1 then e.2.pwr else 0)).foldl (· + ·) 0
    min (g.rd F.BUD_MODCAP_MAX) (max g.hr.pk (g.modDemand b) + ph)

/-- Charges of lost child links still held. -/
def Gov.hrCharges (g : Gov) : Nat :=
  (((List.range 9).drop 1).map (fun k => if (g.hlink k).hold.isSome then g.rd (F.HR_CALLOC_CUR k) else 0)).foldl (· + ·) 0

/-- DEM of an UP frame (R281). -/
def Gov.hrDem (b : Build) (g : Gov) : Nat :=
  g.hrDemSelf b + (g.hrParties.map (fun k => g.rd (F.HR_CREP_DEM k))).foldl (· + ·) 0 + g.hrCharges

/-- FLOOR of an UP or HELLO frame (R281). -/
def Gov.hrFloor (g : Gov) : Nat :=
  g.rd F.BUD_MODCAP_LOCAL + (g.hrParties.map (fun k => g.rd (F.HR_CREP_FLOOR k))).foldl (· + ·) 0

/-- HEAD of an UP frame: the least thermal margin (R270, R281). -/
def Gov.hrHead (b : Build) (g : Gov) : Int :=
  let ds := (List.range b.dies).map (fun d => sx 12 (g.rd (F.TH_DIE_MARGIN d)))
  (ds ++ g.hrKids.map (fun k => (g.hlink k).pHead)).foldl (fun (m : Int) v => if v < m then v else m) 32767

/-- NDERATE of an UP frame. -/
def Gov.hrNder (g : Gov) : Nat :=
  satN 16 (b2n g.serviceReq + (g.hrKids.map (fun k => (g.hlink k).pNder)).foldl (· + ·) 0)

/-! ## Division (R280) -/

/-- The division of `bud`: the part of each party, the device itself first (as link 0), and whether the floors
exceeded it. -/
def hrDivide (bud charges : Nat) (ps : List (Nat × Nat × Nat)) : List (Nat × Nat) × Bool :=
  let b := bud - charges
  let fs := (ps.map (fun p => p.2.1)).foldl (· + ·) 0
  let ws := (ps.map (fun p => p.2.2 - p.2.1)).foldl (· + ·) 0
  let a : List (Nat × Nat) := ps.map (fun p =>
    let f := p.2.1
    let w := p.2.2 - f
    (p.1,
      if fs = 0 then (if p.1 = 0 then b else 0)
      else if b ≤ fs then f * b / fs
      else if b - fs ≤ ws then f + (if ws = 0 then 0 else w * (b - fs) / ws)
      else f + w + f * (b - fs - ws) / fs))
  let rest := b - (a.map (·.2)).foldl (· + ·) 0
  (a.map (fun p => if p.1 = 0 then (p.1, p.2 + rest) else p), decide (b < fs))

/-- The parties of the device with floor and demand: itself as link 0, then its children. -/
def Gov.hrShares (b : Build) (g : Gov) : List (Nat × Nat × Nat) :=
  (0, g.rd F.BUD_MODCAP_LOCAL, g.hrDemSelf b)
    :: g.hrParties.map (fun k => (k, g.rd (F.HR_CREP_FLOOR k), g.rd (F.HR_CREP_DEM k)))

/-- The epoch next to apply: the one whose instant comes first. -/
def Gov.hrNextEpoch (g : Gov) : Option Epoch :=
  (g.hr.pend.filter (fun e => !e.done)).foldl (fun m e => match m with
    | none => some e
    | some x => if e.time < x.time then some e else some x) none

/-- HR_STAT and HR_NEXT show the pending epoch. -/
def hrPendRegs (g : Gov) : Gov :=
  match g.hrNextEpoch with
  | some e => ((g.wr F.HR_STAT_EP_NEXT e.num).wr F.HR_STAT_PENDING 1).wr F.HR_NEXT_EP_TIME e.time
  | none => (g.wr F.HR_STAT_PENDING 0).wr F.HR_NEXT_EP_TIME 0

/-- An epoch is announced or received: `bud` is divided, and the parts become BUD_NEXT of the links (R282, R283). -/
def hrAnnounce (b : Build) (num time bud frm : Nat) (leave own : Bool) (g : Gov) : Gov :=
  let r := hrDivide bud g.hrCharges (g.hrShares b)
  let kids := r.1.filter (fun p => p.1 != 0)
  let self := ((r.1.find? (fun p => p.1 == 0)).map (·.2)).getD 0
  let e : Epoch := { num := num, time := time, bud := bud, aSelf := self, alloc := kids, from_ := frm, leave := leave,
                     own := own }
  let g := if r.2 then g.wr F.HR_STAT_FB_SHORT 1 else g
  let g := kids.foldl (fun g (p : Nat × Nat) => g.wr (F.HR_CALLOC_NEXT p.1) p.2) g
  let g := { g with hr := { g.hr with pend := (g.hr.pend.filter (fun x => !x.done)) ++ [e], epRx := num } }
  hrPendRegs g

/-- An epoch takes effect now (R283): BUD_CUR, the charges, and A_self unless it is higher than the cap in force. One
divided before the device was admitted to its present parent changes the charges of its children alone (R288). (DEDUCED,
log 103) -/
def hrTake (b : Build) (e : Epoch) (keep : Bool) (g : Gov) : Gov :=
  let g := if e.past then g else g.wr F.HR_STAT_EP_CUR e.num
  let g := if !g.hrRootDev && !e.own && !e.past then g.wr (F.HR_CALLOC_CUR 0) e.bud else g
  let g := e.alloc.foldl (fun g (p : Nat × Nat) => if (g.hlink p.1).join then g.wr (F.HR_CALLOC_CUR p.1) p.2 else g) g
  -- a device that leaves keeps no epoch announced before its own (R286)
  let rest := if e.leave && !e.past then (g.hr.pend.dropWhile (fun x => x != e)).drop 1
    else g.hr.pend.filter (fun x => x != e)
  let g := { g with hr := { g.hr with pend := if keep then { e with done := true } :: rest else rest } }
  let g := hrPendRegs g
  if e.past then g
  else if e.leave then ({ g with hr := { g.hr with inForce := none, raise := none } }).budApply b
  else if e.aSelf ≤ g.rd F.DMD_MOD_CAP then
    ({ g with hr := { g.hr with inForce := some e.aSelf, raise := none } }).budApply b
  else { g with hr := { g.hr with raise := some (g.gtime + 64, e.aSelf) } }

/-- GTIME reaches EP_TIME (R283, R286). -/
def epochApply (b : Build) (g : Gov) : Gov :=
  match g.hrNextEpoch with
  | some e => if g.live then hrTake b e false (g.runTo e.time) else g
  | none => g

/-- A higher A_self is applied 64 ns after its epoch (R283). -/
def raisedCapApply (b : Build) (g : Gov) : Gov :=
  match g.hr.raise with
  | some (t, a) =>
    if g.live then
      let g := g.runTo t
      ({ g with hr := { g.hr with inForce := some a, raise := none } }).budApply b
    else g
  | none => g

/-- The root announces a scheduled epoch LEAD µs ahead, or skips it while one is pending (R282). -/
def epochAnnounce (b : Build) (g : Gov) : Gov :=
  let per := 1000 * g.rd F.HR_EPOCH_PER
  let lead := 1000 * g.rd F.HR_EPOCH_LEAD
  if g.live ∧ g.hrRootDev ∧ g.rd F.HR_EPOCH_HALL_CAP ≠ 0 ∧ 0 < per then
    let t := max g.gtime (g.hr.lastA + 1)
    let i := (t + lead + per - 1) / per * per
    let g := g.runTo (i - lead)
    let g := { g with hr := { g.hr with lastA := i - lead } }
    if g.hrNextEpoch.isSome then g
    else hrAnnounce b ((g.hr.epRx + 1) % 65536) i (g.rd F.HR_EPOCH_HALL_CAP) (g.gtime + 1) false false g
  else g

/-- A write of HR_EPOCH.NOW at the root: an epoch for LEAD µs after the next slot, unless one is pending (R282).
(DEDUCED, log 45) -/
def hrEpochNow (b : Build) (g : Gov) : Gov :=
  if g.live ∧ g.hrRootDev ∧ g.rd F.HR_EPOCH_HALL_CAP ≠ 0 ∧ g.hrNextEpoch = none then
    let s := (g.gtime / 10000 + 1) * 10000
    hrAnnounce b ((g.hr.epRx + 1) % 65536) (s + 1000 * g.rd F.HR_EPOCH_LEAD) (g.rd F.HR_EPOCH_HALL_CAP) s false false g
  else g

/-! ## Frames sent (R274) -/

/-- `n` bytes of `v`, little-endian. -/
def leBytes : Nat → Nat → List Nat
  | 0, _ => []
  | n + 1, v => v % 256 :: leBytes n (v / 256)

/-- FLAGS of a frame header (Table 10.3). -/
def Gov.hrFlags (g : Gov) : Nat :=
  g.rd F.GTIME_STAT_ALIGNED + b2n g.brg.govReady * 2 + g.rd F.FT_STAT_TRIPPED * 4 + g.rd F.HR_STAT_ORPHAN * 8
    + b2n g.serviceReq * 16

/-- The body of a HELLO (Table 10.4). -/
def Gov.helloBody (g : Gov) (k : Nat) : List Nat :=
  [k, if g.hrInTree then g.rd F.HR_STAT_DEPTH else 0xF, g.hrHt, if k = 0 then 0 else (g.hlink k).res]
    ++ leBytes 2 g.hrSubn ++ [8, 0]
    ++ leBytes 4 (g.rd (F.HR_LINK_TXLAT k) + g.rd (F.HR_LINK_RXLAT k) * 2 ^ 12) ++ leBytes 4 g.hrFloor
    ++ leBytes 4 g.hr.path ++ leBytes 2 0x5947
    ++ leBytes 2 (g.rd F.GOV_VERSION_MAJOR % 256 * 256 + g.rd F.GOV_VERSION_MINOR % 256) ++ List.replicate 12 0

/-- The body of an UP (Table 10.5). -/
def Gov.upBody (b : Build) (g : Gov) : List Nat :=
  leBytes 4 (g.hrDem b) ++ leBytes 4 g.hrFloor ++ leBytes 2 g.hrSubn ++ [g.hrHt, 0] ++ leBytes 2 g.hr.epRx
    ++ leBytes 2 (g.rd F.HR_STAT_EP_CUR) ++ leBytes 2 (ux 16 (g.hrHead b)) ++ leBytes 2 g.hrNder ++ List.replicate 16 0

/-- PATH of the child on link `k` (R271). -/
def Gov.childPath (g : Gov) (k : Nat) : Nat := g.hr.path + k * 2 ^ (4 * g.rd F.HR_STAT_DEPTH)

/-- The body of a DOWN (Table 10.6): the pending epoch is carried from its first slot to the children it has a part
for; one applied late is forwarded until it is acknowledged; a device that is not aligned sends none (R283, R284, R288,
R289). -/
def Gov.downBody (g : Gov) (k : Nat) : List Nat :=
  let e? : Option Epoch := g.hr.pend.find? (fun (e : Epoch) => g.flag F.GTIME_STAT_ALIGNED && decide (e.from_ ≤ g.gtime) && e.alloc.any (fun (p : Nat × Nat) => p.1 == k)
    && (!e.done || (g.hlink k).pAck != e.num))
  let p : Nat × Nat × Nat × Nat := match e? with
    | some e => (e.num, 1, e.time, ((e.alloc.find? (fun (p : Nat × Nat) => p.1 == k)).map (·.2)).getD 0)
    | none => (0, 0, 0, 0)
  leBytes 4 (g.rd (F.HR_CALLOC_CUR k)) ++ leBytes 2 (g.rd F.HR_STAT_EP_CUR) ++ leBytes 2 p.1 ++ [p.2.1] ++ List.replicate 7 0
    ++ leBytes 8 p.2.2.1 ++ leBytes 4 p.2.2.2 ++ leBytes 2 (g.hrQuota k true) ++ [0, 0] ++ leBytes 4 (g.childPath k)

/-- The frame that link `k` sends next: its type and its 64 bytes as a number. -/
def Gov.hrFrame (b : Build) (g : Gov) (k : Nat) : Nat :=
  let x := g.hlink k
  let ty := if k = 0 then (if x.join then 3 else 1) else if x.join && x.sawJoined then 2 else 1
  let hd := [ty, 1] ++ leBytes 2 ((x.seq + 1) % 65536) ++ leBytes 2 x.rxSeq ++ leBytes 2 g.hrFlags
    ++ leBytes 8 ((x.txT.head?.map (·.2)).getD 0) ++ leBytes 8 (x.rxT.getD 0)
  let body := if ty = 1 then g.helloBody k else if ty = 2 then g.downBody k else g.upBody b
  let l := hd ++ body
  leNat (l ++ leBytes 4 (crc32 l))

/-- One 10 µs slot: a frame on each link that exchanges frames, unless its bit of `skip` says that the link layer was
not ready (R65, R274). Captures at SOF are taken as the GTIME of the slot. -/
def frameSlot (b : Build) (skip : Nat) (g : Gov) : Gov :=
  if g.live then
    let s := max (g.hr.slot + 1) (g.gtime / 10000)
    let g := g.runTo (10000 * s)
    let g := { g with hr := { g.hr with slot := s, pk := max g.hr.pk (g.modDemand b) } }
    let g := g.wr F.HR_STAT_SUBN (if g.hrInTree then g.hrSubn else 0)
    g.each (List.range 9) (fun g k =>
      if g.hrTalks k then
        if bit skip k then (g.count (F.HR_LSTAT_SKIP k) 1).count (F.ERR_CNT_COUNT 4) 1
        else
          let w := g.hrFrame b k
          let x := g.hlink k
          let q := (x.seq + 1) % 65536
          let g := g.setHlink k { x with seq := q, txT := ((q, g.gtime) :: x.txT).take 8, tx := w }
          if k = 0 ∨ g.hrRootDev then { g with hr := { g.hr with pk := 0 } } else g
      else g)
  else g

/-! ## Lost links (R275, R285, R286) -/

/-- A loss of link `k` within the flap window of Deathwatch (Table 15.1, cause 11). -/
def hrFlap (k : Nat) (g : Gov) : Gov :=
  let l := (k, g.gtime) :: g.rcv.flaps.filter (fun e => decide (g.gtime < e.2 + 1000000000))
  let g := { g with rcv := { g.rcv with flaps := l } }
  let mx := g.rd F.DW_CTL_FLAP_MAX
  if mx ≠ 0 ∧ mx ≤ (l.filter (fun e => e.1 == k)).length then
    let g := { g with rcv := { g.rcv with flaps := g.rcv.flaps.filter (fun e => e.1 != k) } }
    (g.dwRecord 11 k k 0 0).svc 13
  else g

/-- A joined device that loses link 0 becomes an orphan and announces its own epoch with B = 0 (R286). -/
def hrOrphan (b : Build) (g : Gov) : Gov :=
  let t := g.gtime + 1000 * g.rd F.HR_CTL_HOLD
  let g := (g.wr F.HR_STAT_ORPHAN 1).wr F.HR_STAT_JOINED 0
  let g := g.ev 0x1003 (t % 2 ^ 32) (t / 2 ^ 32) 0 0
  hrAnnounce b ((g.hr.epRx + 1) % 65536) t 0 (g.gtime + 1) true true g

/-- The charge of a lost child link (R285). -/
def Gov.hrCharge (g : Gov) (k : Nat) : Nat :=
  let cur := g.rd (F.HR_CALLOC_CUR k)
  g.hr.pend.foldl (fun m e =>
    match e.alloc.find? (fun p => p.1 == k) with
    | some p => if !e.done && (g.hlink k).pAck != e.num then max m p.2 else m
    | none => m) cur

/-- Link `k` is lost now, for cause 1 HRL_UP fell, 2 silence, 3 RX_SEQ repeated. -/
def hrLose (b : Build) (k cause : Nat) (g : Gov) : Gov :=
  let x := g.hlink k
  let g := (g.ev 0x1001 k cause 0 0).count (F.HR_LSTAT_LOSS k) 1
  let ch := g.hrCharge k
  let kid := decide (1 ≤ k) && x.join
  let hold := if kid then some g.gtime else x.hold
  let g := g.setHlink k { up := x.up && cause != 1, hold := hold, seq := x.seq }
  let g := if kid then (g.wr (F.HR_CALLOC_CUR k) ch).wr (F.HR_LSTAT_STATE k) 4
    else if g.rd (F.HR_LSTAT_STATE k) = 4 then g else g.wr (F.HR_LSTAT_STATE k) 0
  let g := hrFlap k (peerLinkLost k g)
  let g := if k = 0 ∧ x.join then hrOrphan b g else g
  hrHello k g

/-- A link is lost (R275): `cause` as in hrLose. -/
def linkLost (b : Build) (k cause : Nat) (g : Gov) : Gov :=
  if g.live ∧ k < 9 then
    if g.hrTalks k then
      let g := if cause = 2 then g.runTo ((g.hlink k).lastRx + 32000) else g
      if cause = 1 ∨ cause = 2 ∨ (cause = 3 ∧ 3 ≤ (g.hlink k).rep) then hrLose b k cause g else g
    else if cause = 1 then g.setHlink k { g.hlink k with up := false } else g
  else g

/-- HRL_UP of link `k` rises (R122, R275). -/
def hrlUpRise (k : Nat) (g : Gov) : Gov :=
  if k < 9 ∧ (g.hlink k).up = false then
    let g := g.setHlink k { g.hlink k with up := true }
    if g.live then hrHello k g else g
  else g

/-- The charge of a HELD link is released (R285). -/
def hrRelease (k : Nat) (g : Gov) : Gov :=
  let c := g.rd (F.HR_CALLOC_CUR k)
  let g := g.setHlink k { g.hlink k with hold := none }
  let g := if g.rd (F.HR_LSTAT_STATE k) = 4 then g.wr (F.HR_LSTAT_STATE k) 5 else g
  ((g.wr (F.HR_CALLOC_CUR k) 0).wr (F.HR_CALLOC_NEXT k) 0).ev 0x1004 k c 0 0

/-- HOLD + 50 µs after the loss of a child link (R285). -/
def holdEnd (k : Nat) (g : Gov) : Gov :=
  match (g.hlink k).hold with
  | some t => if g.live ∧ k < 9 then hrRelease k (g.runTo (t + 1000 * g.rd F.HR_CTL_HOLD + 50000)) else g
  | none => g

/-- A write of FORGET on a HELD link ends the hold at once (R285). -/
def hrForget (k : Nat) (g : Gov) : Gov :=
  if g.live ∧ 1 ≤ k ∧ k < 9 ∧ (g.hlink k).hold.isSome then hrRelease k g else g

/-! ## Time (R276 to R279, R289) -/

/-- `t` moved by `n`, not below 0. -/
def shiftT (n : Int) (t : Nat) : Nat := ((t : Int) + n).toNat

/-- The timers of a rail, moved by `n` ns. -/
def Rail.moved (n : Int) (r : Rail) : Rail :=
  let m := fun (t : Option Nat) => t.map (shiftT n)
  let m16 := fun (t : Option Nat) => t.map (shiftT (16 * n))
  { r with
    dlyAt := m r.dlyAt, midAt := m r.midAt, ramp := { r.ramp with t0 := shiftT n r.ramp.t0 },
    vchg := r.vchg.map (fun c => { c with atT := shiftT n c.atT }), initAt := m16 r.initAt, bnd := shiftT (16 * n) r.bnd,
    syncEdge := m r.syncEdge, sleepFrom := m16 r.sleepFrom, graceAt := m r.graceAt, penFell := m r.penFell,
    hicAt := m r.hicAt, steadyAt := m r.steadyAt, clampAt := m r.clampAt }

/-- The timers of a phase, moved by `n` ns. -/
def Phase.moved (n : Int) (x : Phase) : Phase :=
  let m16 := fun (t : Option Nat) => t.map (shiftT (16 * n))
  { x with
    rise := shiftT (16 * n) x.rise, next := m16 x.next, imbAt := x.imbAt.map (shiftT n), shedAt := m16 x.shedAt,
    retireAt := m16 x.retireAt, shutAt := shiftT n x.shutAt }

/-- The timers of the bring-up, moved by `n` ns. -/
def Brg.moved (n : Int) (x : Brg) : Brg :=
  { x with
    startAt := x.startAt.map (shiftT n), vinIn := x.vinIn.map (shiftT n), vinOutSince := x.vinOutSince.map (shiftT n),
    drainAt := x.drainAt.map (shiftT n), linksAt := shiftT n x.linksAt, readyWait := x.readyWait.map (shiftT n) }

/-- The timers of the mailboxes, the lock and the configuration, moved by `n` ns; the instant of a commit is GTIME's own. -/
def Gov.hostMoved (n : Int) (g : Gov) : Gov :=
  let pkt := fun (p : Pkt) => { p with t0 := shiftT n p.t0, whole := p.whole.map (shiftT n) }
  let cmd := fun (c : Cmd) => { c with tWhole := shiftT n c.tWhole, tTake := shiftT n c.tTake }
  { g with
    mb := { g.mb with
      boxes := mmap (fun _ (x : Mbx) => { x with q := x.q.map pkt, popT := shiftT n x.popT }) g.mb.boxes,
      cmds := mmap (fun _ c => cmd c) g.mb.cmds },
    cfg := { g.cfg with
      copyAt := g.cfg.copyAt.map (shiftT n), commit := g.cfg.commit.map (fun c => { c with t0 := shiftT n c.t0, last := shiftT n c.last }),
      rewrite := g.cfg.rewrite.map (fun x => { x with start := shiftT n x.start }),
      access := mmap (fun _ t => shiftT n t) g.cfg.access },
    dma := mmap (fun _ (x : DmaTx) => { x with out := x.out.map (fun q => { q with t := shiftT n q.t }) }) g.dma,
    rcv := { g.rcv with
      steps := g.rcv.steps.map (fun x => { x with start := shiftT n x.start }),
      engT := g.rcv.engT.map (fun e => (e.1, shiftT n e.2.1, e.2.2)), flaps := g.rcv.flaps.map (fun e => (e.1, shiftT n e.2)) },
    store := { g.store with
      ce := mmap (fun _ l => l.map (shiftT n)) g.store.ce, rewrites := mmap (fun _ t => shiftT n t) g.store.rewrites } }

/-- A step of GTIME by `n` ns (R96). What counts a duration goes on with what is left of it, what is due at an instant of GTIME
follows the new count, and captures before the step are dropped. (DEDUCED, log 108) -/
def hrStep (n : Int) (g : Gov) : Gov :=
  let old := g.gtime
  let new := (((old : Int) + n) % ((2 ^ 64 : Nat) : Int)).toNat
  let g := { g with gtime := new }
  let g := { g with
      hr := { g.hr with
      thetas := [], prev := none, slot := new / 10000, lastA := 0,
      links := mmap (fun _ (x : HLink) => { x with txT := [], rxT := none, lastRx := new }) g.hr.links } }
  let g := { g with
      th := { g.th with
        tick := new / 6250, updTick := new / 6250,
        nodes := mmap (fun _ (x : ThNode) => { x with winAt := x.winAt.map (shiftT n), hotAt := x.hotAt.map (shiftT n) })
          g.th.nodes },
      recr := { g.recr with lastUs := new / 1000, lastFlush := new / 10000 }, mir := { g.mir with lastJ := new / 10000 },
      brg := g.brg.moved n, rails := mmap (fun _ r => r.moved n) g.rails, phs := mmap (fun _ x => x.moved n) g.phs,
      clk := { g.clk with
        readySince := mmap (fun _ t => shiftT n t) g.clk.readySince, xoDownAt := g.clk.xoDownAt.map (shiftT n) },
      st := { g.st with
        sats := mmap (fun _ (x : Sat) => { x with latch := x.latch.map (shiftT n), stopAt := x.stopAt.map (shiftT n) }) g.st.sats,
        recs := mmap (fun _ (x : TRec) => { x with
          lastRep := shiftT n x.lastRep, norepAt := shiftT n x.norepAt, droopT := x.droopT.map (shiftT n) }) g.st.recs,
        holdEnd := mmap (fun _ t => shiftT n t) g.st.holdEnd },
      dm := { g.dm with hubs := mmap (fun _ (x : Hub) => { x with tick := new }) g.dm.hubs } }
  let g := g.hostMoved n
  let g := (g.wr F.GTIME_STAT_ALIGNED 1).wr F.GTIME_STAT_STEPPED 1
  g.ev 0x9002 (old % 2 ^ 32) (old / 2 ^ 32) (new % 2 ^ 32) (new / 2 ^ 32)

/-- A group of 8 values of θ runs the servo (R278); `s` is their sum in 1/16 ns, which is θ̄ in 1/128 ns. Table 16.3 gives no
code for the event of R289 item 2, and none is recorded. (DEDUCED, log 109) -/
def hrServo (s : Int) (g : Gov) : Gov :=
  let lim : Int := 200000
  let f := clampI (-lim * 128) (lim * 128) (g.hr.f + 6250 * (s - g.hr.prev.getD s))
  let trim := clampI (-lim) lim (rndUp (f + 1250 * s) 128)
  let mag := if s < 0 then -s else s
  let th8 := clampI (-(2 ^ 23 : Nat)) ((2 ^ 23 : Nat) - 1) (rndUp s 16)
  let aligned := g.flag F.GTIME_STAT_ALIGNED
  let firstBad := !aligned && g.hr.first && decide (1000000 * 128 < mag)
  let past := if aligned && decide (512 < mag) then min 8 (g.hr.past + 1) else 0
  let within := if !aligned && decide (mag ≤ 512) then g.hr.within + 1 else 0
  let bad := decide (past = 8 ∧ g.hr.past ≠ 8)
  let g := { g with hr := { g.hr with f := f, prev := some s, past := past, within := within, first := false, thetas := [] } }
  let g := ((g.wr F.GTIME_STAT_TRIM (ux 24 trim)).wr F.HR_TIME_THETA (ux 24 th8)).wr F.HR_TIME_F (ux 24 (rndUp f 128))
  let g := if bad || firstBad then (g.wr F.HR_STAT_SYNC_ERR 1).ev 0x1006 (ux 32 th8) (ux 32 (rndUp f 128)) 0 0 else g
  if within = 8 then g.wr F.GTIME_STAT_ALIGNED 1 else g

/-- One value of θ, 1/16 ns, from a frame of an aligned parent (R276, R277, R289). -/
def hrTheta (v : Int) (g : Gov) : Gov :=
  let l := g.hr.thetas ++ [v]
  let s := l.foldl (· + ·) 0
  let g := { g with hr := { g.hr with thetas := l } }
  if l.length < 8 then g
  else if g.flag F.GTIME_STAT_ALIGNED = false ∧ g.stage = sLINKS then hrStep (rndUp s 128) g
  else if g.flag F.GTIME_STAT_ALIGNED ∨ (g.hlink 0).join then hrServo s g
  else { g with hr := { g.hr with thetas := [] } }

/-- An integer inserted into a rising list. -/
def insI (x : Int) : List Int → List Int
  | [] => [x]
  | y :: r => if x ≤ y then x :: y :: r else y :: insI x r

/-- The mean of the middle 8 of 16 round trips, rounded to the nearest 1/8 ns (R122). -/
def rttMean (l : List Int) : Int := rndUp ((((l.foldr insI []).drop 4).take 8).foldl (· + ·) 0) 8

/-- One exchange on link `k`: the round trip in 1/8 ns joins the measurement, and sixteen enter RTT (R122, R276). -/
def hrExchange (k : Nat) (v : Int) (g : Gov) : Gov :=
  let x := g.hlink k
  let l := x.rtts ++ [v]
  if l.length < 16 then g.setHlink k { x with rtts := l }
  else (g.setHlink k { x with rtts := [], rttDone := true }).wr (F.HR_LINK_RTT k) (satU 24 (rttMean l))

/-! ## Frames received -/

/-- A reserved field of a frame is not 0 (Tables 10.3 to 10.6). -/
def frameReserved (l : List Nat) : Bool :=
  let ty := leAt l 0 1
  decide (leAt l 6 2 / 32 ≠ 0)
  || (ty == 1 && decide (leAt l 31 1 ≠ 0 ∨ leAt l 35 1 ≠ 0 ∨ leAt l 40 4 / 2 ^ 20 ≠ 0 ∨ leAt l 48 12 ≠ 0))
  || (ty == 2 && decide (leAt l 32 1 / 2 ≠ 0 ∨ leAt l 33 7 ≠ 0 ∨ leAt l 54 2 ≠ 0 ∨ leAt l 56 4 / 2 ^ 20 ≠ 0))
  || (ty == 3 && decide (leAt l 35 1 ≠ 0 ∨ leAt l 44 16 ≠ 0))

/-- The frame's TYPE fits the state of link `k`. -/
def frameFits (k ty : Nat) (x : HLink) : Bool :=
  if k = 0 then (ty == 1 && !x.sawJoined) || (ty == 2 && x.join)
  else (ty == 1 && !x.sawJoined) || (ty == 3 && x.join)

/-- A parent's decision on a HELLO of child link `k` (Table 10.2). -/
def helloDecide (k : Nat) (l : List Nat) (g : Gov) : Nat :=
  if !g.hrInTree then 0
  else if g.rd (F.HR_LINK_EN k) = 0 then 6
  else if leAt l 44 2 ≠ 0x5947 then 5
  else if leAt l 24 1 ≠ 0 ∨ leAt l 25 1 = 0 then 2
  else if 5 < g.rd F.HR_STAT_DEPTH + 1 + leAt l 26 1 then 3
  else if g.hrQuota k false < leAt l 28 2 then 4
  else 1

/-- A HELLO of a child link: the decision and what follows (R272, R285, R288). -/
def helloParent (k : Nat) (l : List Nat) (g : Gov) : Gov :=
  let x := g.hlink k
  if x.join then g
  else
    let r := helloDecide k l g
    let g := (g.wr (F.HR_LSTAT_REASON k) r).setHlink k { x with res := r }
    let g := g.wr (F.HR_CREP_FLOOR k) (leAt l 36 4)
    if r = 1 then
      let g := ((g.wr (F.HR_LSTAT_STATE k) 2).wr (F.HR_CALLOC_CUR k) 0).wr (F.HR_CALLOC_NEXT k) 0
      let g := (g.wr (F.HR_CREP_DEM k) 0).setHlink k { g.hlink k with join := true, hold := none }
      -- an epoch divided before the admission does not include the child (R288)
      let g := { g with hr := { g.hr with
          pend := g.hr.pend.map (fun (e : Epoch) => { e with alloc := e.alloc.filter (fun p => p.1 != k) }) } }
      peerLinkJoined k g
    else if g.rd (F.HR_LSTAT_STATE k) = 4 then g
    else g.wr (F.HR_LSTAT_STATE k) (if r = 0 then 1 else 3)

/-- A HELLO from the parent: the result, and at admission the depth and PATH that it gives (R271, R272, R286, R288). The partner's EN stands in no frame: each end of a link applies
its own. (DEDUCED, log 104) -/
def helloChild (b : Build) (l : List Nat) (g : Gov) : Gov :=
  let x := g.hlink 0
  let r := if g.rd (F.HR_LINK_EN 0) = 0 ∧ leAt l 27 1 ≠ 0 then 6 else leAt l 27 1
  if x.join then g
  else
    let old := g.rd (F.HR_LSTAT_REASON 0)
    let g := g.wr (F.HR_LSTAT_REASON 0) r
    if r = 1 then
      let g := (((g.wr (F.HR_LSTAT_STATE 0) 2).wr F.HR_STAT_JOINED 1).wr F.HR_STAT_ORPHAN 0).wr F.HR_STAT_DEPTH
        (leAt l 25 1 + 1)
      let g := g.setHlink 0 { g.hlink 0 with join := true }
      let g := { g with hr := { g.hr with
          inForce := none, raise := none, thetas := [], prev := none, got := none,
          path := leAt l 40 4 + leAt l 24 1 * 2 ^ (4 * leAt l 25 1),
          pend := g.hr.pend.map (fun (e : Epoch) => { e with past := true }) } }
      peerLinkJoined 0 (g.budApply b)
    else
      let g := g.wr (F.HR_LSTAT_STATE 0) (if 2 ≤ r then 3 else 1)
      if 2 ≤ r ∧ r ≠ old then g.ev 0x1002 0 r (leAt l 28 2) 0 else g

/-- An UP of a child (Table 10.5). -/
def upReceive (k : Nat) (l : List Nat) (g : Gov) : Gov :=
  let x := g.hlink k
  let g := (g.wr (F.HR_CREP_DEM k) (leAt l 24 4)).wr (F.HR_CREP_FLOOR k) (leAt l 28 4)
  g.setHlink k { x with
    sawJoined := true, pAck := leAt l 36 2, pHead := sx 16 (leAt l 40 2), pNder := leAt l 42 2 }

/-- The depth of a device, from its PATH: the number of link numbers on the way from the root, none of which is 0 (R271). -/
def pathDepth (p : Nat) : Nat := (bitLen p + 3) / 4

/-- A DOWN of the parent (Table 10.6): quota, PATH with the depth that it gives, the budget in force and a pending epoch not yet received, which the
device divides, and applies at once where its instant has passed (R283, R284). An epoch whose budget is 0 takes the
device out of the accounting (R286; DEDUCED, log 11). -/
def downReceive (b : Build) (l : List Nat) (g : Gov) : Gov :=
  let g := g.setHlink 0 { g.hlink 0 with sawJoined := true }
  let g := { g with hr := { g.hr with quota := leAt l 52 2, path := leAt l 56 4 % 2 ^ 20 } }
  let g := if g.hr.path = 0 then g else g.wr F.HR_STAT_DEPTH (pathDepth g.hr.path)
  let g := g.wr (F.HR_CALLOC_CUR 0) (leAt l 24 4)
  let num := leAt l 30 2
  if bit (leAt l 32 1) 0 ∧ g.flag F.GTIME_STAT_ALIGNED ∧ g.hr.got ≠ some num then
    let g := { g with hr := { g.hr with got := some num } }
    let time := leAt l 40 8
    let bud := leAt l 48 4
    let g := g.wr (F.HR_CALLOC_NEXT 0) bud
    let g := hrAnnounce b num time bud (g.gtime + 2000) (bud == 0) false g
    if time ≤ g.gtime then
      match g.hr.pend.find? (fun e => e.num == num && !e.done) with
      | some e =>
        hrTake b e true (((g.wr F.HR_STAT_LATE 1).ev 0x1005 num (g.gtime - time) 0 0))
      | none => g
    else g
  else g

/-- A valid frame on link `k` captured at the present GTIME: sequence numbers, captures, the partner's report, the
exchange and θ, then the content (R274 to R277). -/
def frameTake (b : Build) (k : Nat) (l : List Nat) (g : Gov) : Gov :=
  let ty := leAt l 0 1
  let x := g.hlink k
  let txs := leAt l 2 2
  let rxs := leAt l 4 2
  let rep := if x.lastRxSeq = some rxs then x.rep + 1 else 1
  let lat := leAt l 32 4
  let x1 : HLink := { x with
    rxSeq := txs, rxT := some g.gtime, lastRx := g.gtime, lastRxSeq := some rxs, rep := rep, pFlags := leAt l 6 2,
    pTx := if ty = 1 then bits lat 0 12 else x.pTx, pRx := if ty = 1 then bits lat 12 12 else x.pRx }
  let g := g.setHlink k x1
  let g := if ty = 1 then (g.wr (F.HR_LSTAT_PSUBN k) (leAt l 28 2)).wr (F.HR_LSTAT_PHT k) (leAt l 26 1)
    else if ty = 3 then (g.wr (F.HR_LSTAT_PSUBN k) (leAt l 32 2)).wr (F.HR_LSTAT_PHT k) (leAt l 34 1) else g
  let t3 : Int := leAt l 8 8
  let t2 : Int := leAt l 16 8
  let own := g.rd (F.HR_LINK_TXLAT k) + g.rd (F.HR_LINK_RXLAT k)
  let g := if txs = (x.rxSeq + 1) % 65536 then
      match x.rxT with
      | some t4 =>
        let g := match x.txT.find? (fun e => e.1 == rxs) with
          | some (_, t1) =>
            hrExchange k (8 * (((t4 : Int) - t1) - (t3 - t2)) - 2 * ((own + x1.pTx + x1.pRx : Nat) : Int)) g
          | none => g
        if k = 0 ∧ (g.hlink 0).rttDone ∧ bit (leAt l 6 2) 0 then
          hrTheta (16 * (t3 - t4) + 4 * ((x1.pTx + g.rd (F.HR_LINK_RXLAT 0) : Nat) : Int) + g.rd (F.HR_LINK_RTT 0)) g
        else g
      | none => g
    else g
  let g := if ty = 1 then (if k = 0 then helloChild b l g else helloParent k l g)
    else if ty = 2 then downReceive b l g else upReceive k l g
  let g := g.wr F.HR_STAT_SUBN (if g.hrInTree then g.hrSubn else 0)
  if 3 ≤ rep then hrLose b k 3 g else g

/-- A frame of 64 bytes, given as a number with byte 0 lowest, is received on link `k` with its SOF captured at GTIME
`t` (R66, R274). -/
def frameReceive (b : Build) (k w t : Nat) (g : Gov) : Gov :=
  if g.live ∧ k < 9 ∧ g.hrTalks k then
    let g := g.runTo t
    let l := leBytes 64 w
    if crc32 (l.take 60) = leAt l 60 4 ∧ frameFits k (leAt l 0 1) (g.hlink k) ∧ leAt l 1 1 = 1 ∧ frameReserved l = false then
      frameTake b k l g
    else (g.count (F.HR_LSTAT_BAD k) 1).count (F.ERR_CNT_COUNT 3) 1
  else g

end Sys2Proof.Machine
end

