-- ==== Sys2Proof/Machine/Stage.lean ====
section
/-! DEFINITION. GOV_LOCK, the checks a register's own rules make on its fields, the configuration stage and the commit
(R151, R188, R191, R291, R307, R360 to R367, Table 13.7). -/

namespace Sys2Proof.Machine

/-! ## A register's own checks -/

/-- The rail that an offset of the rail registers belongs to, where instances are `stride` bytes apart. -/
def railOfOff (base stride off : Nat) : Nat := (off - base) / stride

/-- RAIL_CFG of rail `n` under the field values `val` passes R151. -/
def railCfgOk (b : Build) (val : Fld → Nat) (n : Nat) : Bool :=
  let per := val (F.RAIL_CFG_PER n)
  let k := val (F.RAIL_CFG_RATE n) + 1
  let first := val (F.RAIL_CFG_FIRST n)
  let cnt := val (F.RAIL_CFG_COUNT n)
  decide (8000 ≤ per ∧ per ≤ 53333 ∧ 4000 * k ≤ per ∧ val (F.RAIL_CFG_SOFS n) * k < per ∧ cnt ≤ 24
    ∧ first + cnt ≤ b.phases)
  && (List.range b.rails).all (fun m =>
    let f := val (F.RAIL_CFG_FIRST m)
    let c := val (F.RAIL_CFG_COUNT m)
    m == n || c == 0 || cnt == 0 || decide (first + cnt ≤ f ∨ f + c ≤ first))

/-- The register at `off` passes the checks of its own rules with field values `val`. -/
def regOk (b : Build) (g : Gov) (val : Fld → Nat) (off : Nat) : Bool :=
  if 0x4080 ≤ off ∧ off < 0x4100 then railCfgOk b val (railOfOff 0x4080 8 off)
  else if 0x4900 ≤ off ∧ off < 0x4980 then
    let n := railOfOff 0x4900 8 off
    decide (val (F.RAIL_SHED_IPH_SHED n) < val (F.RAIL_SHED_IPH_ADD n) ∧ val (F.RAIL_SHED_SHED_DWELL n) ≠ 0)
  else if 0x4980 ≤ off ∧ off < 0x4A00 then
    let n := railOfOff 0x4980 8 off
    decide (val (F.RAIL_BURST_BURST_IN n) < val (F.RAIL_BURST_BURST_OUT n) ∧ val (F.RAIL_BURST_BCNT n) ≠ 0
      ∧ val (F.RAIL_BURST_BLO n) < val (F.RAIL_BURST_BEXIT n))
  else if 0x4A00 ≤ off ∧ off < 0x4A80 then val (F.RAIL_PROT_HICCUP_N (railOfOff 0x4A00 8 off)) != 0
  else if 0x4C00 ≤ off ∧ off < 0x4D00 then decide (g.stage ≠ sSEQUP ∧ g.stage ≠ sPROBE)
  else if off = 0xC200 ∨ 0xC400 ≤ off ∧ off < 0xC500 then !g.flag F.FT_ACT_LOCK
  else if off = 0xE200 then decide (500 ≤ val F.HR_CTL_HOLD)
  else if off = 0xE210 then
    decide (200 ≤ val F.HR_EPOCH_LEAD ∧ val F.HR_EPOCH_LEAD + 20 ≤ val F.HR_EPOCH_PER)
  else if 0x10100 ≤ off ∧ off < 0x10140 then
    let d := (off - 0x10100) / 8
    decide ((g.framesUsed d).length ≤ val (F.PL_T0_FRAMES d))
  else if 0x10200 ≤ off ∧ off < 0x102C0 then
    let k := (off - 0x10200) / 8
    decide ((g.framesUsed (32 + k)).length ≤ val (F.PL_STACK_FRAMES k))
  else if 0x10300 ≤ off ∧ off < 0x10400 then
    let k := (off - 0x10300) / 8
    decide ((g.framesUsed (64 + k)).length ≤ val (F.PL_PEER_FRAMES k))
  else true

/-- The REFUSED bit that a write discarded by the register's own rules sets, and the code a REG_WRITE of it answers
(R379): 0x10 where Table 4.3 discards it. -/
def regRefused (off : Nat) : Option Fld × Nat :=
  if 0x4C00 ≤ off ∧ off < 0x4D00 then (some F.BRG_STAT_REFUSED, 0x10)
  else if 0x4080 ≤ off ∧ off < 0x4100 then (some (F.RAIL_STAT_REFUSED ((off - 0x4080) / 8)), 0x22)
  else if 0x4900 ≤ off ∧ off < 0x4A80 then (some (F.RAIL_STAT_REFUSED ((off - 0x4900) / 8 % 16)), 0x22)
  else if 0xE000 ≤ off ∧ off < 0x10000 then (some F.HR_STAT_REFUSED, 0x22)
  else if 0x10000 ≤ off ∧ off < 0x12000 then (some F.PL_STAT_REFUSED, 0x22)
  else (none, 0x22)

/-- A field of the rail registers that a commit changes at the rail's boundary (Table 13.7), by its register's offset;
the rail, if it is one. RAIL_CFG is not among them. -/
def railRow (off : Nat) : Option Nat :=
  if 0x4000 ≤ off ∧ off < 0x4080 then some ((off - 0x4000) / 8)
  else if 0x4100 ≤ off ∧ off < 0x4500 then some ((off - 0x4100) / 64)
  else if 0x4600 ≤ off ∧ off < 0x4800 then some ((off - 0x4600) / 32)
  else if 0x4800 ≤ off ∧ off < 0x4A80 then some ((off - 0x4800) / 8 % 16)
  else if 0x4B00 ≤ off ∧ off < 0x4B80 then some ((off - 0x4B00) / 8)
  else if 0x5000 ≤ off ∧ off < 0x6000 then some ((off - 0x5000) / 256)
  else none

/-- The rail whose register lies at `off` and is named in R176 or R209. -/
def railReg (off : Nat) : Option Nat :=
  if 0x4080 ≤ off ∧ off < 0x4100 then some ((off - 0x4080) / 8) else railRow off

/-! ## GOV_LOCK (R360, R361) -/

/-- A read of GOV_LOCK by `port` that reaches bits 31:0: a free lock is taken. -/
def lockTake (port : Nat) (g : Gov) : Gov :=
  if g.rd F.GOV_LOCK_OWNER = 7 then g.wr F.GOV_LOCK_OWNER port else g

/-- A RELEASE by `port`: ignored with LOCKERR from a port that does not own the lock. -/
def lockRelease (port : Nat) (g : Gov) : Gov :=
  if g.rd F.GOV_LOCK_OWNER = port then g.freeLock else g.wr F.GOV_STAT_LOCKERR 1

/-- A FORCE by `port`: a held lock is freed. (DEDUCED, log 57) -/
def lockForce (port : Nat) (g : Gov) : Gov :=
  let own := g.rd F.GOV_LOCK_OWNER
  if own = 7 then g
  else ((g.wr F.GOV_LOCK_BROKEN 1).evp port 0x7005 port own 0 0).freeLock

/-- The owner's port has not accessed for LOCK_TO ms. -/
def lockTimeout (g : Gov) : Gov :=
  let own := g.rd F.GOV_LOCK_OWNER
  if g.live ∧ own ≠ 7 ∧ g.rd F.GOV_LOCK_LOCK_TO ≠ 0 then
    let g := g.runTo (mget 0 g.cfg.access own + 1000000 * g.rd F.GOV_LOCK_LOCK_TO)
    ((g.wr F.GOV_LOCK_BROKEN 1).ev 0x7006 own 0 0 0).freeLock
  else g

/-! ## The stage (R363, R364) -/

/-- The result of an OPEN or a commit; a refused one sets REFUSED. -/
def Gov.cfgResult (g : Gov) (code : Nat) (refused : Bool) : Gov :=
  let g := g.wr F.CFG_STAT_RESULT code
  if refused then g.wr F.CFG_STAT_REFUSED 1 else g

/-- A validation or a commit is in progress. -/
def Gov.committing (g : Gov) : Bool := g.rd F.CFG_STAT_STATE == 2 || g.rd F.CFG_STAT_STATE == 3

/-- An OPEN by `port`; code 0 where the copy has begun. (DEDUCED, log 54) -/
def cfgOpen (port : Nat) (g : Gov) : Gov × Nat :=
  let own := g.rd F.CFG_STAT_OWNER
  let code :=
    if g.rd F.GOV_LOCK_OWNER ≠ port then 0x30
    else if g.committing then 0x11
    else if g.stage < sDISCOVER then 0x10
    else if g.cfg.copyAt.isSome ∨ g.rd F.CFG_STAT_STATE = 1 then (if own = port then 0x01 else 0x11)
    else 0
  if code ≠ 0 then (g.cfgResult code true, code)
  else
    let was := g.flag F.CFG_STAT_DIRTY
    let g := (g.dirty).wr F.CFG_STAT_OWNER port
    ({ g with cfg := { g.cfg with copyAt := some g.gtime, abandon := false, dirtyAtOpen := was } }, 0)

/-- The copy of the live image into the shadow ends: the stage is OPEN, or abandoned where the lock has been freed. -/
def shadowCopyDone (g : Gov) : Gov :=
  if g.live ∧ g.cfg.copyAt.isSome then
    let own := g.rd F.CFG_STAT_OWNER
    let gone := g.cfg.abandon
    let g := { g with
      cfg := { g.cfg with
      copyAt := none, abandon := false, shadow := regsRetained g.regs, changed := false } }
    if gone then
      (((g.abortStage).ev 0x7007 own 0 0 0).cfgResult 0x30 false).answer 1 0 0x30 []
    else ((g.wr F.CFG_STAT_STATE 1).cfgResult 0x00 false).answer 1 0 0x00 []
  else g

/-- An ABORT by `port`, with the code of CFG_ABORT. -/
def cfgAbort (port : Nat) (g : Gov) : Gov × Nat :=
  if g.rd F.CFG_STAT_STATE = 1 then
    if g.rd F.CFG_STAT_OWNER = port then (g.abortStage, 0) else (g.wr F.CFG_STAT_REFUSED 1, 0x30)
  else (g, 0x01)

/-! ## The commit (R365 to R367) -/

/-- The fields in which the shadow differs from the live image, as (key, staged value), in ascending order of key. -/
def Gov.stagedChanges (g : Gov) : List (Nat × Nat) :=
  let live := regsRetained g.regs
  let keys := live.foldl (fun l (e : Nat × Nat) => insertNat e.1 l)
    (g.cfg.shadow.map (fun (e : Nat × Nat) => e.1))
  keys.filterMap (fun k =>
    match fldOfKey k with
    | some f =>
      let v := mget f.rst g.cfg.shadow k
      if v = g.rd f then none else some (k, v)
    | none => none)

/-- The registers, by offset, that a list of changed fields touches, ascending. -/
def changedRegs (l : List (Nat × Nat)) : List Nat := (l.map (fun e => e.1 / 64)).eraseDups

/-- A field's value in the shadow image. -/
def Gov.staged (g : Gov) (f : Fld) : Nat := mget f.rst g.cfg.shadow f.key

/-- The lowest changed register whose checks the shadow fails. -/
def commitBad (b : Build) (g : Gov) : Option Nat :=
  (changedRegs g.stagedChanges).find? (fun off => !regOk b g g.staged off)

/-- A rail whose registers the shadow changes has a probe running (R365, R501). -/
def Gov.probeBlocks (g : Gov) : Bool :=
  (changedRegs g.stagedChanges).any (fun off =>
    match railReg off with
    | some n => (mfind g.probes n).isSome
    | none => false)

/-- A commit is started by `port` with instant `at'`; code 0 where validation has begun. -/
def cfgCommit (port at' : Nat) (g : Gov) : Gov × Nat :=
  let staged := decide (g.rd F.CFG_STAT_STATE = 1)
  let code :=
    if g.rd F.GOV_LOCK_OWNER ≠ port then 0x30
    else if g.committing ∨ g.cfg.copyAt.isSome then 0x11
    else if staged ∧ g.probeBlocks then 0x11
    else if at' ≠ 0 ∧ at' < g.gtime + 40000 then 0x40
    else if g.gtime + 2 ^ 32 < at' then 0x41
    else 0
  if code ≠ 0 then (g.cfgResult code true, code)
  else
    let g := g.wr F.CFG_STAT_STATE 2
    ({ g with cfg := { g.cfg with commit := some { atT := at', t0 := g.gtime, staged := staged } } }, 0)

/-- Validation ends: the commit is refused with the lowest failing register, or accepted with Tc fixed (R365, R366). -/
def validationDone (b : Build) (g : Gov) : Gov :=
  match g.cfg.commit with
  | some c =>
    if g.live ∧ g.rd F.CFG_STAT_STATE = 2 then
      match (if c.staged then commitBad b g else none) with
      | some off =>
        let g := { g with cfg := { g.cfg with commit := none } }
        let g := ((g.wr F.CFG_STAT_STATE 1).wr F.CFG_STAT_BADOFS off).cfgResult 0x25 true
        let g := g.answer 2 0 0x25 [g.rd F.CFG_TC_TC, g.rd F.CFG_STAT_NCHG + off * 2 ^ 32]
        if g.rd F.GOV_LOCK_OWNER = g.rd F.CFG_STAT_OWNER then g
        else (g.abortStage).ev 0x7007 (g.rd F.CFG_STAT_OWNER) 0 0 0
      | none =>
        let tc := if c.atT = 0 then g.gtime else c.atT
        let g := (((g.dirty).wr F.CFG_STAT_STATE 3).wr F.CFG_TC_TC tc)
        let g := g.coverImages
        { g with cfg := { g.cfg with commit := some { c with tc := tc }, chkInv := true } }
    else g
  | none => g

/-- Rail `n` runs a period timer, so it has a boundary to apply a commit at (R153, R176). -/
def Gov.ticking (g : Gov) (n : Nat) : Bool := g.railUp n

/-- A lowered operating point in force reaches the Springtail thresholds at Tc, and the rail waits 512 ns (R148,
R176). -/
def commitRail (b : Build) (n tc : Nat) (ch : List (Nat × Nat)) (g : Gov) : Gov :=
  let f := F.RAIL_OPT_VSET n g.clk.vsel
  let v := match ch.find? (fun e => e.1 == f.key) with
    | some e => e.2
    | none => g.rd f
  let lower := decide (v < (g.rail n).vset) && decide (thrDies b g n ≠ []) && g.takesVref n
  let g := g.setRail n { g.rail n with
    staged := ch, commitAt := some (if lower then tc + 512 else tc),
    vthr := if lower then v else (g.rail n).vthr }
  let g := g.wr (F.RAIL_STAT_PEND n) 1
  if g.ticking n then g else stagedApply n g

/-- What a field outside the rail rows sets off when it enters the live image (R137, R152, R265, R462, R497, R502). -/
def committedField (b : Build) (e : Nat × Nat) (g : Gov) : Gov :=
  let off := e.1 / 64
  let ft := decide (off = 0xC200 ∨ 0xC400 ≤ off ∧ off < 0xC500)
  let g := if ft && g.flag F.FT_ACT_LOCK then g else { g with regs := mput g.regs e.1 e.2 }
  if 0x4080 ≤ off ∧ off < 0x4100 then g.wr (F.RAIL_STAT_CFG_PEND ((off - 0x4080) / 8)) 1
  else if ft then (if g.flag F.FT_ACT_LOCK then g else g.wr F.FT_STAT_PEND 1)
  else if 0x10400 ≤ off ∧ off < 0x10500 then tpartTaken b ((off - 0x10400) / 8) g
  else if 0x16200 ≤ off ∧ off < 0x16400 then
    let h := (off - 0x16200) / 8
    g.setHist h { g.hist h with clearPend := true }
  else if 0x18400 ≤ off ∧ off < 0x18700 then
    let p := (off - 0x18400) / 8
    let g := g.setPh p { g.ph p with spoiled := true }
    match railOf b g p with
    | some n => probeDiscard b n g
    | none => g
  else g

/-- The commit instant: fields outside the rails change together, the rails become pending (R366, Table 13.7).
(DEDUCED, log 55) -/
def commitInstant (b : Build) (g : Gov) : Gov :=
  match g.cfg.commit with
  | some c =>
    if g.live ∧ g.rd F.CFG_STAT_STATE = 3 ∧ c.applied = false then
      let g := g.runTo c.tc
      let ch := if c.staged then g.stagedChanges else []
      let isRail := fun (e : Nat × Nat) => (railRow (e.1 / 64)).isSome
      let g := { g with
        cfg := { g.cfg with
        commit := some { c with applied := true, last := g.gtime, nchg := min 65535 (changedRegs ch).length } } }
      let g := (ch.filter (fun e => !isRail e)).foldl (fun g e => committedField b e g) g
      let g := g.budApply b
      g.each (List.range b.rails) (fun g n =>
        let mine := ch.filter (fun e => railRow (e.1 / 64) == some n)
        if mine = [] then g else commitRail b n c.tc mine g)
    else g
  | none => g

/-- Every rail has applied the commit and the check word is written (R367). -/
def commitComplete (b : Build) (g : Gov) : Gov :=
  match g.cfg.commit with
  | some c =>
    if g.live ∧ c.applied then
      if (List.range b.rails).any (fun n => (g.rail n).commitAt.isSome) then g
      else
        let g := g.runTo (c.last + 65536)
        let g := { g with
          cfg := { g.cfg with
          commit := none, rewrite := none, changed := false, dirtyAtOpen := false } }
        let g := g.coverImages
        let g := ((((g.wr F.CFG_STAT_DIRTY 0).wr F.CFG_STAT_STATE 0).wr F.CFG_STAT_OWNER 7).wr F.CFG_STAT_NCHG
          c.nchg).cfgResult 0x00 false
        g.answer 2 0 0x00 [g.rd F.CFG_TC_TC, c.nchg]
    else g
  | none => g

end Sys2Proof.Machine
end

