-- ==== Sys2Proof/Machine/RegRead.lean ====
section
/-! DEFINITION. Reading registers: the fields whose value follows from the engines' state, a register as a port sees it
with no side effect, and the side effects of a read (R8 to R11, R97, R341, R360, R455, R478). -/

namespace Sys2Proof.Machine

/-! ## Fields that show an engine's state -/

/-- Commands of mailbox `n` in progress. -/
def Gov.inProgress (g : Gov) (n : Nat) : Nat := (mkeys (fun _ c => c.mbx == n) g.mb.cmds).length

/-- MBX_STAT fields by lowest bit. -/
def mbxStatVal (g : Gov) (n lo : Nat) : Option Nat :=
  if lo = 0 then some (32 - (g.mbx n).used)
  else if lo = 6 then some (g.mbx n).rq.length
  else if lo = 12 then some (b2n (!(g.mbx n).rq.isEmpty))
  else if lo = 13 then some (min 63 (g.inProgress n))
  else none

/-- GOV_STAT fields by lowest bit. -/
def govStatVal (g : Gov) (lo : Nat) : Option Nat :=
  match lo with
  | 0 => some g.stage
  | 4 => some (b2n g.brg.govReady)
  | 5 => some (b2n g.serviceReq)
  | 6 => some (g.rd F.FT_STAT_TRIPPED)
  | 7 => some (g.rd F.FT_STAT_LATCHED)
  | 8 => some (g.rd F.GTIME_STAT_ALIGNED)
  | 10 => some (g.rd F.GOV_LOCK_OWNER)
  | 13 => some (b2n (g.rd F.CFG_STAT_STATE == 1))
  | 14 => some (b2n g.committing)
  | 15 => some (g.rd F.CFG_STAT_DIRTY)
  | 16 => some (sumTo 16 (fun n => if (g.mbx n).rq.isEmpty then 0 else 2 ^ n))
  | _ => none

/-- GOV_BUILD fields by lowest bit (Table 0.4). -/
def Build.val (b : Build) (lo : Nat) : Option Nat :=
  match lo with
  | 0 => some b.dies
  | 4 => some b.tiles
  | 11 => some b.rails
  | 16 => some b.phases
  | 24 => some b.nStacks
  | 29 => some b.requesters
  | 40 => some b.partitions
  | _ => none

/-- Banks that region `k` shows, and the bytes backed (R480, R487). Region 7 lies within bank 42 (R483). -/
def Gov.rgnLen (g : Gov) (k : Nat) : Nat :=
  if k = 7 then (if g.dark 42 then 0 else 0x10000) else 0x40000 * (g.heldBanks k).length

/-- DMA_STAT.OUT: the transactions outstanding at the DMA port, of every function (Table 13.19). -/
def Gov.dmaOut (g : Gov) : Nat := g.dmaIds.length

/-- DMD_STAT fields by lowest bit. -/
def dmdStatVal (g : Gov) (lo : Nat) : Option Nat :=
  match lo with
  | 0 => some g.grantsOut
  | 16 => some (g.grantsBy (fun x => x.st == 1)).length
  | 32 => some (min 16384 g.dm.backlog.length)
  | 47 => some (b2n (decide (2048 ≤ g.dm.backlog.length)))
  | 50 => some (b2n ((mkeys (fun _ x => x.st == 2) g.dm.ctxs).any (fun c => g.ctxEntries c != 0)))
  | 51 => some (min 256 g.dm.wait.length)
  | _ => none

/-- DMD_HUB fields of hub `d` by lowest bit. -/
def dmdHubVal (b : Build) (g : Gov) (d lo : Nat) : Option Nat :=
  let x := g.hubRun (g.hub d)
  match lo with
  | 0 => some (b2n g.dm.isOpen)
  | 1 => some (sumTo 4 (fun c => if (mget [] x.q c).length < 16 then 0 else 2 ^ c))
  | 5 => some (b2n (decide (16 ≤ x.cq.length)))
  | 16 => some (g.grantsBy (fun e => e.st != 0 && b.hubOf e.req == d)).length
  | _ => none

/-- PL_ORD fields by lowest bit. -/
def plOrdVal (g : Gov) (lo : Nat) : Option Nat :=
  match lo with
  | 0 => some g.ordsOut
  | 16 => some g.pl.nextId
  | 32 => some (g.pl.ords.filter (fun o => o.issued && o.wo)).length
  | 45 => some (b2n (decide (4096 ≤ g.ordsOut)))
  | _ => none

/-- The value of the field at (offset, lowest bit) where the engines' state gives it, as `port` reads it. -/
def derivedVal (b : Build) (port : Nat) (g : Gov) (off lo : Nat) : Option Nat :=
  if off = 0x10 then b.val lo
  else if off < 0x1000 then none
  else if 0x4500 ≤ off ∧ off < 0x4580 then
    (if lo = 0 then some (g.dutyAt ((off - 0x4500) / 8) (16 * g.gtime)) else none)
  else if off < 0x1400 then (if (off - 0x1000) % 64 = 0x10 then mbxStatVal g ((off - 0x1000) / 64) lo else none)
  else if off = 0x2000 then govStatVal g lo
  else if off = 0x2008 then (if lo = 3 then some (b2n (g.rd F.GOV_LOCK_OWNER == port)) else none)
  else if off = 0x2018 then (if lo = 8 then some g.dmaOut else none)
  else if off = 0x2060 then some (mget 0 g.io.page port)
  else if 0x2300 ≤ off ∧ off < 0x2350 then
    let k := (off - 0x2300) / 8
    if lo = 24 then some (g.rgnLen k) else if lo = 48 then some (g.heldBanks k).length else none
  else if off = 0xA008 then dmdStatVal g lo
  else if 0xA180 ≤ off ∧ off < 0xA200 then
    let n := (off - 0xA180) / 8
    if lo = 0 then some (g.railB n) else if lo = 16 then some (min 65535 (g.pkOf n)) else none
  else if 0xA200 ≤ off ∧ off < 0xA240 then
    let d := (off - 0xA200) / 8
    if lo = 16 then some (min 65535 (g.dieDemand b d)) else if lo = 32 then some (g.rd (F.ST_THR_TLVL d)) else none
  else if 0xA240 ≤ off ∧ off < 0xA2C0 then
    (if lo = 16 then some (min 65535 (g.partUse ((off - 0xA240) / 8))) else none)
  else if off = 0xA2C0 then (if lo = 16 then some (min 65535 (g.modDemand b)) else none)
  else if 0xA300 ≤ off ∧ off < 0xA340 then dmdHubVal b g ((off - 0xA300) / 8) lo
  else if off = 0x10010 then
    (if lo = 0 then some g.plState
     else if lo = 4 then some (mkeys (fun _ x => x.state == qLIVE || x.state == qDEFERRED) g.pl.seqs).length
     else if lo = 37 then some g.freePages else none)
  else if off = 0x10028 then plOrdVal g lo
  else if off = 0x10030 then (if lo = 16 then some g.nTeardown else none)
  else if 0x10100 ≤ off ∧ off < 0x10140 then
    (if lo = 24 then some (g.framesUsed ((off - 0x10100) / 8)).length else none)
  else if 0x10200 ≤ off ∧ off < 0x102C0 then
    (if lo = 24 then some (g.framesUsed (32 + (off - 0x10200) / 8)).length else none)
  else if 0x10300 ≤ off ∧ off < 0x10400 then
    (if lo = 23 then some (g.framesUsed (64 + (off - 0x10300) / 8)).length else none)
  else if off = 0x12040 then some (g.gtime % 2 ^ 64)
  else if off = 0x12048 then some (mget 0 g.clk.hiLatch port)
  else if off = 0x16008 then (if lo = 0 then some (min 256 g.recr.queue.length) else none)
  else if off = 0x16428 then
    (if lo = 0 then some (sumTo 8 (fun i => if (g.tbuf i).held < 2048 then 0 else 2 ^ i))
     else if lo = 16 then
      some (b2n (!g.flag F.TRC_STAT_NORING
        && decide (g.recr.ringCur.2 / 32 ≤ (g.rd F.TRC_PROD_PROD + 2 ^ 32 - g.rd F.TRC_CONS_CONS) % 2 ^ 32)))
     else none)
  else none

/-- A field as `port` reads it: a WO field reads 0 (R9). -/
def Gov.fieldVal (b : Build) (port : Nat) (g : Gov) (f : Fld) : Nat :=
  if f.acc = .wo then 0
  else match derivedVal b port g f.off f.lo with
    | some v => v
    | none => g.rd f

/-- The register at `off` as `port` sees it, with no side effect. MBX_RPL shows 0 here (R469). -/
def Gov.regWord (b : Build) (port : Nat) (g : Gov) (off : Nat) : Nat := wordOf (b.fieldsAt off) (g.fieldVal b port)

/-! ## Reads with their side effects -/

/-- The part of an access that reaches bits `m` of a word: all 64, or one half (R8). -/
def maskAll : Nat := 2 ^ 64 - 1
/-- Bits 31:0. -/
def maskLo : Nat := 2 ^ 32 - 1
/-- Bits 63:32. -/
def maskHi : Nat := 2 ^ 64 - 2 ^ 32

/-- RC fields that the mask reaches are cleared (R9, R455). -/
def Gov.clearRc (b : Build) (g : Gov) (off mask : Nat) : Gov :=
  (b.fieldsAt off).foldl (fun g f => if f.acc = .rc ∧ f.of mask ≠ 0 then g.wr f 0 else g) g

/-- MBX_CTL.OWNER as it applies now: a change applies from the next header (Table 13.15). -/
def Gov.mbxOwner (g : Gov) (n : Nat) : Nat :=
  match (g.mbx n).q.getLast? with
  | some p => if p.whole.isNone then p.own else g.rd (F.MBX_CTL_OWNER n)
  | none => g.rd (F.MBX_CTL_OWNER n)

/-- A port may push to and pop from mailbox `n`. (DEDUCED, log 53) -/
def Gov.mayUse (g : Gov) (n port : Nat) : Bool := g.mbxOwner n == 7 || g.mbxOwner n == port

/-- A held half of `port` is discarded (R340). -/
def Gov.dropHalf (g : Gov) (n port : Nat) : Gov :=
  let m := g.mbx n
  if (mfind m.half port).isSome then g.setMbx n { m with half := mdel m.half port } else g

/-- One word is popped (R341, R353). -/
def mbxPopWord (n port : Nat) (g : Gov) : Gov × Nat :=
  if g.mayUse n port = false then (g.wr (F.MBX_STAT_PORTERR n) 1, 0)
  else
    let m := g.mbx n
    match m.rq with
    | [] => (g.wr (F.MBX_STAT_UNDER n) 1, 0)
    | w :: r => ((g.setMbx n { m with rq := r, popT := g.gtime }).wr (F.MBX_STAT_STALE n) 0, w)

/-- A read of MBX_RPL: 64 bits or the half at +4 pop; the half at +0 looks only. -/
def mbxRplRead (n port mask : Nat) (g : Gov) : Gov × Nat :=
  if mask = maskLo then
    if g.mayUse n port = false then (g.wr (F.MBX_STAT_PORTERR n) 1, 0)
    else (g, ((g.mbx n).rq.headD 0))
  else mbxPopWord n port g

/-- The mailbox whose registers lie at `off`. -/
def mbxOf (off : Nat) : Option Nat := if 0x1000 ≤ off ∧ off < 0x1400 then some ((off - 0x1000) / 64) else none

/-- A read by `port` of the register at `off` (a multiple of 8) that reaches the bits of `mask`. The value is the whole
word; a half is the requester's to pick. -/
def regRead (b : Build) (port off mask : Nat) (g : Gov) : Gov × Nat :=
  if g.live = false then (g, 0)
  else
    let g := (g.touch port).openFor off
    let g := match mbxOf off with
      | some n => g.dropHalf n port
      | none => g
    match mbxOf off with
    | some n =>
      if (off - 0x1000) % 64 = 8 then mbxRplRead n port mask g
      else (g.clearRc b off mask, g.regWord b port off)
    | none =>
      if off = 0x2008 then
        let g := if mask % 2 ^ 32 ≠ 0 then lockTake port g else g
        (g, g.regWord b port off)
      else if off = 0x12040 then
        ((if mask = maskLo then gtimeLoLatch port g else g), g.regWord b port off)
      else
        let v := g.regWord b port off
        (g.clearRc b off mask, v)

/-- The half of a word that a 32-bit access at `off` reaches, in bits 31:0 (R8, R56). -/
def halfOf (off w : Nat) : Nat := if 4 ≤ off % 8 then w / 2 ^ 32 else w % 2 ^ 32

/-- The mask of an access: 64 bits, or the half its bit 2 selects. -/
def accMask (off : Nat) (wide : Bool) : Nat := if wide then maskAll else if 4 ≤ off % 8 then maskHi else maskLo

/-- A read through an interface of the host register port, with the response it gives (R33, R56). -/
def portRead (b : Build) (port off : Nat) (wide : Bool) (g : Gov) : Gov :=
  let (g, v) := regRead b port (off / 8 * 8) (accMask off wide) g
  let d := if wide then v else halfOf off v
  { g with io := { g.io with hrs := mput g.io.hrs port { data := d } } }

end Sys2Proof.Machine
end

