-- ==== Sys2Proof/Machine/RegWrite.lean ====
section
/-! DEFINITION. Writing registers: the access codes of Table 0.7, the routing of retained fields (R362 to R366), the
checks that discard a write, and what each write sets off (R9, R124, R166 to R173, R379, R462, R466, R467, R497). -/

namespace Sys2Proof.Machine

/-! ## Fields under a mask -/

/-- The bits of `w` where `m` is set, of `old` elsewhere. -/
def mergeBits (len old w m : Nat) : Nat := Nat.lor (Nat.land w m) (Nat.land old (Nat.xor m (2 ^ len - 1)))

/-- The value that a write of `w` under `mask` leaves in an RW field that holds `old`. -/
def Fld.merged (f : Fld) (old w mask : Nat) : Nat := mergeBits f.len old (f.of w) (f.of mask)

/-- The mask reaches the field. -/
def Fld.hit (f : Fld) (mask : Nat) : Bool := f.of mask != 0

/-- A retained field that a write may change. -/
def Fld.isRet (f : Fld) : Bool := f.acc == .rw && f.keep == .retained

/-- RW fields of a register that satisfy `sel` take the write. -/
def Gov.putRw (g : Gov) (fs : List Fld) (w mask : Nat) (sel : Fld → Bool) : Gov :=
  fs.foldl (fun g f => if f.acc = .rw ∧ f.hit mask ∧ sel f then g.wr f (f.merged (g.rd f) w mask) else g) g

/-- W1C fields: a 1 that the mask reaches clears the bit (R9). -/
def Gov.putW1c (g : Gov) (fs : List Fld) (w mask : Nat) : Gov :=
  fs.foldl (fun g f =>
    if f.acc = .w1c ∧ f.hit mask then
      let ones := Nat.land (f.of w) (f.of mask)
      g.wr f (mergeBits f.len (g.rd f) 0 ones)
    else g) g

/-- The same of the register at `off`: a tile whose GAP is cleared has its record written again (R143). -/
def Gov.putW1cAt (g : Gov) (fs : List Fld) (off w mask : Nat) : Gov :=
  let g' := g.putW1c fs w mask
  let t := (off - 0x13000) / 8
  if 0x13000 ≤ off ∧ off < 0x14000 ∧ g.flag (F.ST_TILE_GAP t) ∧ g'.flag (F.ST_TILE_GAP t) = false then g'.recStep t else g'

/-- Retained fields take the write in the shadow image (R364). -/
def Gov.putShadow (g : Gov) (fs : List Fld) (w mask : Nat) : Gov :=
  fs.foldl (fun g f =>
    if f.isRet ∧ f.hit mask then
      { g with
        cfg := { g.cfg with
        changed := true, shadow := mput g.cfg.shadow f.key (f.merged (g.staged f) w mask % 2 ^ f.len) } }
    else g) g

/-! ## The drain ring (R467) -/

/-- The ring that TRC_RING and TRC_SIZE describe, if they describe one. -/
def Gov.ringSet (g : Gov) : Bool :=
  let a := g.rd F.TRC_RING_ADDR
  let n := g.rd F.TRC_SIZE_SIZE
  decide (a % 4096 = 0 ∧ n % 4096 = 0 ∧ 65536 ≤ n)

/-- The ring in the registers comes into force: PROD and CONS are 0, NORING says whether it is one. -/
def Gov.ringTake (g : Gov) : Gov :=
  let g := { g with
    recr := { g.recr with
    ringNew := none, ringCur := (g.rd F.TRC_RING_ADDR, g.rd F.TRC_SIZE_SIZE) } }
  ((g.wrB F.TRC_STAT_NORING (!g.ringSet)).wr F.TRC_PROD_PROD 0).wr F.TRC_CONS_CONS 0

/-- A new ring is written: it takes effect when the entry being drained completes. -/
def Gov.ringWrite (g : Gov) : Gov :=
  if g.recr.draining.isSome then
    { g with recr := { g.recr with ringNew := some (g.rd F.TRC_RING_ADDR, g.rd F.TRC_SIZE_SIZE) } }
  else g.ringTake

/-- A write of CONS: discarded with BADCONS where it lies after PROD or more than SIZE / 32 before it (R466). -/
def Gov.consWrite (g : Gov) (v : Nat) : Gov × Bool :=
  if (g.rd F.TRC_PROD_PROD + 2 ^ 32 - v % 2 ^ 32) % 2 ^ 32 ≤ g.recr.ringCur.2 / 32 then (g.wr F.TRC_CONS_CONS v, true)
  else (g.wr F.TRC_STAT_BADCONS 1, false)

/-! ## Holds of a dump, histograms -/

/-- A write of DUMP_STAT.HOLD releases the pages of a SEQUENCE dump (R471). -/
def Gov.dumpRelease (g : Gov) : Gov := { g with recr := { g.recr with dumpHold := [] } }

/-- Histogram `h` is cleared at its next flush (R462). -/
def Gov.histClear (g : Gov) (h : Nat) : Gov := g.setHist h { g.hist h with clearPend := true }

/-! ## DMA_STAT (R63) -/

/-- Error bits of DMA_STAT cleared: the functions go on. The pending step needs every error bit of placement clear. -/
def Gov.dmaResume (g : Gov) : Gov :=
  let g := match g.recr.dump with
    | some d =>
      if g.flag F.DMA_STAT_DUMP_ERR ∨ (mfind g.dma 1).isSome then g else g.dumpOpen d
    | none => g
  g.startPending

/-! ## What a direct write of a register sets off -/

/-- A write of CSET from the Ready stage on a rail that is not off requests a switch (R169). -/
def csetWritten (n : Nat) (g : Gov) : Gov :=
  let c := g.rd (F.RAIL_CTL_CSET n)
  let m := g.mode n
  if g.stage = sREADY ∧ m ≠ mOFF ∧ m ≠ mFAULT ∧ m ≠ mDOWN
      ∧ (c ≠ g.rd (F.RAIL_STAT_CSET_ACT n) ∨ (g.rail n).csetReq.isSome) then
    g.requestCset n c
  else g

/-- Effects of the RW fields just written at `off`. (DEDUCED, log 56) -/
def wroteRw (b : Build) (off mask : Nat) (g : Gov) : Gov :=
  if 0x4000 ≤ off ∧ off < 0x4080 then
    let n := (off - 0x4000) / 8
    if (F.RAIL_CTL_CSET n).hit mask then csetWritten n g else g
  else if 0x4080 ≤ off ∧ off < 0x4100 then g.wr (F.RAIL_STAT_CFG_PEND ((off - 0x4080) / 8)) 1
  else if 0x4100 ≤ off ∧ off < 0x4500 then setpointRefresh b ((off - 0x4100) / 64) g
  else if off = 0xC200 ∨ 0xC400 ≤ off ∧ off < 0xC500 then g.wr F.FT_STAT_PEND 1
  else if 0xE000 ≤ off ∧ off < 0x10000 then g.budApply b
  else if 0x10400 ≤ off ∧ off < 0x10500 then tpartTaken b ((off - 0x10400) / 8) g
  else if off = 0x12018 then
    let w := g.rawWord b 0x12018
    match g.sourceRuns (bits w 0 4) with
    | some r => clkoutWrite w r g
    | none => clkoutWrite w (Config.sourceRuns g.fresh) g.nextFresh
  else if off = 0x12020 then clkgateWrite (g.rawWord b 0x12020) g
  else if 0x13000 ≤ off ∧ off < 0x14000 then
    let t := (off - 0x13000) / 8
    if (F.ST_TILE_HOLD_OFF t).hit mask then holdOffWrite b t (g.flag (F.ST_TILE_HOLD_OFF t)) g else g
  else if 0x16200 ≤ off ∧ off < 0x16400 then g.histClear ((off - 0x16200) / 8)
  else if off = 0x16400 then
    g.wr F.TRC_CTL_EN (Nat.land (g.rd F.TRC_CTL_EN) (Nat.xor (g.rd F.TRC_CTL_GONE) 0xFF))
  else if off = 0x16408 ∨ off = 0x16410 then g.ringWrite
  else if 0x18400 ≤ off ∧ off < 0x18700 then
    let p := (off - 0x18400) / 8
    let g := g.setPh p { g.ph p with spoiled := true }
    match railOf b g p with
    | some n => probeDiscard b n g
    | none => g
  else g

/-- The stages in which STOP is accepted (R125). -/
def Gov.stopTaken (g : Gov) : Bool :=
  g.stage == sSEQUP || g.stage == sPROBE || g.stage == sLINKS || g.stage == sREADY

/-- The code of a REG_WRITE of BRG_CTL: 0x10 where Table 4.3 refuses START or STOP, 0x22 where a trip or the checks of
R109 refuse START (R379). (DEDUCED, log 65) -/
def Gov.brgCtlCode (b : Build) (g : Gov) (w : Nat) : Nat :=
  if bit w 1 then (if g.stopTaken then 0 else 0x10)
  else if bit w 0 then
    (if g.stage ≠ sWAITCFG ∧ g.stage ≠ sOFF then 0x10
     else if (brgStart b false g).2 then 0 else 0x22)
  else 0

/-- The code of a REG_WRITE of OPEN, ABORT or a commit by `port` that answered `code` (R379): 0x11 in a validation or a
commit, 0x30 where a stage is open for another port, 0x22 for any other discard. (DEDUCED, log 65) -/
def Gov.stageCode (g : Gov) (port code : Nat) : Nat :=
  if code = 0 then 0
  else if g.committing then 0x11
  else if g.rd F.CFG_STAT_STATE = 1 ∧ g.rd F.CFG_STAT_OWNER ≠ port then 0x30
  else if code = 0x10 then 0x10 else 0x22

/-- Effects of the WO bits of the stage, the commit and the lock, with the code of a REG_WRITE. `w` holds the bits that
the mask reaches, 0 elsewhere. -/
def wroteStage (port off w mask : Nat) (g : Gov) : Gov × Nat :=
  if off = 0x2008 then
    let own := g.rd F.GOV_LOCK_OWNER
    let g := if bit w 4 then lockRelease port g else g
    (if bit w 5 then lockForce port g else g, if bit w 4 ∧ own ≠ port then 0x22 else 0)
  else if off = 0x2040 then
    if bit w 1 then
      let idle := g.rd F.CFG_STAT_STATE ≠ 1
      let r := cfgAbort port g
      (r.1, if idle then 0 else g.stageCode port r.2)
    else if bit w 0 then
      let r := cfgOpen port g
      (r.1, g.stageCode port r.2)
    else (g, 0)
  else
    let at' := mergeBits 64 g.cfg.atHi w mask
    let g := { g with cfg := { g.cfg with atHi := at' } }
    if mask % 2 ^ 32 = 0 then (g, 0)
    else
      let r := cfgCommit port at' g
      (r.1, g.stageCode port r.2)

/-- Effects of WO fields and of special W1C fields at `off`: START and STOP, NOW, FORGET, CLEAR, RST, the stage, the
lock, holds. `w` holds the bits that the mask reaches, 0 elsewhere. -/
def wroteWo (b : Build) (port off w mask : Nat) (g : Gov) : Gov :=
  if off = 0x2008 ∨ off = 0x2040 ∨ off = 0x2048 then (wroteStage port off w mask g).1
  else if off = 0x2018 then (if w % 16 = 0 then g else g.dmaResume)
  else if 0x1000 ≤ off ∧ off < 0x1400 then
    let n := (off - 0x1000) / 64
    if (off - 0x1000) % 64 = 0x20 ∧ bit w 10 then g.resetMbx port n else g
  else if off = 0xE210 then (if bit w 58 then hrEpochNow b g else g)
  else if 0xE300 ≤ off ∧ off < 0xE348 then (if bit w 49 then hrForget ((off - 0xE300) / 8) g else g)
  else if off = 0x10010 then (if bit w 2 ∨ bit w 3 then g.startPending else g)
  else if off = 0x12100 then brgCtlAct b w g
  else if off = 0x16100 then (if bit w 1 then g.each (List.range 64) Gov.histClear else g)
  else if off = 0x16518 then (if bit w 2 then g.dumpRelease else g)
  else g

/-! ## The write -/

/-- Where the retained fields of a write go: 0 direct, 1 to the shadow, else the code of a discard (R364, R366). -/
def Gov.route (g : Gov) (port : Nat) : Nat :=
  if g.committing then 0x11
  else if g.rd F.CFG_STAT_STATE = 1 then (if g.rd F.CFG_STAT_OWNER = port then 1 else 0x30)
  else 0

/-- Retained fields of a write are discarded: REFUSED in CFG_STAT, and for a rail field in RAIL_STAT (R364, R366). -/
def Gov.discardRet (g : Gov) (off code : Nat) : Gov :=
  let g := g.wr F.CFG_STAT_REFUSED 1
  match railReg off with
  | some n => if code = 0x11 then g.wr (F.RAIL_STAT_REFUSED n) 1 else g
  | none => g

/-- A word of the coefficient set in use, written while the loop is closed (R168). -/
def Gov.setInUse (g : Gov) (off : Nat) : Option Nat :=
  let used := fun (n c : Nat) =>
    let m := g.mode n
    if g.rd (F.RAIL_STAT_CSET_ACT n) = c ∧ m ≠ mOPEN ∧ m ≠ mOFF ∧ m ≠ mFAULT then some n else none
  if 0x4600 ≤ off ∧ off < 0x4800 then used ((off - 0x4600) / 32) ((off - 0x4600) % 32 / 8)
  else if 0x5000 ≤ off ∧ off < 0x6000 then used ((off - 0x5000) / 256) ((off - 0x5000) % 256 / 64)
  else none

/-- OPEN written 1 before the Ready stage is discarded, and the write's other fields act (R173). -/
def Gov.openBarred (g : Gov) (off w mask : Nat) : Bool :=
  decide (0x4000 ≤ off ∧ off < 0x4080) && bit w 2 && bit mask 2 && g.stage != sREADY

/-- RAIL_CTL of a rail whose staged changes wait for its boundary: the whole write is discarded (R177). -/
def Gov.pendBarred (g : Gov) (off : Nat) : Bool :=
  decide (0x4000 ≤ off ∧ off < 0x4080) && g.flag (F.RAIL_STAT_PEND ((off - 0x4000) / 8))

/-- A write by `port` of the fields of the register at `off`, whose rules do not discard it: RW fields, W1C bits, then
what the write sets off; with the code that a REG_WRITE answers. -/
def regWriteAct (b : Build) (port off w mask : Nat) (fs : List Fld) (g : Gov) : Gov × Nat :=
  let hasRet := fs.any (fun f => f.isRet && f.hit mask)
  let rt := if hasRet then g.route port else 0
  let barred := g.openBarred off w mask
  let mask' := if barred then withoutBit mask 2 else mask
  let g := if barred then g.wr (F.RAIL_STAT_REFUSED ((off - 0x4000) / 8)) 1 else g
  let g := if rt = 1 then g.putShadow fs w mask' else if rt ≠ 0 then g.discardRet off rt else g
  let direct := fun (f : Fld) => rt == 0 || !f.isRet
  let wrote := fs.any (fun f => f.acc == .rw && f.hit mask' && direct f)
  let g := g.putRw fs w mask' direct
  let g := if hasRet ∧ rt = 0 then g.dirty else g
  let g := if wrote then wroteRw b off (if rt = 0 then mask' else
      (fs.filter (fun f => !f.isRet)).foldl (fun m f => m + f.of mask' * 2 ^ f.lo) 0) g else g
  let g := if off = 0x14028 then rcvHoldWrite b (Nat.land w mask) g
    else if off = 0x14018 then blockedClear (Nat.land w mask) g else g.putW1cAt fs off w mask
  let v := Nat.land w mask
  let wo := if off = 0x12100 then g.brgCtlCode b v
    else if off = 0x2008 ∨ off = 0x2040 ∨ off = 0x2048 then (wroteStage port off v mask g).2 else 0
  (wroteWo b port off v mask g, if 1 < rt then rt else if barred then 0x22 else wo)

/-- The same, the events it causes being those of `port`. -/
def regWriteDo (b : Build) (port off w mask : Nat) (fs : List Fld) (g : Gov) : Gov × Nat :=
  let r := regWriteAct b port off w mask fs { g with recr := { g.recr with cause := port } }
  ({ r.1 with recr := { r.1.recr with cause := g.recr.cause } }, r.2)

/-- A write by `port` of the register at `off` (a multiple of 8), reaching the bits of `mask`, with the code that a
REG_WRITE of it answers (R379). MBX_CMD is not written here. -/
def regWrite (b : Build) (port off w mask : Nat) (g : Gov) : Gov × Nat :=
  if g.live = false then (g, 0)
  else
    let g := (g.touch port).openFor off
    let g := match mbxOf off with
      | some n => g.dropHalf n port
      | none => g
    let fs := b.fieldsAt off
    let rets := fs.any (fun f => f.isRet && f.hit mask)
    -- R363: during the copy the access waits for its end
    let g := if rets ∧ g.cfg.copyAt.isSome then shadowCopyDone g else g
    let val := fun (f : Fld) => if f.off = off then f.merged (g.rd f) w mask else g.rd f
    let hitRw := fs.any (fun f => f.acc == .rw && f.hit mask)
    if off = 0x2060 then
      ((if mask % 16 = 0 then g else
        { g with io := { g.io with page := mput g.io.page port (mergeBits 4 (mget 0 g.io.page port) (w % 16) (mask % 16)) } }),
        0)
    else if off = 0x12000 then
      if hitRw = false then (g, 0)
      else
        let v := wordOf fs val
        (refselWrite port v g, if g.refselOk (bits v 0 3) then 0 else 0x22)
    else if off = 0x16420 then
      if hitRw = false then (g, 0)
      else
        let r := g.consWrite (val F.TRC_CONS_CONS)
        (r.1, if r.2 then 0 else 0x22)
    else if g.pendBarred off ∧ hitRw then
      let g := g.wr (F.RAIL_STAT_REFUSED ((off - 0x4000) / 8)) 1
      (if rets then g.wr F.CFG_STAT_REFUSED 1 else g, 0x11)
    -- Table 4.3 discards a write of RAIL_SEQ and RAIL_PLAUS by the stage, wherever the write would go
    else if rets ∧ (g.route port = 0 ∨ g.route port = 1 ∧ 0x4C00 ≤ off ∧ off < 0x4D00) ∧ regOk b g val off = false then
      let r := regRefused off
      ((match r.1 with
        | some f => g.wr f 1
        | none => g), r.2)
    else
      match (if rets ∧ g.route port = 0 then g.setInUse off else none) with
      | some n => (g.wr (F.RAIL_STAT_REFUSED n) 1, 0x22)
      | none => regWriteDo b port off w mask fs g

end Sys2Proof.Machine
end

