-- ==== Sys2Proof/Machine/StoreView.lean ====
section
/-! DEFINITION. The governor store as port B sees it: the word at each store offset, read from the engine whose image
it is or from the raw bytes, and the host's reads and writes of it (R28, R56 to R60, R449, R460, R478 to R488). -/

namespace Sys2Proof.Machine

/-! ## Records as words -/

/-- A 32-bit pair as a word. -/
def pair32 (lo hi : Nat) : Nat := lo % 2 ^ 32 + hi % 2 ^ 32 * 2 ^ 32

/-- Word `k` of an event record in the ring (Table 16.1). -/
def RingRec.word (r : RingRec) (k : Nat) : Nat :=
  let e := r.evt
  if k = 0 then
    e.code % 2 ^ 16 + b2n r.valid * 2 ^ 16 + b2n e.sat * 2 ^ 17 + b2n e.capt * 2 ^ 18 + b2n e.unal * 2 ^ 19
      + e.port % 16 * 2 ^ 20 + r.seq % 2 ^ 32 * 2 ^ 32
  else if k = 1 then e.time % 2 ^ 64 else if k = 2 then pair32 e.p0 e.p1 else pair32 e.p2 e.p3

/-- Word `k` of a trace entry (Table 16.8). -/
def TEntry.word (e : TEntry) (k : Nat) : Nat :=
  if k = 0 then
    e.kind % 2 ^ 12 + e.buf * 2 ^ 12 + 2 ^ 15 + b2n e.loss * 2 ^ 16 + b2n e.sat * 2 ^ 17 + b2n e.capt * 2 ^ 18
      + e.tseq % 2 ^ 32 * 2 ^ 32
  else if k = 1 then e.time % 2 ^ 64 else if k = 2 then pair32 e.p0 e.p1 else pair32 e.p2 e.p3

/-- The residency entry of page `p` (Table 11.8). -/
def Gov.pageWord (g : Gov) (p : Nat) : Nat :=
  let x := g.page p
  x.tier + x.state * 2 ^ 2 + x.sid * 2 ^ 5 + x.ver * 2 ^ 15 + (if x.tier = 3 then 0 else x.loc) * 2 ^ 19
    + b2n (g.writeRefs p != 0) * 2 ^ 42 + b2n (g.readRefs p != 0) * 2 ^ 43 + x.next * 2 ^ 44

/-- Pages of sequence slot `s` that satisfy `p`, of those not FREE. -/
def Gov.countPages (g : Gov) (s : Seqn) (p : Page → Bool) : Nat :=
  ((g.pagesOf s.uid).filter (fun i => p (g.page i))).length

/-- Word `k` of a sequence table entry (Tables 11.7 and 12.11). -/
def Gov.seqWord (g : Gov) (sid k : Nat) : Nat :=
  let s := g.seqn sid
  let tier := fun (t : Nat) => g.countPages s (fun x => x.tier == t)
  match k with
  | 0 => s.state + s.prio * 2 ^ 8 + s.ctx * 2 ^ 16 + s.cgen * 2 ^ 32 + s.part * 2 ^ 40 + s.home * 2 ^ 48
  | 1 => pair32 s.skey (g.countPages s (fun _ => true))
  | 2 => pair32 s.head s.tail
  | 3 => pair32 (tier 0) (tier 1)
  | 4 => pair32 (tier 2) s.jstep
  | 5 => pair32 s.last s.shard
  | 6 => pair32 s.upd 0
  | 8 => pair32 (g.countPages s (fun x => x.state == pDEFERRED || x.state == pMOVING))
      (g.countPages s (fun x => x.state == pOLDKEEP))
  | 9 => pair32 (g.countPages s (fun x => x.state == pDRAIN))
      (g.countPages s (fun x => x.tier == 2 && g.flag (F.PL_PEER_UNREACH (x.loc / 2 ^ 18))))
  | 10 => pair32 s.spilled s.dstep
  | 11 => s.dcnt % 2 ^ 16 + b2n s.revoked * 2 ^ 16 + g.seqOrds s.uid % 2 ^ 16 * 2 ^ 32
  | 12 => s.ttd % 2 ^ 64
  | _ => 0

/-- Word `k` of the record of tile `t` (Table 5.4). -/
def Gov.tileWord (g : Gov) (t k : Nat) : Nat :=
  let r := g.trec t
  if r.wiped then 0
  else match k with
  | 0 => r.cap % 2 ^ 64
  | 1 => r.tcyc % 2 ^ 48
  | 2 => r.tstr % 2 ^ 64
  | 3 => r.tstop % 2 ^ 64
  | 4 => pair32 r.n1 r.n2
  | 5 => pair32 r.n3 r.lost
  | 6 => pair32 r.seq (g.rd (F.ST_TILE_EN t) + g.rd (F.ST_TILE_DLVL t) * 2 + g.rd (F.ST_TILE_HACK t) * 8
      + g.rd (F.ST_TILE_NOREP t) * 32 + g.rd (F.ST_TILE_GAP t) * 64)
  | _ => 0

/-- Word `k` of the block of histogram `h`, as last flushed (Table 16.6). -/
def Hist.word (x : Hist) (k : Nat) : Nat :=
  match k with
  | 0 => x.image.total % 2 ^ 64
  | 1 => ux 64 x.image.sum
  | 2 => pair32 (ux 32 x.image.min) (ux 32 x.image.max)
  | 3 => x.image.tMin % 2 ^ 64
  | 4 => x.image.tMax % 2 ^ 64
  | 5 => pair32 x.seq x.clears
  | 6 => 0
  | 7 => 0
  | k => mget 0 x.buckets (k - 8) % 2 ^ 64

/-- The word of register offset `o` in a configuration image (R486). -/
def cfgImageWord (b : Build) (m : Sparse Nat) (o : Nat) : Nat :=
  wordOf ((b.fieldsAt o).filter (fun f => f.keep == .retained)) (fun f => mget f.rst m f.key)

/-- The word at offset `o` of the configuration region but for its last, for a live and a shadow image (R486). -/
def cfgRegionWord (b : Build) (live shadow : Sparse Nat) (o : Nat) : Nat :=
  if o < 0x20000 then cfgImageWord b live o
  else if 0x40000 ≤ o ∧ o < 0x60000 then cfgImageWord b shadow (o - 0x40000)
  else 0

/-- The CRC-32 of the configuration region except its last word (R103). -/
def cfgCrc (b : Build) (live shadow : Sparse Nat) : Nat :=
  crc32 ((List.range 65535).flatMap (fun i => leBytes 8 (cfgRegionWord b live shadow (8 * i))))

/-- The check word: 0 before it is first written, complemented from the acceptance of a commit to its completion. -/
def Gov.checkWord (b : Build) (g : Gov) : Nat :=
  match g.cfg.chk with
  | none => 0
  | some (l, s) => if g.cfg.chkInv then 0xFFFFFFFF - cfgCrc b l s else cfgCrc b l s

/-! ## The store (R482) -/

/-- Dump staging, whose content the dump functions alone lay out: cleared by reset, open once a dump has used it. -/
def Gov.stagingWord (g : Gov) : Nat := if g.recr.staged then g.openValue % 2 ^ 64 else 0

/-- The word at store offset `off`, a multiple of 8, of a bank that is not dark. -/
def Gov.bankWord (b : Build) (g : Gov) (mem : List Host.Cell) (off : Nat) : Nat :=
  let raw := sumTo 8 (fun i => (memGet mem (off + i)).toNat * 2 ^ (8 * i))
  if off < 0x800000 then g.pageWord (off / 8)
  else if off < 0x880000 then bits (g.grant ((off - 0x800000) / 16)).word (off % 16 * 8) 64
  else if off < 0x8C0000 then raw
  else if off < 0x900000 then g.seqWord ((off - 0x8C0000) / 256) (off % 256 / 8)
  else if off < 0xA00000 then (mget {} g.recr.ring ((off - 0x900000) / 32)).word (off % 32 / 8)
  else if off < 0xA80000 then
    match mfind (g.tbuf ((off - 0xA00000) / 0x10000)).img (off % 0x10000 / 32) with
    | some e => e.word (off % 32 / 8)
    | none => 0
  else if off < 0xA88000 then g.tileWord ((off - 0xA80000) / 64) (off % 64 / 8)
  else if off < 0xA90000 then (g.hist ((off - 0xA88000) / 512)).word (off % 512 / 8)
  else if off < 0xAB0000 then 0
  else if off < 0xAC0000 then
    if off % 128 < 96 then raw
    else
      let x := mget (0, 0) g.th.img ((off - 0xAB0000) / 128)
      if off % 128 = 96 then x.1 else if off % 128 = 104 then x.2 else 0
  else if off < 0xB40000 then
    if off = 0xB3FFF8 then g.checkWord b else cfgRegionWord b (regsRetained g.regs) g.cfg.shadow (off - 0xAC0000)
  else g.stagingWord

/-- The word at store offset `off` (R487): 0 in a dark bank and outside the store. -/
def Gov.storeWord (b : Build) (g : Gov) (mem : List Host.Cell) (off : Nat) : Nat :=
  if 0xC00000 ≤ off ∨ g.dark (off / 0x40000) then 0 else g.bankWord b mem (off / 8 * 8)

/-- Reading a staging word moves the counter of free values on. -/
def Gov.readStaging (g : Gov) (off : Nat) : Gov :=
  if 0xB40000 ≤ off ∧ off < 0xC00000 ∧ g.recr.staged then g.nextFresh else g

/-! ## Reads through port B (R60, R380, R484, R488) -/

/-- A word as a read returns it: 0 for a word whose error cannot be corrected. -/
def Gov.readWord (b : Build) (g : Gov) (mem : List Host.Cell) (off : Nat) (bad : Bool) : Nat :=
  if bad then 0 else g.storeWord b mem off

/-- The state after a read of the word at `off`. -/
def storeTouched (b : Build) (off : Nat) (bad : Bool) (g : Gov) : Gov :=
  if bad ∧ off < 0xC00000 ∧ g.dark (off / 0x40000) = false then uncorrectable b off g else g.readStaging off

/-- Bytes `k` to `k + 7` of two words that follow each other. -/
def rotWord (lo hi k : Nat) : Nat := (lo + hi * 2 ^ 64) / 2 ^ (8 * k) % 2 ^ 64

/-- The store offset that window offset `w` reaches for `port` (R484). -/
def Gov.winOff (g : Gov) (port w : Nat) : Nat := mget 0 g.io.page port * 0xC0000 + (w - 0x40000)

/-- The data of a read at window offset `w` with rotation `rot`: `bad0`, `bad1` say that the word at `w`, or the next,
holds an error that cannot be corrected. -/
def Gov.windowData (b : Build) (g : Gov) (mem : List Host.Cell) (port w rot : Nat) (wide bad0 bad1 : Bool) : Nat :=
  let a := w / 8 * 8
  let lo := g.readWord b mem (g.winOff port a) bad0
  if wide = false then halfOf w lo
  else if rot % 8 = 0 then lo
  else rotWord lo (if 0xFFFF8 ≤ a then 0 else g.readWord b mem (g.winOff port a + 8) bad1) (rot % 8)

/-- A rotated read that touches the word behind `w` too. -/
def twoWords (w rot : Nat) (wide : Bool) : Bool := wide && rot % 8 != 0 && decide (w / 8 * 8 < 0xFFFF8)

/-- A port takes a response. -/
def Gov.respond (g : Gov) (port data code : Nat) : Gov :=
  { g with io := { g.io with hrs := mput g.io.hrs port { data := data, code := code } } }

/-- An access to the store window is taken: never in the Store stage (R102). -/
def Gov.windowTaken (g : Gov) (w : Nat) : Bool := g.live && decide (0x40000 ≤ w ∧ w < 0x100000) && g.stage != sSTORE

/-- A host read of the store window. (DEDUCED, log 76) -/
def windowRead (b : Build) (port w rot : Nat) (wide bad0 bad1 : Bool) (mem : List Host.Cell) (g : Gov) : Gov :=
  if g.windowTaken w then
    let o := g.winOff port (w / 8 * 8)
    let v := g.windowData b mem port w rot wide bad0 bad1
    ((g.touch port).respond port v 0).caused port (fun g =>
      let g := storeTouched b o bad0 g
      if twoWords w rot wide then storeTouched b (o + 8) bad1 g else g)
  else g

/-- The raw bytes after the words of a window read. -/
def windowReadMem (port w rot : Nat) (wide bad0 bad1 : Bool) (g : Gov) (mem : List Host.Cell) : List Host.Cell :=
  if g.windowTaken w then
    let o := g.winOff port (w / 8 * 8)
    let lose := fun (bad : Bool) (o : Nat) (m : List Host.Cell) =>
      if bad ∧ o < 0xC00000 ∧ g.dark (o / 0x40000) = false then memAfterLoss o m else m
    let m := lose bad0 o mem
    if twoWords w rot wide then lose bad1 (o + 8) m else m
  else mem

/-! ## Writes through port B (R58, R485) -/

/-- Port A may be writing the words of logical bank `k`: a copy of it, a pattern test of it, or for at most 1 ms after its
copy the rewriting of its images (R485, Tables 8.6 and 9.5). -/
def Gov.portAWrites (g : Gov) (k : Nat) : Bool :=
  (match g.store.copying with
    | some (c, _) => c == k
    | none => false)
  || (match g.test.run with
    | some t => t.id == 1 && t.obj == k
    | none => false)
  || (match mfind g.store.rewrites k with
    | some t => decide (g.gtime < t + 1000000)
    | none => false)

/-- A host write of the word at `off` reaches the store. -/
def Gov.storeTakes (g : Gov) (off : Nat) : Bool := decide (off < 0xC00000) && rawByte off && !g.dark (off / 0x40000)

/-- A host write loses its cycle to port A. -/
def Gov.collides (g : Gov) (off : Nat) (collide : Bool) : Bool :=
  g.storeTakes off && collide && g.portAWrites (off / 0x40000)

/-- The bits of `w` that `mask` names replace those of the raw word at `off`, a multiple of 8. -/
def memMerge (m : List Host.Cell) (off w mask : Nat) : List Host.Cell :=
  memPutBytes m off (mergeBits 64 (sumTo 8 (fun i => (memGet m (off + i)).toNat * 2 ^ (8 * i))) w mask) 8

/-- A host write of the store window. -/
def windowWrite (port w : Nat) (collide : Bool) (g : Gov) : Gov :=
  if g.windowTaken w then
    let c := g.collides (g.winOff port (w / 8 * 8)) collide
    let g := (g.touch port).respond port 0 (b2n c)
    if c then g.count (F.ERR_CNT_COUNT 7) 1 else g
  else g

/-- The raw bytes after a host write of the store window. A 32-bit write carries its data in bits 31:0. -/
def windowWriteMem (port w data : Nat) (wide collide : Bool) (g : Gov) (mem : List Host.Cell) : List Host.Cell :=
  if g.windowTaken w then
    let o := g.winOff port (w / 8 * 8)
    if g.storeTakes o ∧ g.collides o collide = false then
      memMerge mem o (if wide then data else data % 2 ^ 32 * (if 4 ≤ w % 8 then 2 ^ 32 else 1)) (accMask w wide)
    else mem
  else mem

end Sys2Proof.Machine
end

