-- ==== Sys2Proof/Machine/Recorder.lean ====
section
/-! DEFINITION. The recorder's own actions (spec/16): records and REC_START, histogram flushes, the µs counters, the
trace drain, the end of a dump, counter groups; the status mirror (R358), DMA error responses (R63), and the identity
layout (R75). -/

namespace Sys2Proof.Machine

/-! ## The event ring (R447 to R453) -/

/-- A record is written to its slot; NEXT moves on in the cycle of its last write. -/
def Gov.putRecord (g : Gov) (e : Evt) : Gov :=
  let s := g.rd F.REC_HEAD_NEXT
  let slot := s % g.rd F.REC_HEAD_SLOTS
  let g := if g.dark (36 + slot / 8192) then g
    else { g with recr := { g.recr with ring := mput g.recr.ring slot { valid := true, seq := s, evt := e } } }
  (g.wr F.REC_HEAD_NEXT (s + 1)).count (F.REC_CNT_COUNT 0) 1

/-- Once the queue has space again, REC_DROPPED enters it ahead of every later event. (DEDUCED, log 64) -/
def Gov.noteDropped (g : Gov) : Gov :=
  if g.recr.dropped = 0 ∨ 256 ≤ g.recr.queue.length then g
  else
    let e : Evt := { code := 0x0001, time := g.gtime, unal := !g.flag F.GTIME_STAT_ALIGNED,
                     sat := decide (0xFFFFFFFF < g.recr.dropped), p0 := p32 g.recr.dropped,
                     p1 := g.recr.dropTime % 2 ^ 32, p2 := g.recr.dropTime / 2 ^ 32 % 2 ^ 32 }
    { g with recr := { g.recr with queue := g.recr.queue ++ [e], dropped := 0, dropTime := 0 } }

/-- The recorder writes the next queued event into the ring. -/
def eventRecordWrite (g : Gov) : Gov :=
  if g.live ∧ g.recr.started then
    match g.recr.queue with
    | e :: r => (({ g with recr := { g.recr with queue := r } }).putRecord e).noteDropped
    | [] => g
  else g

/-- The level conditions of Table 15.5, as they hold now. -/
def Gov.svcLevels (b : Build) (g : Gov) : List Nat :=
  let phases := fun (p : Nat → Bool) => (List.range b.phases).any p
  let rails := fun (p : Nat → Bool) => (List.range b.rails).any p
  [(0, phases (fun p => g.rd (F.PH_STAT_STATE p) == 3)),
   (1, phases (fun p => g.rd (F.PH_STAT_STATE p) == 4 && (match railOf b g p with
      | some n => g.rd (F.RAIL_SEQ_EN n) == 1
      | none => false))),
   (3, rails (fun n => g.mode n == mFAULT)),
   (6, (List.range 512).any (fun t => b.tile t && g.flag (F.ST_TILE_NOREP t) && (g.trec t).norepTold)),
   (7, g.rd F.FT_STAT_BLIND != 0),
   (8, g.flag F.FT_STAT_DERATE),
   (9, g.flag F.FT_STAT_LATCHED),
   (10, g.rd F.STORE_RET_BANKS != 0),
   (11, g.pl.held != []),
   (14, g.rcv.pwrcyc)].filterMap (fun (e : Nat × Bool) => if e.2 then some e.1 else none)

/-- The level bits of SVC_CAUSE whose conditions hold are set, as in every cycle (R435). -/
def Gov.setLevels (b : Build) (g : Gov) : Gov := (g.svcLevels b).foldl (fun g i => g.svc i) g

/-- Clearing ends: the banks whose pattern failed are retired, and REC_START is record 0, its parameters sampled now
(R104, R453). -/
def recStartWrite (b : Build) (bad : List Nat) (g : Gov) : Gov :=
  if g.live ∧ g.stage = sSTORE ∧ g.recr.started = false then
    let g := (g.runTo 98304).setLevels b
    let g := (bad.filter (fun k => decide (k < 48) && (g.cold || decide (k ≠ 43 ∧ k ≠ 44)))).foldl
      (retireCleared b) g
    let e : Evt := { code := 0x0004, time := 0, unal := true, p0 := g.rd F.GOV_STAT_RSTCNT, p1 := b2n g.cold,
                     p2 := g.rd F.STORE_RET_BANKS % 2 ^ 32, p3 := g.rd F.SVC_CAUSE_CAUSE }
    let g := { g with recr := { g.recr with queue := g.recr.queue.filter (fun x => x.code != 0x0004), started := true } }
    (g.putRecord e).noteDropped
  else g

/-- REC_MARK: the record and, in every enabled trace buffer, a marker entry (R410, R454). -/
def recMark (port mbx arg p0 p1 : Nat) (g : Gov) : Gov :=
  let a := arg % 2 ^ 17 + mbx % 16 * 2 ^ 17
  let g := (g.evp port 0x0003 a p0 p1 (g.rd F.PL_LAST_STEP)).count (F.REC_CNT_COUNT 6) 1
  g.each (List.range 8) (fun g k => g.trace k 0xFFF a p0 p1 (g.rd F.PL_LAST_STEP))

/-- The record of sequence number `s`, if the ring still holds it (R411). -/
def Gov.recordOf (g : Gov) (s : Nat) : Option RingRec :=
  let slot := s % g.rd F.REC_HEAD_SLOTS
  match mfind g.recr.ring slot with
  | some r => if r.valid ∧ r.seq = s ∧ g.dark (36 + slot / 8192) = false then some r else none
  | none => none

/-- The newest record: NEXT − 1 (R449). -/
def Gov.newestRecord (g : Gov) : Option RingRec := g.recordOf ((g.rd F.REC_HEAD_NEXT + 2 ^ 32 - 1) % 2 ^ 32)

/-! ## Histograms and counters (R455 to R462) -/

/-- The index of the instant `per` × j that a timed row marks: the next one after `last`, or the latest that has come. -/
def nextInstant (last per now : Nat) : Nat := max (last + 1) (now / per)

/-- Every histogram is flushed at an instant of 10,000 × j ns. -/
def histogramFlush (g : Gov) : Gov :=
  if g.live then
    let j := nextInstant g.recr.lastFlush 10000 g.gtime
    let g := g.runTo (10000 * j)
    let g := { g with recr := { g.recr with lastFlush := j } }
    g.each (List.range 64) (fun g h => g.flushHist h)
  else g

/-- The utilisation counters take their condition at a µs instant (Table 16.5). -/
def utilTick (b : Build) (g : Gov) : Gov :=
  let up := fun (k : Nat) (c : Bool) (g : Gov) => if c then g.count (F.UTIL_CNT_COUNT k) 1 else g
  let dies := List.range b.dies
  let g := up 0 g.brg.govReady g
  let g := up 1 (g.grantsBy (fun x => x.st == 1 && x.cls != 0) != []) g
  let g := up 2 ((List.range b.rails).any (fun n => g.mode n == mCLOSED && !g.horizonValid n)) g
  let g := up 3 (dies.any (fun d => decide (g.rd (F.DMD_DIE_CEIL d) < g.rd (F.TH_DIE_CNOM d)))) g
  let g := up 4 (dies.any (fun d => g.rd (F.ST_THR_TLVL d) != 0)) g
  let g := up 5 g.recr.limitedUs g
  let g := up 6 (dies.any (fun d => (List.range b.tiles).any (fun i => decide (2 ≤ g.rd (F.ST_TILE_DLVL (64 * d + i)))))) g
  let e := g.recr.energyAcc + sumTo b.rails (fun n => g.rd (F.RAIL_MEAS_POUT n))
  let g := { g with recr := { g.recr with energyAcc := e % 8000, limitedUs := false } }
  g.count (F.UTIL_CNT_COUNT 7) (e / 8000)

/-- The histograms sampled each µs take their samples (Table 16.7). -/
def histTick (b : Build) (g : Gov) : Gov :=
  let g := g.each (List.range b.rails) (fun g n =>
    let g := if g.mode n = mOFF then g else g.histo n (g.rd (F.RAIL_MEAS_ISUM n) : Int)
    if g.mode n = mCLOSED then
      g.histo (16 + n) ((g.rd (F.RAIL_STAT_VREF n) : Int) - (g.rd (F.RAIL_MEAS_VS n) : Int))
    else g)
  let g := g.each (List.range b.dies) (fun g d =>
    g.histo (32 + d) ((sumTo b.rails (fun n => if g.railDie n = d then g.rd (F.RAIL_MEAS_POUT n) else 0) : Nat) : Int))
  let g := g.histo 61 ((min 16384 g.dm.backlog.length : Nat) : Int)
  let g := g.histo 62 (g.ordsOut : Int)
  let g := g.histo 63 (g.recr.deepTiles.length : Int)
  { g with recr := { g.recr with deepTiles := [] } }

/-- A GTIME instant of 1,000 × j ns; the greatest module demand since the last frame is kept too (R270). -/
def microsecondTick (b : Build) (g : Gov) : Gov :=
  if g.live then
    let j := nextInstant g.recr.lastUs 1000 g.gtime
    let g := g.runTo (1000 * j)
    let g := { g with recr := { g.recr with lastUs := j }, hr := { g.hr with pk := max g.hr.pk (g.modDemand b) } }
    histTick b (utilTick b g)
  else g

/-- The field of counter `k` of group `grp` (Table 16.4). -/
def cntField (grp k : Nat) : Fld :=
  match grp with
  | 0 => F.DMD_CNT_COUNT k
  | 1 => F.PL_CNT_COUNT k
  | 2 => F.RCV_CNT_COUNT k
  | 3 => F.REC_CNT_COUNT k
  | 4 => F.UTIL_CNT_COUNT k
  | _ => F.ERR_CNT_COUNT k

/-- CNT_CLEAR of group `grp`: the counters as sampled, and 0 from then on. -/
def cntClear (grp : Nat) (g : Gov) : Gov × List Nat :=
  (g.each (List.range 8) (fun g k => g.wr (cntField grp k) 0), (List.range 8).map (fun k => g.rd (cntField grp k)))

/-! ## The trace drain (R466, R467) -/

/-- The buffer that the drain takes next, in rotation from the one last served. -/
def Gov.drainNext (g : Gov) : Option Nat :=
  ((List.range 8).map (fun i => (g.recr.drainLast + 1 + i) % 8)).find? (fun k => (g.tbuf k).held != 0)

/-- The ring has room for one more entry. -/
def Gov.ringRoom (g : Gov) : Bool :=
  !g.flag F.TRC_STAT_NORING
    && decide ((g.rd F.TRC_PROD_PROD + 2 ^ 32 - g.rd F.TRC_CONS_CONS) % 2 ^ 32 < g.recr.ringCur.2 / 32)

/-- The oldest undrained entry of a buffer as four words; one whose word was lost reads 0 (Table 15.6). -/
def TBuf.oldest (x : TBuf) : List Nat :=
  match mfind x.img ((x.pos + 2048 - x.held) % 2048) with
  | some e => (List.range 4).map e.word
  | none => [0, 0, 0, 0]

/-- An entry is sent to the ring, where none is being drained. -/
def drainStart (g : Gov) : Gov :=
  if g.recr.draining.isSome ∨ g.ringRoom = false ∨ g.flag F.DMA_STAT_TRACE_ERR then g
  else
    match g.drainNext with
    | some k =>
      let a := g.recr.ringCur.1 + 32 * g.rd F.TRC_PROD_PROD % g.recr.ringCur.2
      let g := { g with recr := { g.recr with draining := some k } }
      g.dmaOpen 0 a true (g.tbuf k).oldest traceParts
    | none => g

/-- The write responses of the entry being drained have come. -/
def drainDone (g : Gov) : Gov :=
  match g.recr.draining with
  | some k =>
    let x := g.tbuf k
    let g := g.setTbuf k { x with held := x.held - 1 }
    let g := (g.wr F.TRC_PROD_PROD (g.rd F.TRC_PROD_PROD + 1)).count (F.REC_CNT_COUNT 4) 1
    let g := { g with recr := { g.recr with draining := none, drainLast := k } }.dmaShut 0
    if g.recr.ringNew.isSome then g.ringTake else g
  | none => g

/-- One entry is drained: sent where none is on its way, and taken where its responses have come. (DESIGN CHOICE, log 59) -/
def traceDrain (written : Bool) (g : Gov) : Gov :=
  if g.live then (if written then drainDone (drainStart g) else drainStart g) else g

/-! ## The identity layout (Table 2.15) -/

/-- The 26 bytes of the identity layout. -/
def Gov.identBytes (b : Build) (g : Gov) : List Nat :=
  leBytes 4 (g.regWord b 15 0x0) ++ leBytes 4 (g.regWord b 15 0x8) ++ leBytes 8 (g.regWord b 15 0x10)
    ++ leBytes 7 (g.rd F.HOST_LOT_LOT)
    ++ [g.rd F.HOST_POS_WAFER + (if g.rd F.HOST_POS_FSTAT = 1 then 0 else 128), g.rd F.HOST_POS_X, g.rd F.HOST_POS_Y]

/-- Bytes as 64-bit words, byte 0 lowest. -/
def bytesToWords (n : Nat) (l : List Nat) : List Nat := (List.range n).map (fun i => leAt l (8 * i) 8)

/-! ## The end of a dump (R468 to R471) -/

/-- The 192-byte header of a dump that ends now, DONE included; `begun` gives the instants at which the reading of its
sections began. -/
def Dump.header (b : Build) (g : Gov) (d : Dump) (begun : List Nat) : List Nat :=
  let sect := fun (i : Nat) =>
    if i < d.sects.length then
      leBytes 4 (192 + (d.sects.take i).foldl (· + ·) 0) ++ leBytes 4 (d.sects.getD i 0) ++ leBytes 8 (begun.getD i 0)
    else leBytes 16 0
  bytesToWords 24 (leBytes 2 1 ++ [d.kind, d.status] ++ leBytes 4 d.trig ++ leBytes 8 d.tStart ++ leBytes 8 g.gtime
    ++ g.identBytes b ++ leBytes 2 (g.rd F.GOV_STAT_RSTCNT) ++ leBytes 4 d.step ++ leBytes 4 d.sects.length
    ++ leBytes 4 d.nextSeq ++ (List.range 5).flatMap sect ++ leBytes 44 0 ++ leBytes 4 1)

/-- A SEQUENCE dump whose copy is taken is written, or a remembered trigger is acted on, once no dump runs. -/
def Gov.nextDump (g : Gov) : Gov :=
  match g.recr.seqWait with
  | some a =>
    let g := { g with recr := { g.recr with seqWait := none } }
    g.beginDump a (if a.sid.isSome then [256, 16 * a.pages.length] else [])
  | none =>
    match g.recr.dumpTrig with
    | some t => { g with recr := { g.recr with dumpTrig := none } }.autoDump t
    | none => g

/-- Every section of the dump that runs has its write responses: DONE is written. -/
def dumpComplete (b : Build) (begun : List Nat) (g : Gov) : Gov :=
  match g.recr.dump with
  | some d =>
    if g.live ∧ g.flag F.DMA_STAT_DUMP_ERR = false then
      let g := { g with recr := { g.recr with dump := none, header := d.header b g begun } }.dmaShut 1
      let g := ((g.wr F.DUMP_STAT_BUSY 0).wr F.DUMP_STAT_DONE_SEEN 1).wr F.DUMP_STAT_LAST_STATUS d.status
      let g := g.count (F.REC_CNT_COUNT 5) 1
      (g.ev 0x0005 (d.kind + d.status * 2 ^ 8) (192 + d.sects.foldl (· + ·) 0) d.trig 0).nextDump
    else g
  | none => g

/-! ## The status mirror (R358) -/

/-- Words 1 to 30 of a snapshot taken now (Table 13.6); the copies of MSEQ are words 0 and 31. -/
def Gov.mirrorWords (b : Build) (g : Gov) : List Nat :=
  [g.gtime, g.regWord b 15 0x2000, g.regWord b 15 0xC210, g.regWord b 15 0xA008, g.regWord b 15 0x2050,
    g.regWord b 15 0x16000, g.rd F.MIR_CTL_SKIP] ++ (List.range 16).map (fun n => g.regWord b 15 (0x1010 + 64 * n))
    ++ List.replicate 7 0

/-- The writes of a snapshot begin: the first copy of MSEQ goes out. -/
def Gov.mirrorBegin (g : Gov) (ws : List Nat) : Gov :=
  let q := (g.rd F.MIR_CTL_MSEQ + 1) % 2 ^ 32
  let a := 16 * g.rd F.MIR_ADDR_ADDR
  { g with mir := { g.mir with snap := some (q :: ws), wait := none } }.dmaOpen 2 a true ((q :: ws) ++ [q]) mirrorParts

/-- An instant of 10,000 × j ns: a snapshot is taken. One whose writes have not begun by now is skipped, and so is one
taken while an error response is outstanding. (DEDUCED, log 60) -/
def mirrorSnapshot (b : Build) (g : Gov) : Gov :=
  if g.live then
    let j := nextInstant g.mir.lastJ 10000 g.gtime
    let g := g.runTo (10000 * j)
    let g := { g with mir := { g.mir with lastJ := j } }
    let g := if g.mir.wait.isSome then
      { g.count F.MIR_CTL_SKIP 1 with mir := { g.mir with wait := none } } else g
    if g.flag F.MIR_CTL_EN = false then g
    else if g.flag F.DMA_STAT_MIR_ERR then g.count F.MIR_CTL_SKIP 1
    else if g.mir.snap.isSome then { g with mir := { g.mir with wait := some (g.mirrorWords b) } }
    else g.mirrorBegin (g.mirrorWords b)
  else g

/-- The middle part of the snapshot has its responses: the second copy of MSEQ is written, and MSEQ advances. The response
of that copy comes with it. (DEDUCED, log 101) -/
def mirrorWritten (g : Gov) : Gov :=
  match g.mir.snap with
  | some _ =>
    let g := { g.wr F.MIR_CTL_MSEQ (g.rd F.MIR_CTL_MSEQ + 1) with mir := { g.mir with snap := none } }.dmaShut 2
    match g.mir.wait with
    | some ws => g.mirrorBegin ws
    | none => g
  | none => g

/-! ## DMA errors (R63, R295, R312) -/

/-- An error response to a transaction of function `f`: the function stops with its error bit set. -/
def dmaStop (f : Nat) (x : DmaTx) (q : DmaReq) (g : Gov) : Gov :=
  let g := (g.wr (dmaErrFld f) 1).count (F.ERR_CNT_COUNT 6) 1
  let a := x.reqAddr q
  let g := (g.ev 0x0006 f q.id (a % 2 ^ 32) (a / 2 ^ 32 % 2 ^ 24)).dmaShut f
  if f = 0 then
    let g := { g with recr := { g.recr with draining := none } }
    if g.recr.ringNew.isSome then g.ringTake else g
  else if f = 2 then { g with mir := { g.mir with snap := none } }
  else if f = 3 then
    match g.pl.cur with
    | some c =>
      let g := g.wr (if c.fetched then F.PL_STAT_REPLY_ERR else F.PL_STAT_FETCH_ERR) 1
      plEnd { g with pl := { g.pl with ords := g.pl.ords.map (fun o => { o with replyWait := false }) } }
    | none => g
  else g

/-- After the responses of the oldest `done` transactions of function `f`, an error response comes for its transaction `id`;
one that answers no transaction outstanding changes nothing. -/
def dmaError (f id done : Nat) (g : Gov) : Gov :=
  let g' := dmaResponds f done g
  match mfind g'.dma f, g'.dmaReq f id with
  | some x, some q => dmaStop f x q g'
  | _, _ => g

end Sys2Proof.Machine
end

