-- ==== Sys2Proof/Machine/SelfTest.lean ====
section
/-! DEFINITION. CAL_PROBE as it waits, starts and is dropped (R417, R501, R502), and the self-tests (R418, R498 to
R500). -/

namespace Sys2Proof.Machine

/-! ## CAL_PROBE -/

/-- The conditions of R501 on rail `n`. -/
def Gov.calReady (g : Gov) (n : Nat) : Bool :=
  g.mode n == mCLOSED && decide (64 ≤ mget 0 g.dm.pkZero n) && !g.committing && !g.flag (F.RAIL_STAT_PEND n)

/-- Modes that a rail leaves only through a START (R417). -/
def Gov.railIdle (g : Gov) (n : Nat) : Bool := g.mode n == mOFF || g.mode n == mFAULT || g.mode n == mDOWN

/-- A CAL_PROBE of rail `n` runs or waits. -/
def Gov.calBusy (g : Gov) (n : Nat) : Bool := (mfind g.probes n).isSome || (mfind g.calWait n).isSome

/-- CAL_PROBE taken as command `i`: it waits for the boundary with its reply owed, or with 0x51 answered. (DEDUCED, log 62) -/
def calProbe (b : Build) (i n : Nat) (pick : Bool) (g : Gov) : Gov :=
  if g.railIdle n then g.probeReply b i n 0x14
  else if g.calBusy n then g.probeReply b i n 0x11
  else if g.calReady n then
    ({ g with calWait := mput g.calWait n { pick := pick, cmd := some i } }).waitFor i 5 n
  else ({ g with calWait := mput g.calWait n { pick := pick } }).probeReply b i n 0x51

/-- A boundary of rail `n` at which the conditions of a waiting CAL_PROBE hold: it starts, every usable phase in use. -/
def probeDeferredStart (b : Build) (n : Nat) (g : Gov) : Gov :=
  match mfind g.calWait n with
  | some w =>
    if g.live ∧ n < b.rails ∧ g.calReady n then
      let g := { g with
        calWait := mdel g.calWait n,
        probes := mput g.probes n { rail := n, t0 := g.gtime, cal := true, pick := w.pick, cmd := w.cmd } }
      if g.rd (F.RAIL_PSTAT_N_USE n) < g.nU n then g.setNuse n (g.nU n) else g
    else g
  | none => g

/-- A CAL_PROBE that waits for a rail, or runs on one, that has entered OFF, FAULT or DOWN is dropped: PROBE_RESULT with
STAT 0 for one that waits, and 0x14 where a reply is owed (R501). -/
def Gov.probeSettle (b : Build) (g : Gov) : Gov :=
  let ws := g.calWait.filter (fun (e : Nat × CalWait) => g.railIdle e.1)
  let ps := g.probes.filter (fun (e : Nat × Probe) => e.2.cal && g.railIdle e.1)
  if ws.isEmpty && ps.isEmpty then g
  else
    let g := { g with
      calWait := g.calWait.filter (fun (e : Nat × CalWait) => !g.railIdle e.1),
      probes := g.probes.filter (fun (e : Nat × Probe) => !(e.2.cal && g.railIdle e.1)) }
    let owed := fun (c : Option Nat) (n : Nat) (g : Gov) => match c with
      | some c => g.probeReply b c n 0x14
      | none => g
    let g := ws.foldl (fun g (e : Nat × CalWait) => owed e.2.cmd e.1 (g.ev 0x9006 e.1 0 0 0)) g
    ps.foldl (fun g (e : Nat × Probe) => owed e.2.cmd e.1 g) g

/-! ## Self-tests (Table 18.4) -/

/-- The object of a test is built (Table 14.11). -/
def testObject (b : Build) (id obj : Nat) : Bool :=
  if id = 1 then decide (obj < 48) else if id = 2 then decide (obj < 2) else if id = 3 then obj == 0
  else if id = 4 then decide (obj < b.dies) else if id = 5 then decide (obj < b.rails) else id == 6 && obj == 0

/-- The condition under which a test may start (Table 18.4). -/
def Gov.testMay (b : Build) (g : Gov) (id obj : Nat) : Bool :=
  if id = 3 then decide (g.rd F.TH_STAT_RATE < 2) && !g.flag F.TH_CTL_FAST
  else if id = 4 then
    g.enmask obj == 0 && (List.range b.tiles).all (fun i => !g.flag (F.ST_TILE_EN (64 * obj + i)))
  else if id = 5 then g.mode obj == mOFF
  else true

/-- A test starts. -/
def Gov.testStart (g : Gov) (t : TestRun) : Gov :=
  let g := { g with test := { run := some { t with bank := if t.id = 1 then g.phys t.obj else 0 }, pend := none } }
  (g.wr F.TEST_STAT_BUSY 1).wr F.TEST_STAT_PEND 0

/-- TEST_RUN taken as command `i`. -/
def testRun (b : Build) (i id obj : Nat) (g : Gov) : Gov :=
  if g.test.run.isSome ∨ g.test.pend.isSome then g.reply i 0x11 [0, 0]
  else if id = 1 ∧ g.dark obj then g.reply i 0x14 [0, 0]
  else if id = 1 ∧ (g.flag (F.STORE_MAP_COPY obj) ∨ g.store.queue ≠ [] ∨ g.store.waits ≠ []) then g.reply i 0x11 [0, 0]
  else
    let g := ((g.wr F.TEST_STAT_ID id).wr F.TEST_STAT_OBJECT obj)
    if g.testMay b id obj then (g.testStart { id := id, obj := obj, cmd := some i }).waitFor i 6 0
    else
      ({ g with test := { g.test with pend := some { id := id, obj := obj } } }.wr F.TEST_STAT_PEND 1).reply i 0x51 [0, 0]

/-- The condition of the test that waits holds: it starts. -/
def testDeferredStart (b : Build) (g : Gov) : Gov :=
  match g.test.pend with
  | some t => if g.live ∧ g.testMay b t.id t.obj then g.testStart t else g
  | none => g

/-- The running test ends; `ok` says that no item failed, `item` names the first that did. A bank retired meanwhile for
another cause fails its test, and is not retired again (Table 18.5). -/
def testComplete (b : Build) (ok : Bool) (item : Nat) (g : Gov) : Gov :=
  match g.test.run with
  | some t =>
    if g.live then
      let gone := t.id == 1 && bit (g.rd F.STORE_RET_BANKS) t.bank
      let pass := ok && !gone
      let item := if pass then 0 else item % 2 ^ 16
      let g := { g with test := { g.test with run := none } }
      let g := ((g.wr F.TEST_STAT_BUSY 0).wrB F.TEST_STAT_PASS pass).wr F.TEST_STAT_ITEM item
      let g := g.wr F.TEST_STAT_RUNS (g.rd F.TEST_STAT_RUNS + 1)
      let g := if pass then g else g.ev 0x8001 t.id t.obj item 0
      let g := if pass ∨ gone then g
        else if t.id = 1 then retire b t.obj 4 g
        else if t.id = 4 then g.setBit F.ST_STAT_RING_ERR t.obj else g
      let g := if t.id = 4 then g.enmaskRestore b t.obj else g
      match t.cmd with
      | some i => g.reply i 0x00 [b2n pass + item * 2 ^ 16, g.gtime]
      | none => g
    else g
  | none => g

end Sys2Proof.Machine
end

