-- ==== Sys2Proof/Machine/Opcodes.lean ====
section
/-! DEFINITION. The opcodes of the command reference: what each does once the common checks have passed, and the
ranges of its ARG and parameters (R377 to R418). -/

namespace Sys2Proof.Machine

/-- What an opcode finds outside the governor: the raw store bytes, the offsets of words whose errors cannot be
corrected, and the number of the first STORE_WRITE word that keeps losing to port A, if any does. -/
structure OpEnv where
  mem : List Host.Cell := []
  bad : List Nat := []
  lose : Option Nat := none

/-- Register words as the pushing port reads them, with no side effect. -/
def Cmd.words (c : Cmd) (b : Build) (g : Gov) (offs : List Nat) : List Nat := offs.map (fun o => g.regWord b c.port o)

/-- Registers read in one cycle, RC fields cleared as by a register read (R376). -/
def Cmd.reads (c : Cmd) (b : Build) (offs : List Nat) (g : Gov) : Gov × List Nat :=
  offs.foldl (fun (a : Gov × List Nat) o =>
    let r := regRead b c.port o maskAll a.1
    (r.1, a.2 ++ [r.2])) (g, [])

/-- A reply of registers as they stand. -/
def opWords (offs : List Nat) (b : Build) (i : Nat) (c : Cmd) (g : Gov) : Gov := g.reply i 0x00 (c.words b g offs)

/-- A reply of registers read with their side effects. -/
def opReads (offs : List Nat) (b : Build) (i : Nat) (c : Cmd) (g : Gov) : Gov :=
  let r := c.reads b offs g
  r.1.reply i 0x00 r.2

/-- `n` offsets from `base`, `stride` bytes apart. -/
def offsets (base stride n : Nat) : List Nat := (List.range n).map (fun k => base + stride * k)

/-! ## System (R377 to R383) -/

/-- IDENT. -/
def opIdent (b : Build) (i : Nat) (g : Gov) : Gov :=
  g.reply i 0x00 (bytesToWords 4 (g.identBytes b
    ++ [g.rd F.GOV_STAT_RSTCNT % 256, g.rd F.GOV_STAT_RSTCNT / 256 % 256, g.stage, 0, 0, 0]))

/-- An offset that REG_READ and REG_WRITE accept (R379). -/
def regOffOk (a : Nat) : Bool :=
  a % 8 == 0 && decide (a < 0x40000) && !(decide (0x1000 ≤ a ∧ a < 0x1400) && decide (a % 64 < 16))

/-- REG_READ. -/
def opRegRead (b : Build) (i : Nat) (c : Cmd) (g : Gov) : Gov :=
  let r := regRead b c.port c.arg maskAll g
  r.1.reply i 0x00 [r.2]

/-- REG_WRITE: the register is read back with no side effect. (DEDUCED, log 65) -/
def opRegWrite (b : Build) (i : Nat) (c : Cmd) (g : Gov) : Gov :=
  let r := regWrite b c.port c.arg (c.params.getD 0 0) (c.params.getD 1 maskAll) g
  r.1.reply i r.2 [r.1.regWord b c.port c.arg]

/-- `n` words of the store from offset `off`, read one after another: the governor, the raw bytes, the words. -/
def storeReadWords (b : Build) (bad : List Nat) : Nat → Nat → Gov → List Host.Cell → Gov × List Host.Cell × List Nat
  | 0, _, g, m => (g, m, [])
  | n + 1, off, g, m =>
    let x := bad.contains off
    let w := g.readWord b m off x
    let m' := if x ∧ off < 0xC00000 ∧ g.dark (off / 0x40000) = false then memAfterLoss off m else m
    let r := storeReadWords b bad n (off + 8) (storeTouched b off x g) m'
    (r.1, r.2.1, w :: r.2.2)

/-- STORE_READ (R59, R380). -/
def opStoreRead (e : OpEnv) (b : Build) (i : Nat) (c : Cmd) (g : Gov) : Gov :=
  let r := storeReadWords b e.bad (bits c.arg 24 5) (bits c.arg 0 24) g e.mem
  r.1.reply i 0x00 r.2.2

/-- Words of a STORE_WRITE that are written: all, or those before the first that still loses to port A after 4
repetitions. -/
def storeWritten (e : OpEnv) (c : Cmd) (g : Gov) : Nat :=
  match e.lose with
  | some k =>
    if k < c.params.length ∧ g.collides (bits c.arg 0 24 + 8 * k) true then k else c.params.length
  | none => c.params.length

/-- STORE_WRITE: its reply; the bytes are those of `storeWriteMem`. (DEDUCED, log 67) -/
def opStoreWrite (e : OpEnv) (i : Nat) (c : Cmd) (g : Gov) : Gov :=
  let n := storeWritten e c g
  g.reply i (if n = c.params.length then 0x00 else 0x50) [n]

/-- Words written one after another from offset `off`; those of a dark bank are discarded (R487). -/
def storeWriteWords : Nat → List Nat → Gov → List Host.Cell → List Host.Cell
  | _, [], _, m => m
  | off, w :: r, g, m =>
    storeWriteWords (off + 8) r g (if g.storeTakes off then memMerge m off w maskAll else m)

/-- The raw bytes after a STORE_WRITE. -/
def storeWriteMem (e : OpEnv) (c : Cmd) (g : Gov) : List Host.Cell :=
  storeWriteWords (bits c.arg 0 24) (c.params.take (storeWritten e c g)) g e.mem

/-- CFG_OPEN: the reply waits for the copy. -/
def opCfgOpen (i : Nat) (c : Cmd) (g : Gov) : Gov :=
  let r := cfgOpen c.port g
  if r.2 = 0 then r.1.waitFor i 1 0 else r.1.reply i r.2 []

/-- CFG_COMMIT: the reply waits for the completion. -/
def opCfgCommit (i : Nat) (c : Cmd) (g : Gov) : Gov :=
  let r := cfgCommit c.port (c.params.getD 0 0) g
  if r.2 = 0 then r.1.waitFor i 2 0 else r.1.reply i r.2 [r.1.rd F.CFG_TC_TC, r.1.rd F.CFG_STAT_NCHG]

/-- CFG_ABORT. -/
def opCfgAbort (i : Nat) (c : Cmd) (g : Gov) : Gov :=
  let r := cfgAbort c.port g
  r.1.reply i r.2 []

/-- LOCK TAKE. -/
def opLockTake (b : Build) (i : Nat) (c : Cmd) (g : Gov) : Gov :=
  let g := lockTake c.port g
  g.reply i (if g.rd F.GOV_LOCK_OWNER = c.port then 0x00 else 0x11) [g.regWord b c.port 0x2008]

/-- LOCK RELEASE. -/
def opLockRelease (b : Build) (i : Nat) (c : Cmd) (g : Gov) : Gov :=
  let own := g.rd F.GOV_LOCK_OWNER
  let g := lockRelease c.port g
  g.reply i (if own = c.port then 0x00 else 0x30) [g.regWord b c.port 0x2008]

/-- LOCK FORCE. -/
def opLockForce (b : Build) (i : Nat) (c : Cmd) (g : Gov) : Gov :=
  let g := lockForce c.port g
  g.reply i 0x00 [g.regWord b c.port 0x2008]

/-- LOCK. -/
def opLock (b : Build) (i : Nat) (c : Cmd) (g : Gov) : Gov :=
  if c.arg = 1 then opLockTake b i c g else if c.arg = 2 then opLockRelease b i c g else opLockForce b i c g

/-- BRG_START. -/
def opBrgStart (b : Build) (i : Nat) (c : Cmd) (g : Gov) : Gov :=
  let stage := g.stage
  let r := brgStart b false g
  r.1.reply i (if r.2 then 0x02 else if stage = sWAITCFG ∨ stage = sOFF then 0x25 else 0x10)
    [r.1.regWord b c.port 0x12108]

/-- BRG_STOP. -/
def opBrgStop (b : Build) (i : Nat) (c : Cmd) (g : Gov) : Gov :=
  let ok := g.stopTaken
  let g := brgStop b g
  g.reply i (if ok then 0x02 else 0x10) [g.regWord b c.port 0x12108]

/-! ## Budget and Hedgerow (R384 to R387) -/

/-- The throttle levels of every die, 3 bits each. -/
def Gov.throttles (g : Gov) : Nat := sumTo 8 (fun d => g.rd (F.ST_THR_TLVL d) * 2 ^ (3 * d))

/-- The levels of the dies in a list become `l`; the reply holds the levels before. -/
def opThrottle (ds : List Nat) (l : Nat) (i : Nat) (g : Gov) : Gov :=
  (g.each ds (fun g d => g.setThrottle d l)).reply i 0x00 [g.throttles]

/-- HR_EPOCH_NOW. -/
def opEpochNow (b : Build) (i : Nat) (g : Gov) : Gov :=
  if g.hrRootDev = false then g.reply i 0x13 []
  else if g.rd F.HR_EPOCH_HALL_CAP = 0 then g.reply i 0x14 []
  else if g.hrNextEpoch.isSome then g.reply i 0x11 []
  else
    let g := hrEpochNow b g
    match g.hrNextEpoch with
    | some e => g.reply i 0x00 [e.num, e.time]
    | none => g.reply i 0x00 [0, 0]

/-- HR_FORGET. -/
def opForget (i : Nat) (c : Cmd) (g : Gov) : Gov :=
  if (g.hlink c.arg).hold.isNone then g.reply i 0x01 [] else (hrForget c.arg g).reply i 0x00 []

/-! ## Rails (R388 to R391) -/

/-- RAIL_PHASES: the block in force, or before any START the one RAIL_CFG names (DEDUCED, log 12). -/
def opRailPhases (b : Build) (i : Nat) (c : Cmd) (g : Gov) : Gov :=
  let r := g.rail c.arg
  let first := if r.count ≠ 0 then r.first else g.rd (F.RAIL_CFG_FIRST c.arg)
  let count := if r.count ≠ 0 then r.count else g.rd (F.RAIL_CFG_COUNT c.arg)
  opReads (offsets (0x8000 + 8 * first) 8 (min 24 count)) b i c g

/-- RAIL_OPEN. -/
def opRailOpen (b : Build) (i : Nat) (c : Cmd) (g : Gov) : Gov :=
  let n := bits c.arg 0 4
  let want := bits c.arg 8 1
  let st := fun (g : Gov) => [g.regWord b c.port (0x4500 + 8 * n)]
  if g.railIdle n then g.reply i 0x14 (st g)
  else if g.flag (F.RAIL_STAT_PEND n) then g.reply i 0x11 (st g)
  else if g.rd (F.RAIL_CTL_OPEN n) = want then g.reply i 0x01 (st g)
  else
    let r := regWrite b c.port (0x4000 + 8 * n) (4 * want) 4 g
    r.1.reply i r.2 (st r.1)

/-- RAIL_CSET: the reply waits for the boundary at which the switch is made. -/
def opRailCset (b : Build) (i : Nat) (c : Cmd) (g : Gov) : Gov :=
  let n := bits c.arg 0 4
  let k := bits c.arg 8 2
  let m := g.mode n
  let st := fun (g : Gov) => [g.regWord b c.port (0x4500 + 8 * n)]
  if m ≠ mCLOSED ∧ m ≠ mOPEN ∧ m ≠ mBURST then g.reply i 0x14 (st g)
  else if g.flag (F.RAIL_STAT_PEND n) then g.reply i 0x11 (st g)
  else if g.rd (F.RAIL_STAT_CSET_ACT n) = k ∧ (g.rail n).csetReq = none then g.reply i 0x01 (st g)
  else
    let r := regWrite b c.port (0x4000 + 8 * n) k 3 g
    if r.2 ≠ 0 then r.1.reply i r.2 (st r.1)
    else if (r.1.rail n).csetReq.isSome then r.1.waitFor i 3 n
    else r.1.reply i 0x00 (st r.1)

/-! ## Demand (R392 to R398) -/

/-- The raw bytes that a read of the store returns: those of dark banks are 0 (R487). -/
def seenMem (g : Gov) (m : List Host.Cell) : List Host.Cell := m.filter (fun c => !g.dark (c.1 / 0x40000))

/-- What a SIG_LOAD has done so far: signatures loaded and refused, the first refused with code and check. -/
structure SigLoad where
  g : Gov
  loaded : Nat := 0
  refused : Nat := 0
  first : Option (Nat × Nat × Nat) := none

/-- A signature is refused. -/
def SigLoad.refuse (a : SigLoad) (id code check : Nat) : SigLoad :=
  { a with refused := a.refused + 1, first := some (a.first.getD (id, code, check)) }

/-- One signature is loaded or refused (R212, R393). -/
def sigLoadOne (b : Build) (m : List Host.Cell) (a : SigLoad) (id : Nat) : SigLoad :=
  if (mfind a.g.dm.sigs id).isSome ∨ a.g.sigRefs id ≠ 0 then a.refuse id 0x11 0
  else
    let l := memBytes m (sigAddr id) 64
    let k := sigCheck b id l
    if k ≠ 0 then a.refuse id 0x26 k
    else { a with g := { a.g with dm := { a.g.dm with sigs := mput a.g.dm.sigs id (sigDecode l) } }, loaded := a.loaded + 1 }

/-- The IDs that a range opcode names. -/
def Cmd.sigIds (c : Cmd) : List Nat := (List.range (c.params.getD 0 1)).map (fun k => c.arg + k)

/-- SIG_LOAD. -/
def opSigLoad (e : OpEnv) (b : Build) (i : Nat) (c : Cmd) (g : Gov) : Gov :=
  let a := c.sigIds.foldl (sigLoadOne b (seenMem g e.mem)) { g := g }
  let f := a.first.getD (0, 0, 0)
  let code := if a.refused = 0 then 0x00 else if a.loaded ≠ 0 then 0x50 else f.2.1
  a.g.reply i code [a.loaded + a.refused * 2 ^ 16 + f.1 * 2 ^ 32 + f.2.1 * 2 ^ 44 + f.2.2 * 2 ^ 52]

/-- SIG_UNLOAD (R213, R394). -/
def opSigUnload (i : Nat) (c : Cmd) (g : Gov) : Gov :=
  let l := c.sigIds.filter (fun id => (mfind g.dm.sigs id).isSome)
  let g := { g with dm := { g.dm with sigs := g.dm.sigs.filter (fun e => !l.contains e.1) } }
  g.reply i (if l = [] then 0x01 else 0x00) [l.length]

/-- The decoded form of signature `id`: as loaded, or as an entry still references it. -/
def Gov.sigForm (g : Gov) (id : Nat) : Option Sig :=
  match mfind g.dm.sigs id with
  | some s => some s
  | none => (g.grantsBy (fun x => x.st != 0 && x.sig == id)).head?.map (fun h => (g.grant h).dec)

/-- SIG_QUERY. (DEDUCED, log 68) -/
def opSigQuery (i : Nat) (c : Cmd) (g : Gov) : Gov :=
  let s := (g.sigForm c.arg).getD {}
  g.reply i 0x00
    [b2n (mfind g.dm.sigs c.arg).isSome + min 65535 (g.sigRefs c.arg) * 2 ^ 4 + s.railA * 2 ^ 20 + s.railB * 2 ^ 24
        + s.segA.length * 2 ^ 28 + s.segB.length * 2 ^ 31,
      segPeak s.segA + segPeak s.segB * 2 ^ 16 + s.ver * 2 ^ 32]

/-- CTX_OPEN. -/
def opCtxOpen (i : Nat) (c : Cmd) (g : Gov) : Gov :=
  let x := bits c.arg 0 12
  let cg := bits c.arg 12 8
  if (g.ctx x).st ≠ 0 ∨ g.inTeardown x cg then g.reply i 0x11 []
  else ((g.setCtx x { st := 1, cgen := cg, part := bits c.arg 20 4, cmin := bits c.arg 24 2 }).setPolicy x
    policyReset).reply i 0x00 []

/-- CTX_REVOKE. -/
def opCtxRevoke (b : Build) (i : Nat) (c : Cmd) (g : Gov) : Gov :=
  let x := g.ctx c.arg
  if x.st = 0 then g.reply i 0x14 []
  else if x.st = 2 then
    g.reply i 0x01 [(g.grantsBy (fun e => e.st == 2 && e.ctx == c.arg)).length * 2 ^ 16]
  else
    let r := ctxRevoke c.arg g
    (r.1.reply i 0x00 [r.2.1 + r.2.2 * 2 ^ 16]).after b

/-- CTX_CLOSE. -/
def opCtxClose (b : Build) (i : Nat) (c : Cmd) (g : Gov) : Gov :=
  let x := g.ctx c.arg
  if x.st = 0 then g.reply i 0x01 []
  else if g.ctxEntries c.arg ≠ 0 then g.reply i 0x11 []
  else ((g.setCtx c.arg { x with st := 0 }).reply i 0x00 []).after b

/-- CTX_QUERY. -/
def opCtxQuery (i : Nat) (c : Cmd) (g : Gov) : Gov :=
  let x := g.ctx c.arg
  g.reply i 0x00 [x.st + x.cgen * 2 ^ 2 + x.part * 2 ^ 10 + x.cmin * 2 ^ 14 + min 65535 (g.ctxEntries c.arg) * 2 ^ 16
    + g.policy c.arg * 2 ^ 32]

/-- ANN_CANCEL (R232, R397). -/
def opAnnCancel (b : Build) (i : Nat) (c : Cmd) (g : Gov) : Gov :=
  let r := bits c.arg 0 10
  let k := bits c.arg 10 5
  match g.grantsBy (fun x => x.st != 0 && x.req == r && x.slot == k) with
  | [] => g.reply i 0x01 []
  | h :: _ =>
    if (g.grant h).st = 2 then g.reply i 0x11 []
    else ((g.freeHeld h 2 true).reply i 0x00 []).after b

/-- REQ_RESET (R234, R397). -/
def opReqReset (b : Build) (i : Nat) (c : Cmd) (g : Gov) : Gov :=
  let was := g.reqOff c.arg
  let r := reqReset c.arg g
  let code := if was ∧ r.2.1 = 0 ∧ r.2.2 = 0 then 0x01 else 0x00
  (r.1.reply i code [r.2.1 + r.2.2 * 2 ^ 16]).after b

/-- REQ_ENABLE. -/
def opReqEnable (i : Nat) (c : Cmd) (g : Gov) : Gov :=
  if g.reqOff c.arg then (g.setReqOff c.arg false).reply i 0x00 [] else g.reply i 0x01 []

/-- GRANT_QUERY. -/
def opGrantQuery (i : Nat) (c : Cmd) (g : Gov) : Gov :=
  let w := (g.grant c.arg).word
  g.reply i 0x00 [w % 2 ^ 64, w / 2 ^ 64 % 2 ^ 64]

/-! ## Thermal (R399 to R402) -/

/-- TH_LOAD. -/
def opThLoad (e : OpEnv) (b : Build) (i : Nat) (c : Cmd) (g : Gov) : Gov := thLoad b (seenMem g e.mem) i (c.arg == 1) g

/-- TH_BOUND. -/
def opThBound (i : Nat) (c : Cmd) (g : Gov) : Gov :=
  let n := bits c.arg 0 9
  match mfind g.th.nodes n with
  | some x =>
    if x.cfg.fixed then (thBound n (sx 16 (bits c.arg 16 16)) g).reply i 0x00 [] else g.reply i 0x14 []
  | none => g.reply i 0x14 []

/-- TH_QUERY: bytes 96 to 127 of a node's record. -/
def opThQuery (i : Nat) (c : Cmd) (g : Gov) : Gov :=
  match mfind g.th.nodes c.arg with
  | some x => g.reply i 0x00 [x.image.1, x.image.2, 0, 0]
  | none => g.reply i 0x14 []

/-! ## Placement (R403 to R406) -/

/-- PL_STEP. -/
def opPlStep (i : Nat) (c : Cmd) (g : Gov) : Gov :=
  let r := plSubmit (c.params.getD 0 0) g
  r.1.reply i (if r.2 then 0x02 else 0x11) [r.1.plState]

/-- PL_CTX_POLICY. -/
def opPlPolicy (i : Nat) (c : Cmd) (g : Gov) : Gov :=
  if (g.ctx c.arg).st ≠ 1 then g.reply i 0x14 []
  else (g.setPolicy c.arg (c.params.getD 0 0)).reply i 0x00 [g.policy c.arg]

/-- The reserved bits of a policy entry (Table 11.5). -/
def policyMask : Nat := 0x00007FFF

/-- PL_SEQ_FIND. -/
def opSeqFind (i : Nat) (c : Cmd) (g : Gov) : Gov :=
  g.reply i 0x00 [match g.findSeq (c.params.getD 0 0) c.arg with
    | some sid =>
      let x := g.seqn sid
      sid + x.state * 2 ^ 11 + x.cgen * 2 ^ 14 + x.last % 2 ^ 32 * 2 ^ 22
    | none => 0x7FF]

/-! ## Recovery (R407, R408) -/

/-- A recovery opcode: what the ladder answers, and the replies that its step may drop. -/
def opRcv (r : Gov × Nat) (b : Build) (i : Nat) : Gov := (r.1.reply i r.2 []).after b

/-! ## Telemetry and debug (R409 to R415) -/

/-- REC_PEEK. -/
def opRecPeek (i : Nat) (c : Cmd) (g : Gov) : Gov :=
  match (if c.len = 0 then g.newestRecord else g.recordOf (c.params.getD 0 0)) with
  | some r => g.reply i 0x00 ((List.range 4).map r.word)
  | none => g.reply i 0x14 []

/-- CNT_CLEAR. -/
def opCntClear (i : Nat) (c : Cmd) (g : Gov) : Gov :=
  let r := cntClear c.arg g
  r.1.reply i 0x00 r.2

/-- TRACE_CTL: buffers whose space is gone stay disabled (R467). (DEDUCED, log 63) -/
def opTraceCtl (i : Nat) (c : Cmd) (g : Gov) : Gov :=
  let old := g.rd F.TRC_CTL_EN
  let g := g.wr F.TRC_CTL_EN (Nat.land c.arg (Nat.xor (g.rd F.TRC_CTL_GONE) 0xFF))
  let g := if c.len = 2 then
      ((g.wr F.TRC_RING_ADDR (c.params.getD 0 0)).wr F.TRC_SIZE_SIZE (c.params.getD 1 0)).ringWrite
    else g
  g.reply i 0x00 [old]

/-- A dump is armed, waits or runs. -/
def Gov.dumpBusy (g : Gov) : Bool := g.recr.dump.isSome || g.recr.armed.isSome || g.recr.seqWait.isSome

/-- DUMP of kind STATE. -/
def opDumpState (i : Nat) (c : Cmd) (g : Gov) : Gov :=
  if g.heldBanks 9 = [] then g.reply i 0x14 []
  else if g.dumpBusy then g.reply i 0x11 []
  else (g.beginState (c.params.getD 0 0) (c.params.getD 1 0) 0xF0).reply i 0x02 []

/-- DUMP of kind SEQUENCE (R414, R471). -/
def opDumpSequence (i : Nat) (c : Cmd) (g : Gov) : Gov :=
  let step := c.params.getD 3 0
  let behind := (g.pl.lastApplied + 2 ^ 32 - step) % 2 ^ 32
  if g.heldBanks 9 = [] then g.reply i 0x14 []
  else if g.dumpBusy then g.reply i 0x11 []
  else if g.flag F.PL_LAST_APPLIED ∧ behind < 2 ^ 31 then g.reply i 0x40 []
  else if 65536 < (step + 2 ^ 32 - g.rd F.PL_LAST_STEP) % 2 ^ 32 then g.reply i 0x41 []
  else
    let d : Dump := {
      kind := 1, addr := c.params.getD 0 0, len := c.params.getD 1 0, trig := 0xF0, step := step,
      skey := bits (c.params.getD 2 0) 0 32, ctx := bits (c.params.getD 2 0) 32 12 }
    (({ g with recr := { g.recr with armed := some d } }).wr F.DUMP_STAT_SEQ_ARMED 1).reply i 0x02 []

/-- DUMP. -/
def opDump (i : Nat) (c : Cmd) (g : Gov) : Gov := if c.arg = 0 then opDumpState i c g else opDumpSequence i c g

/-- DW_QUERY. -/
def opDwQuery (b : Build) (i : Nat) (c : Cmd) (g : Gov) : Gov :=
  g.reply i 0x00 [g.regWord b c.port 0x14018, g.rd F.DW_LAST_GTIME, g.rcv.lastStep + g.rcv.lastObj * 2 ^ 3, g.rcv.lastCause]

end Sys2Proof.Machine
end

