-- ==== Sys2Proof/Machine/Command.lean ====
section
/-! DEFINITION. The table of opcodes with the checks common to all (R370 to R376, Tables 14.2 to 14.10), and the
mailboxes as commands pass through them: pushing, framing, taking, timeouts (R339 to R354). -/

namespace Sys2Proof.Machine

/-! ## The opcode table -/

/-- One line of Tables 14.2 to 14.10: opcode, whether class 0 is permitted, the LEN values, whether it is accepted only
from the Ready stage, RLEN, whether it requires GOV_LOCK, whether a Firethorn trip refuses it, the ranges of ARG and of
the parameters, and what it does as command in progress `i`. -/
structure OpSpec where
  op : Nat
  zero : Bool := false
  lens : List Nat := [0]
  ready : Bool := false
  rlen : Nat := 0
  lock : Bool := false
  trip : Bool := false
  ok : Build → Nat → List Nat → Bool
  run : OpEnv → Build → Nat → Cmd → Gov → Gov

/-- ARG holds no bit beyond `mask`, and every parameter word none beyond its entry of `ps`. -/
def within (mask : Nat) (ps : List Nat) (arg : Nat) (params : List Nat) : Bool :=
  Nat.land arg mask == arg && (params.zip ps).all (fun e => Nat.land e.1 e.2 == e.1)

/-- The low `n` bits. -/
def lowBits (n : Nat) : Nat := 2 ^ n - 1

/-- The range of signatures stays within ID 4,095 (R393). -/
def sigRangeOk (arg : Nat) (ps : List Nat) : Bool :=
  let n := ps.getD 0 1
  decide (1 ≤ n ∧ n ≤ 4096 ∧ arg + n ≤ 4096)

/-- System opcodes (Table 14.2). -/
def opsSystem : List OpSpec :=
  [{ op := 0x000, zero := true, ok := fun _ a ps => within 0 [] a ps, run := fun _ _ i _ g => g.reply i 0x00 [] },
   { op := 0x001, rlen := 4, ok := fun _ a ps => within 0 [] a ps, run := fun _ b i _ g => opIdent b i g },
   { op := 0x002, rlen := 6, ok := fun _ a ps => within 0 [] a ps,
     run := fun _ b i c g => opWords [0x2000, 0x12108, 0x2050, 0xA008, 0xC008, 0xC210] b i c g },
   { op := 0x008, rlen := 1, ok := fun _ a _ => within (lowBits 20) [] a [] && regOffOk a,
     run := fun _ b i c g => opRegRead b i c g },
   { op := 0x009, lens := [1, 2], rlen := 1, ok := fun _ a _ => within (lowBits 20) [] a [] && regOffOk a,
     run := fun _ b i c g => opRegWrite b i c g },
   { op := 0x00A, rlen := 31,
     ok := fun _ a _ => within (lowBits 29) [] a []
       && decide (bits a 24 5 ≠ 0 ∧ a % 8 = 0 ∧ bits a 0 24 + 8 * bits a 24 5 ≤ 0xC00000),
     run := fun e b i c g => opStoreRead e b i c g },
   { op := 0x00B, lens := (List.range 31).map (· + 1), rlen := 1,
     ok := fun _ a ps => within (lowBits 24) [] a [] && a % 8 == 0
       && (offsets a 8 ps.length).all rawByte,
     run := fun e _ i c g => opStoreWrite e i c g },
   { op := 0x010, lock := true, ok := fun _ a ps => within 0 [] a ps, run := fun _ _ i c g => opCfgOpen i c g },
   { op := 0x011, lens := [0, 1], rlen := 2, lock := true, ok := fun _ a _ => within 0 [] a [],
     run := fun _ _ i c g => opCfgCommit i c g },
   { op := 0x012, lock := true, ok := fun _ a ps => within 0 [] a ps, run := fun _ _ i c g => opCfgAbort i c g },
   { op := 0x018, rlen := 1, ok := fun _ a _ => a == 1 || a == 2 || a == 4, run := fun _ b i c g => opLock b i c g },
   { op := 0x020, rlen := 1, trip := true, ok := fun _ a ps => within 0 [] a ps,
     run := fun _ b i c g => opBrgStart b i c g },
   { op := 0x021, rlen := 1, ok := fun _ a ps => within 0 [] a ps, run := fun _ b i c g => opBrgStop b i c g }]

/-- Budget and Hedgerow opcodes (Table 14.3). -/
def opsBudget : List OpSpec :=
  [{ op := 0x100, zero := true, ready := true, rlen := 1, ok := fun _ a _ => within 7 [] a [],
     run := fun _ b i c g => opThrottle (List.range b.dies) (bits c.arg 0 3) i g },
   { op := 0x101, zero := true, ready := true, rlen := 1,
     ok := fun b a _ => within (lowBits 11) [] a [] && bits a 0 8 != 0 && decide (bits a 0 8 < 2 ^ b.dies),
     run := fun _ b i c g => opThrottle ((List.range b.dies).filter (bit c.arg)) (bits c.arg 8 3) i g },
   { op := 0x110, rlen := 25, ok := fun _ a ps => within 0 [] a ps,
     run := fun _ b i c g => opWords ([0xA2C0] ++ offsets 0xA200 8 8 ++ offsets 0xA240 8 16) b i c g },
   { op := 0x120, ready := true, rlen := 2, ok := fun _ a ps => within 0 [] a ps,
     run := fun _ b i _ g => opEpochNow b i g },
   { op := 0x121, ready := true, ok := fun _ a _ => within 15 [] a [] && decide (1 ≤ a ∧ a ≤ 8),
     run := fun _ _ i c g => opForget i c g },
   { op := 0x122, rlen := 12, ok := fun _ a ps => within 0 [] a ps,
     run := fun _ b i c g => opReads ([0xE208, 0xE218, 0xE220] ++ offsets 0xE380 8 9) b i c g }]

/-- Rail opcodes (Table 14.4). -/
def opsRails : List OpSpec :=
  [{ op := 0x200, rlen := 5, ok := fun b a _ => within 15 [] a [] && decide (a < b.rails),
     run := fun _ b i c g => opReads [0x4500 + 8 * c.arg, 0x4580 + 8 * c.arg, 0x4A80 + 8 * c.arg, 0x4D00 + 8 * c.arg,
       0xA180 + 8 * c.arg] b i c g },
   { op := 0x201, rlen := 24, ok := fun b a _ => within 15 [] a [] && decide (a < b.rails),
     run := fun _ b i c g => opRailPhases b i c g },
   { op := 0x202, ready := true, rlen := 1, ok := fun b a _ => within 0x10F [] a [] && decide (a % 16 < b.rails),
     run := fun _ b i c g => opRailOpen b i c g },
   { op := 0x203, ready := true, rlen := 1, ok := fun b a _ => within 0x30F [] a [] && decide (a % 16 < b.rails),
     run := fun _ b i c g => opRailCset b i c g }]

/-- Demand opcodes (Table 14.5). -/
def opsDemand : List OpSpec :=
  [{ op := 0x300, lens := [0, 1], rlen := 1,
     ok := fun _ a ps => within (lowBits 12) [lowBits 13] a ps && sigRangeOk a ps,
     run := fun e b i c g => opSigLoad e b i c g },
   { op := 0x301, lens := [0, 1], rlen := 1,
     ok := fun _ a ps => within (lowBits 12) [lowBits 13] a ps && sigRangeOk a ps,
     run := fun _ _ i c g => opSigUnload i c g },
   { op := 0x302, rlen := 2, ok := fun _ a _ => within (lowBits 12) [] a [], run := fun _ _ i c g => opSigQuery i c g },
   { op := 0x310, ready := true,
     ok := fun b a _ => within (lowBits 26) [] a [] && decide (bits a 20 4 < b.partitions),
     run := fun _ _ i c g => opCtxOpen i c g },
   { op := 0x311, zero := true, ready := true, rlen := 1, ok := fun _ a _ => within (lowBits 12) [] a [],
     run := fun _ b i c g => opCtxRevoke b i c g },
   { op := 0x312, ready := true, ok := fun _ a _ => within (lowBits 12) [] a [],
     run := fun _ b i c g => opCtxClose b i c g },
   { op := 0x313, ready := true, rlen := 1, ok := fun _ a _ => within (lowBits 12) [] a [],
     run := fun _ _ i c g => opCtxQuery i c g },
   { op := 0x320, zero := true, ready := true,
     ok := fun b a _ => within (lowBits 15) [] a [] && decide (bits a 0 10 < b.requesters),
     run := fun _ b i c g => opAnnCancel b i c g },
   { op := 0x321, zero := true, ready := true, rlen := 1,
     ok := fun b a _ => within (lowBits 10) [] a [] && decide (a < b.requesters),
     run := fun _ b i c g => opReqReset b i c g },
   { op := 0x322, ready := true, ok := fun b a _ => within (lowBits 10) [] a [] && decide (a < b.requesters),
     run := fun _ _ i c g => opReqEnable i c g },
   { op := 0x330, ready := true, rlen := 2, ok := fun _ a _ => within (lowBits 15) [] a [],
     run := fun _ _ i c g => opGrantQuery i c g },
   { op := 0x331, rlen := 9, ok := fun _ a ps => within 0 [] a ps,
     run := fun _ b i c g => opWords ([0xA008] ++ offsets 0xA040 8 8) b i c g }]

/-- Thermal opcodes (Table 14.6). -/
def opsThermal : List OpSpec :=
  [{ op := 0x400, rlen := 1, ok := fun _ a _ => within 1 [] a [], run := fun e b i c g => opThLoad e b i c g },
   { op := 0x401, ok := fun _ a _ => within 0xFFFF01FF [] a [], run := fun _ _ i c g => opThBound i c g },
   { op := 0x402, rlen := 4, ok := fun _ a _ => within (lowBits 9) [] a [], run := fun _ _ i c g => opThQuery i c g },
   { op := 0x403, rlen := 9, ok := fun _ a ps => within 0 [] a ps,
     run := fun _ b i c g => opWords ([0xC008] ++ offsets 0xC040 8 8) b i c g },
   { op := 0x410, rlen := 18, ok := fun _ a _ => within 1 [] a [],
     run := fun _ b i c g => opWords ([0xC210, 0xC208] ++ offsets (0xC300 + 128 * c.arg) 8 16) b i c g }]

/-- Placement opcodes (Table 14.7). -/
def opsPlacement : List OpSpec :=
  [{ op := 0x500, lens := [1], ready := true, rlen := 1,
     ok := fun _ a ps => within 0 [lowBits 56] a ps && ps.getD 0 0 % 64 == 0, run := fun _ _ i c g => opPlStep i c g },
   { op := 0x501, lens := [1], ready := true, rlen := 1,
     ok := fun _ a ps => within (lowBits 12) [policyMask] a ps, run := fun _ _ i c g => opPlPolicy i c g },
   { op := 0x502, lens := [1], ready := true, rlen := 1,
     ok := fun _ a ps => within (lowBits 12) [lowBits 32] a ps, run := fun _ _ i c g => opSeqFind i c g },
   { op := 0x503, rlen := 12, ok := fun _ a ps => within 0 [] a ps,
     run := fun _ b i c g => opReads ([0x10010, 0x10018, 0x10028, 0x10030] ++ offsets 0x10080 8 8) b i c g }]

/-- Recovery opcodes (Table 14.8). -/
def opsRecovery : List OpSpec :=
  [{ op := 0x600, zero := true, ready := true, ok := fun _ a _ => within (lowBits 12) [] a [],
     run := fun _ b i c g => opRcv (rcvContext b c.arg g) b i },
   { op := 0x601, ready := true, ok := fun b a _ => within (lowBits 10) [] a [] && decide (a < b.requesters),
     run := fun _ b i c g => opRcv (rcvEngine b c.arg g) b i },
   { op := 0x602, ready := true, ok := fun b a _ => within 15 [] a [] && decide (a < b.partitions),
     run := fun _ b i c g => opRcv (rcvPartition b c.arg g) b i },
   { op := 0x603, ready := true, ok := fun _ a _ => a == 0x59470000,
     run := fun _ b i c g => opRcv (rcvChip b (bits c.arg 16 16) g) b i },
   { op := 0x604, ready := true, ok := fun _ a _ => a == 0x59470000,
     run := fun _ b i c g => opRcv (rcvPwrcyc b (bits c.arg 16 16) g) b i }]

/-- Telemetry and debug opcodes (Table 14.9). -/
def opsTelemetry : List OpSpec :=
  [{ op := 0x700, zero := true, lens := [0, 1, 2],
     ok := fun _ a ps => within (lowBits 17) [lowBits 32, lowBits 32] a ps,
     run := fun _ _ i c g => (recMark c.port c.mbx c.arg (c.params.getD 0 0) (c.params.getD 1 0) g).reply i 0x00 [] },
   { op := 0x701, lens := [0, 1], rlen := 4,
     ok := fun _ a ps => within 1 [lowBits 32] a ps && (a == 1 || ps.length == 1), run := fun _ _ i c g => opRecPeek i c g },
   { op := 0x702, rlen := 8, ok := fun _ a _ => decide (a < 6), run := fun _ _ i c g => opCntClear i c g },
   { op := 0x710, lens := [0, 2], rlen := 1,
     ok := fun _ a ps => within 255 [lowBits 56, lowBits 32] a ps
       && (ps.length == 0
         || decide (ps.getD 0 0 % 4096 = 0 ∧ ps.getD 1 0 % 4096 = 0 ∧ 65536 ≤ ps.getD 1 0)),
     run := fun _ _ i c g => opTraceCtl i c g },
   { op := 0x720, lens := [2, 4],
     ok := fun _ a ps => within 1 [lowBits 56, lowBits 32, lowBits 44, lowBits 32] a ps && ps.getD 0 0 % 16 == 0,
     run := fun _ _ i c g => opDump i c g },
   { op := 0x740, rlen := 1, ok := fun _ a ps => within 0 [] a ps, run := fun _ b i c g => opWords [0x14038] b i c g },
   { op := 0x741, rlen := 4, ok := fun _ a ps => within 0 [] a ps, run := fun _ b i c g => opDwQuery b i c g }]

/-- Calibration and test opcodes (Table 14.10). -/
def opsTest : List OpSpec :=
  [{ op := 0x800, ready := true, rlen := 1, trip := true,
     ok := fun b a _ => within 0x10F [] a [] && decide (a % 16 < b.rails),
     run := fun _ b i c g => calProbe b i (bits c.arg 0 4) (bit c.arg 8) g },
   { op := 0x801, rlen := 2, trip := true,
     ok := fun b a _ => within (lowBits 24) [] a [] && testObject b (bits a 0 8) (bits a 8 16),
     run := fun _ b i c g => testRun b i (bits c.arg 0 8) (bits c.arg 8 16) g }]

/-- Every opcode. -/
def opTable : List OpSpec :=
  opsSystem ++ opsBudget ++ opsRails ++ opsDemand ++ opsThermal ++ opsPlacement ++ opsRecovery ++ opsTelemetry ++ opsTest

/-- The line of an opcode. -/
def opFind (op : Nat) : Option OpSpec := opTable.find? (fun s => s.op == op)

/-! ## The common checks (R370) -/

/-- An opcode that RONLY permits (R374). -/
def ronlyOk (op : Nat) : Bool := decide (op ≤ 2 ∨ 0x700 ≤ op ∧ op < 0x800)

/-- A STATE dump has 2 parameters, a SEQUENCE dump 4 (R414, DEDUCED, log 13). -/
def dumpLenOk (op arg len : Nat) : Bool := op != 0x720 || (arg == 0 && len == 2) || (arg == 1 && len == 4) || decide (1 < arg)

/-- The first check of R370 that command `c` fails under line `s`, `hres` being the reserved bits of its header: the
code, 0 where none fails. -/
def opRefused (b : Build) (s : OpSpec) (c : Cmd) (hres : Nat) (g : Gov) : Nat :=
  if g.flag (F.MBX_CTL_RONLY c.mbx) ∧ ronlyOk c.op = false then 0x31
  else if (g.flag (F.MBX_CTL_C0ONLY c.mbx) ∧ c.cls ≠ 0) ∨ (c.cls = 0 ∧ s.zero = false) then 0x23
  else if s.lens.contains c.len = false ∨ dumpLenOk c.op c.arg c.len = false then 0x21
  else if hres ≠ 0 ∨ s.ok b c.arg c.params = false then 0x22
  else if s.lock ∧ g.rd F.GOV_LOCK_OWNER ≠ c.port then 0x30
  else if s.ready ∧ g.stage ≠ sREADY ∧ g.brg.everReady = false then 0x10
  else if s.trip ∧ (g.flag F.FT_STAT_TRIPPED ∨ g.flag F.FT_STAT_LATCHED) then 0x12
  else 0

/-- The code with which the common checks refuse a command, 0 where they pass it. In the Store stage every opcode is
answered 0x10 (DEDUCED that this comes before the first check, log 14). -/
def cmdRefused (b : Build) (c : Cmd) (hres : Nat) (g : Gov) : Nat :=
  if g.stage < sDISCOVER then 0x10
  else match opFind c.op with
    | none => 0x20
    | some s => opRefused b s c hres g

/-- Command `i` is interpreted: answered with the first check it fails, or executed. -/
def interpret (e : OpEnv) (b : Build) (i hres : Nat) (g : Gov) : Gov :=
  let c := g.cmd i
  let code := cmdRefused b c hres g
  if code ≠ 0 then g.reply i code []
  else match opFind c.op with
    | some s => g.caused c.port (s.run e b i c)
    | none => g

/-- The raw store bytes after command `c` is interpreted: STORE_READ and STORE_WRITE alone touch them. -/
def interpretMem (e : OpEnv) (b : Build) (c : Cmd) (hres : Nat) (g : Gov) : List Host.Cell :=
  if cmdRefused b c hres g ≠ 0 then e.mem
  else if c.op = 0x00B then storeWriteMem e c g
  else if c.op = 0x00A then (storeReadWords b e.bad (bits c.arg 24 5) (bits c.arg 0 24) g e.mem).2.1
  else e.mem

/-! ## Packets (R343, R348) -/

/-- Fields of a command header (Table 13.1). -/
def Pkt.op (p : Pkt) : Nat := bits p.hdr 0 12
/-- CLASS. -/
def Pkt.cls (p : Pkt) : Nat := bits p.hdr 12 2
/-- LEN. -/
def Pkt.len (p : Pkt) : Nat := bits p.hdr 14 5
/-- Bits 31:27, reserved. -/
def Pkt.hres (p : Pkt) : Nat := bits p.hdr 27 5

/-- Reply words that a command of `op` reserves: RLEN + 1 (R348); the header alone for an opcode not defined. -/
def opRoom (op : Nat) : Nat :=
  match opFind op with
  | some s => s.rlen + 1
  | none => 1

/-- A packet that the class-0 lane takes: of class 0, or of any class on a mailbox with C0ONLY (R348, R349). -/
def Gov.lane0 (g : Gov) (n : Nat) (p : Pkt) : Bool := p.cls == 0 || g.flag (F.MBX_CTL_C0ONLY n)

/-- Reply words of mailbox `n` reserved for commands in progress of its present generation. -/
def Gov.reserved (g : Gov) (n : Nat) : Nat :=
  (g.mb.cmds.map (fun (e : Nat × Cmd) =>
    if e.2.mbx = n ∧ e.2.mgen = g.rd (F.MBX_STAT_MGEN n) then e.2.rsv else 0)).foldl (· + ·) 0

/-- Commands of classes 1 to 3 in progress. -/
def Gov.busyCmds (g : Gov) : Nat := (mkeys (fun _ c => c.cls != 0) g.mb.cmds).length

/-- There is reply room for an opcode (R348). -/
def Gov.roomFor (g : Gov) (n op : Nat) : Bool := decide ((g.mbx n).rq.length + g.reserved n + opRoom op ≤ 32)

/-- The conditions of R348 for a whole packet of mailbox `n`. -/
def Gov.takeable (g : Gov) (n : Nat) (p : Pkt) : Bool :=
  g.lane0 n p || (g.roomFor n p.op && decide (g.busyCmds < 64))

/-- A packet becomes a command in progress; every command counts as an access of its port (R361). `queued` says whether
the general interpreter is still to come to it. -/
def Gov.takePkt (g : Gov) (n : Nat) (p : Pkt) (queued : Bool) : Gov :=
  let i := g.mb.nextCmd
  let c : Cmd := {
    mbx := n, port := p.port, cls := p.cls, op := p.op, tag := bits p.hdr 19 8,
    mgen := g.rd (F.MBX_STAT_MGEN n), arg := bits p.hdr 32 32, len := p.len,
    rsv := if g.lane0 n p then 0 else opRoom p.op, params := p.params, tWhole := p.whole.getD g.gtime, tTake := g.gtime,
    waited := p.waited, queued := queued, hres := p.hres }
  { g.touch p.port with mb := { g.mb with cmds := mput g.mb.cmds i c, nextCmd := i + 1 } }

/-- A packet is taken and interpreted. -/
def runPkt (e : OpEnv) (b : Build) (n : Nat) (p : Pkt) (g : Gov) : Gov :=
  interpret e b g.mb.nextCmd p.hres (g.takePkt n p false)

/-- The raw store bytes after a packet is taken and interpreted. -/
def runPktMem (e : OpEnv) (b : Build) (n : Nat) (p : Pkt) (g : Gov) : List Host.Cell :=
  let g' := g.takePkt n p false
  interpretMem e b (g'.cmd g.mb.nextCmd) p.hres g'

/-- The head of a command queue, where it is whole. -/
def Gov.head (g : Gov) (n : Nat) : Option Pkt :=
  match (g.mbx n).q with
  | p :: _ => if p.whole.isSome then some p else none
  | [] => none

/-- The head of a command queue leaves it. -/
def Gov.popHead (g : Gov) (n : Nat) : Gov := g.setMbx n { g.mbx n with q := (g.mbx n).q.tail }

/-- A packet that stands whole at a head and finds no reply room has waited for it (trace buffer 6). -/
def Gov.markWaiting (g : Gov) : Gov :=
  g.each (List.range 16) (fun g m =>
    match g.head m with
    | some p =>
      if p.waited = 0 ∧ g.takeable m p = false then
        let why := if g.roomFor m p.op then 2 else 1
        g.setMbx m { g.mbx m with q := { p with waited := why } :: (g.mbx m).q.tail }
      else g
    | none => g)

/-- The engine takes every whole head that R348 lets it take, in ascending mailbox order, until none is left: the
class-0 lane interprets its packets at once, the others wait for the general interpreter (R348 to R350). -/
def takeAll (b : Build) : Nat → Gov → Gov
  | 0, g => g
  | k + 1, g =>
    match (List.range 16).find? (fun n => match g.head n with
        | some p => g.takeable n p
        | none => false) with
    | some n =>
      match g.head n with
      | some p =>
        let g := g.popHead n
        takeAll b k (if g.lane0 n p then runPkt {} b n p g else g.takePkt n p true)
      | none => g
    | none => g

/-- The most packets that 16 command queues of 32 words can hold. -/
def takeFuel : Nat := 512

/-- The engine takes what it can. -/
def takeReady (b : Build) (g : Gov) : Gov := takeAll b takeFuel g.markWaiting

/-- The taken command that the general interpreter serves next: the lowest class first, within a class its mailboxes in
rotation from the one after the last served, within a mailbox in queue order (R349). -/
def Gov.nextTaken (g : Gov) : Option Nat :=
  [1, 2, 3].findSome? (fun c =>
    ((List.range 16).map (fun k => (mget 15 g.mb.served c + 1 + k) % 16)).findSome? (fun n =>
      (mkeys (fun _ x => x.queued && x.cls == c && x.mbx == n) g.mb.cmds).head?))

/-- Command `i` goes to the general interpreter; every other that waits has waited for it. -/
def Gov.serveCmd (g : Gov) (i : Nat) : Gov :=
  let c := g.cmd i
  let cs := mmap (fun _ (x : Cmd) => if x.queued ∧ x.waited = 0 then { x with waited := 2 } else x) g.mb.cmds
  let g := { g with mb := { g.mb with cmds := cs, served := mput g.mb.served c.cls c.mbx } }
  g.setCmd i { c with queued := false }

/-- COMMAND_TAKE: the engine takes what it can, the general interpreter serves the next command taken, and the engine
takes what that lets it take. -/
def commandTake (e : OpEnv) (b : Build) (g : Gov) : Gov :=
  if g.live then
    let g := takeReady b g
    match g.nextTaken with
    | some i => takeReady b (interpret e b i (g.cmd i).hres (g.serveCmd i))
    | none => g
  else g

/-- The raw store bytes after COMMAND_TAKE. -/
def commandTakeMem (e : OpEnv) (b : Build) (g : Gov) : List Host.Cell :=
  if g.live then
    let g := takeReady b g
    match g.nextTaken with
    | some i => interpretMem e b (g.cmd i) (g.cmd i).hres (g.serveCmd i)
    | none => e.mem
  else e.mem

/-! ## Opcodes as rows of their own -/

/-- A packet of the given content stands whole at the engine, its words accepted now. -/
def packetPkt (x : Packet) (op arg : Nat) (g : Gov) : Pkt :=
  {
    hdr := op % 2 ^ 12 + x.cls % 4 * 2 ^ 12 + x.params.length % 32 * 2 ^ 14 + x.tag % 256 * 2 ^ 19 + x.rsv % 32 * 2 ^ 27
      + arg % 2 ^ 32 * 2 ^ 32,
    port := x.port, own := g.rd (F.MBX_CTL_OWNER x.mbx), t0 := g.gtime, whole := some g.gtime, params := x.params }

/-- A packet of opcode `op` with ARG `arg` is taken and interpreted, where R348 lets it be taken (log 15). -/
def opcode (op arg : Nat) (x : Packet) (e : OpEnv) (b : Build) (g : Gov) : Gov :=
  let p := packetPkt x op arg g
  if g.live && g.takeable x.mbx p then runPkt e b x.mbx p g else g

/-- The raw store bytes after such a packet. -/
def opcodeMem (op arg : Nat) (x : Packet) (e : OpEnv) (b : Build) (g : Gov) : List Host.Cell :=
  let p := packetPkt x op arg g
  if g.live && g.takeable x.mbx p then runPktMem e b x.mbx p g else e.mem

/-! ## Pushing (R340) -/

/-- A header starts a packet, whole where it has no parameters. -/
def Gov.newPkt (g : Gov) (n port w : Nat) : Pkt :=
  { hdr := w, port := port, own := g.rd (F.MBX_CTL_OWNER n), t0 := g.gtime,
    whole := if bits w 14 5 = 0 then some g.gtime else none }

/-- One word enters a command queue: a parameter of the partial packet, or a header (R343). -/
def Gov.pushWord (g : Gov) (n port w : Nat) : Gov :=
  let m := g.mbx n
  match m.q.getLast? with
  | some p =>
    if p.whole.isNone then
      let ps := p.params ++ [w]
      g.setMbx n { m with
        q := m.q.dropLast ++ [{ p with params := ps, whole := if ps.length = p.len then some g.gtime else none }] }
    else g.setMbx n { m with q := m.q ++ [g.newPkt n port w] }
  | none => g.setMbx n { m with q := [g.newPkt n port w] }

/-- A push of words that the port may make, or its loss: all of the words or none. -/
def Gov.push (g : Gov) (n port : Nat) (ws : List Nat) : Gov :=
  if g.flag (F.MBX_CTL_EN n) = false ∨ g.mayUse n port = false then g.wr (F.MBX_STAT_PORTERR n) 1
  else if 32 < (g.mbx n).used + ws.length then g.wr (F.MBX_STAT_CQ_OVF n) 1
  else ws.foldl (fun g w => g.pushWord n port w) g

/-- A write of MBX_CMD by `port`: 64 bits, or one half. -/
def mbxCmdWrite (b : Build) (n port w mask : Nat) (g : Gov) : Gov :=
  let g := g.touch port
  let m := g.mbx n
  if mask = maskLo then g.setMbx n { m with half := mput m.half port (w % 2 ^ 32) }
  else if mask = maskHi then
    match mfind m.half port with
    | some lo => takeReady b ((g.dropHalf n port).push n port [lo + w / 2 ^ 32 * 2 ^ 32])
    | none => g.wr (F.MBX_STAT_PORTERR n) 1
  else takeReady b ((g.dropHalf n port).push n port [w])

/-- A push by `port`: 64 bits at +0, or 32 bits at +0 or +4 with the data in bits 31:0. -/
def mbxPush (b : Build) (n port w : Nat) (wide high : Bool) (g : Gov) : Gov :=
  if g.live ∧ n < 16 then
    let g := g.respond port 0 0
    if wide then mbxCmdWrite b n port w maskAll g
    else if high then mbxCmdWrite b n port (w % 2 ^ 32 * 2 ^ 32) maskHi g
    else mbxCmdWrite b n port (w % 2 ^ 32) maskLo g
  else g

/-- A write through an interface of the host register port, with the response it gives (R33, R56). The data of a 32-bit
write at +4 stand in bits 31:0 of `w`. -/
def portWrite (b : Build) (port off w : Nat) (wide : Bool) (g : Gov) : Gov :=
  if g.live then
    let o := off / 8 * 8
    let d := if wide then w else if 4 ≤ off % 8 then w % 2 ^ 32 * 2 ^ 32 else w % 2 ^ 32
    let g := g.respond port 0 0
    match mbxOf o with
    | some n =>
      if (o - 0x1000) % 64 = 0 then mbxCmdWrite b n port d (accMask off wide) g
      else takeReady b (regWrite b port o d (accMask off wide) g).1
    | none => if o < 0x40000 then (regWrite b port o d (accMask off wide) g).1 else g
  else g

/-! ## Timeouts (R352 to R354) -/

/-- The packet of mailbox `n` is not whole PKT_TO µs after its header. -/
def senderTimeout (b : Build) (n : Nat) (g : Gov) : Gov :=
  match (g.mbx n).q.getLast? with
  | some p =>
    if g.live ∧ p.whole.isNone then
      let g := g.runTo (p.t0 + 1000 * g.rd F.MBX_TO_PKT_TO)
      let g := (g.setMbx n { g.mbx n with q := (g.mbx n).q.dropLast }).wr (F.MBX_STAT_TRUNC n) 1
      let g := g.postFit n p.op p.cls (bits p.hdr 19 8) 0x24 (g.rd (F.MBX_STAT_MGEN n)) []
      takeReady b (g.evp p.port 0x7001 n (p.hdr % 2 ^ 32) 0 0)
    else g
  | none => g

/-- Replies of mailbox `n` have stayed unread for RPL_TO ms. -/
def receiverTimeout (n : Nat) (g : Gov) : Gov :=
  let m := g.mbx n
  if g.live ∧ m.rq ≠ [] ∧ g.flag (F.MBX_STAT_STALE n) = false then
    let g := g.runTo (m.popT + 1000000 * g.rd F.MBX_TO_RPL_TO)
    (g.wr (F.MBX_STAT_STALE n) 1).ev 0x7002 n m.rq.length 0 0
  else g

/-- Command `i` has been in progress for EXE_TO ms: from its take, for CFG_COMMIT from Tc (R354, R373). It is recorded
and reported to Deathwatch, which records it (cause 10). -/
def executionTimeout (i : Nat) (g : Gov) : Gov :=
  match mfind g.mb.cmds i with
  | some c =>
    let commit := c.wait == 2
    if g.live ∧ c.late = false ∧ !(commit && g.rd F.CFG_STAT_STATE != 3) then
      let t := if commit then g.rd F.CFG_TC_TC else c.tTake
      let g := g.runTo (t + 1000000 * g.rd F.MBX_TO_EXE_TO)
      let g := (g.setCmd i { c with late := true }).evp c.port 0x7003 c.mbx c.op c.tag 0
      g.dwRecord 10 c.mbx c.mbx c.op c.tag
    else g
  | none => g

end Sys2Proof.Machine
end

