-- ==== Sys2Proof/Machine/Reset.lean ====
section
/-! DEFINITION. The always-on supply, GOV_PORST_N, the Clock stage, the fuse identity and the end of store
initialisation (R31 to R33, R68, R69, R76, R81, R88, R103, R104, R476, R494). -/

namespace Sys2Proof.Machine

/-! ## What a reset keeps -/

/-- The supply of a satellite and its counts outlast a reset of the governor (R49): the time for which TCLK_OUT has stood
still is counted, and goes on from the GTIME 0 of the next start. No frame comes: a report on its way is lost. -/
def Gov.keptSats (g : Gov) : Sparse Sat :=
  mmap (fun _ (x : Sat) => { x.countStop g.gtime with
    stopAt := x.stopAt.map (fun _ => 0), latch := none, slot := none }) g.st.sats

/-- Hedgerow links keep nothing but HRL_UP, which is the link layer's (R287). -/
def Gov.keptLinks (g : Gov) : Sparse HLink :=
  (g.hr.links.filter (fun (e : Nat × HLink) => e.2.up)).map (fun (e : Nat × HLink) => (e.1, { up := true }))

/-- Banks 43 and 44 hold the configuration region (Table 17.11). -/
def cfgBank (k : Nat) : Bool := k == 43 || k == 44

/-- Nothing has left the configuration region's check word false: the image is covered, no copy of its banks is under
way, no pattern stands in them and neither is dark (R103, R362, R487, Table 18.5). -/
def Gov.regionSound (g : Gov) : Bool :=
  g.covered && !g.dark 43 && !g.dark 44
  && !(match g.store.copying with
    | some (k, _) => cfgBank k
    | none => false)
  && !(match g.test.run with
    | some t => t.id == 1 && cfgBank t.obj
    | none => false)

/-- The live image that a warm start finds with a matching check word: the one carried in where the Store stage has not
ended, else the live fields. (DEDUCED, log 69) -/
def Gov.keptImage (g : Gov) : Option (Sparse Nat) :=
  if g.regionSound = false then none
  else if g.gclk = false ∨ g.stage = sSTORE then g.kept
  else some (regsRetained g.regs)

/-- STORE_MAP at a reset: a copy that runs, or waits for a bank of the residency table, is over, so that no function uses a
retired bank after the reset (R437). (DEDUCED, log 16) -/
def Gov.mapsSettled (g : Gov) : Gov :=
  (g.store.copying.toList ++ g.store.waits).foldl (fun g e => g.mapOver e.1 e.2) g

/-- The governor as GOV_PORST_N holds it: always-on state, Firethorn and the satellites go on, all else takes its reset
values (R31, R32, R476, Table 17.3). -/
def Gov.inReset (g : Gov) : Gov :=
  let kept := g.keptImage
  let regs := regsAlwaysOn g.mapsSettled.regs
  {
    aon := true, porst := true, gclk := false, cold := false, gtime := 0, fresh := g.fresh, regs := regs, kept := kept,
    ft := { g.ft with shadow := none }, st := { sats := g.keptSats }, hr := { links := g.keptLinks },
    cfg := { shadow := if kept.isSome then g.cfg.shadow else [], chk := if kept.isSome then g.cfg.chk else none },
    io := { tap := g.io.tap } }

/-! ## Supplies and GOV_PORST_N -/

/-- The always-on supplies come up, GOV_PORST_N being asserted (R68, R493). -/
def aonUp (g : Gov) : Gov :=
  if g.aon then g
  else { fresh := g.fresh, st := { sats := g.st.sats }, hr := { links := g.keptLinks } }

/-- VDD_AON at `vdd` mV and VDDA_AON at `vdda` mV for `ns` ns: a loss where either is below its limit for 1 µs (R494). -/
def aonLoss (vdd vdda ns : Nat) (g : Gov) : Gov :=
  if g.aon ∧ (vdd < 600 ∨ vdda < 1500) ∧ 1000 ≤ ns then
    { aon := false, fresh := g.fresh, st := { sats := g.keptSats }, hr := { links := g.keptLinks } }
  else g

/-- A low pulse of `ns` ns on GOV_PORST_N resets the governor; one shorter than 5 ns may or may not (R68, log 20). -/
def Gov.pulseResets (g : Gov) (ns : Nat) : Bool := decide (5 ≤ ns) || Config.shortPulseResets g.fresh

/-- GOV_PORST_N goes low for at least `ns` ns. -/
def porstAssert (ns : Nat) (g : Gov) : Gov :=
  if g.aon ∧ g.porst = false then
    let r := g.pulseResets ns
    let g := if ns < 5 then g.nextFresh else g
    if r then g.inReset else g
  else g

/-- The raw store bytes: every bank that holds them is cleared after a reset (R103). -/
def porstMem (ns : Nat) (g : Gov) (m : List Host.Cell) : List Host.Cell :=
  if g.aon ∧ g.porst = false ∧ g.pulseResets ns then [] else m

/-- GOV_PORST_N is released with the strap HR_ROOT at `root`: the Clock stage begins (R69, R81, R357). -/
def porstDeassert (root : Bool) (g : Gov) : Gov :=
  if g.aon ∧ g.porst then
    let g := { g with porst := false, clk := { g.clk with
      xoWait := true, xoCycles := xoDelayCycles (g.rd F.XO_CTL_XO_DLY), hrRoot := root } }
    let g := g.wr F.GOV_STAT_RSTCNT (g.rd F.GOV_STAT_RSTCNT + 1)
    if root then
      let g := (((g.wr F.HR_STAT_ROOT 1).wr F.HR_STAT_JOINED 1).wr F.HR_STAT_DEPTH 0).wr F.HR_STAT_SUBN 1
      { g with hr := { g.hr with quota := 32768 } }
    else g
  else g

/-! ## The Store stage -/

/-- Sizes that follow the banks as STORE_MAP gives them after a reset (R28, R309, R451, R467, R487). -/
def Gov.storeSizes (g : Gov) : Gov :=
  let given := 32 - (g.heldBanks 0).length
  let g := ({ g with pl := { g.pl with given := given } }).wr F.PL_STAT_PLIM (0x100000 - 32768 * given)
  let g := (g.wr F.REC_HEAD_SLOTS g.slotsFor).wr F.TRC_CTL_GONE g.traceGone
  if g.heldBanks 6 = [] then g.wr F.HIST_CTL_GONE 1 else g

/-- The first lock, with the sizes of the store's functions and the budgets as admission takes them. -/
def firstLock (b : Build) (g : Gov) : Gov :=
  if g.gclk then g
  else
    let g := gpllLock g
    if g.gclk then g.storeSizes.budApply b else g

/-- Cycles from the first lock to the end of the Store stage (R104). -/
def storeTime (cold kept : Bool) : Nat := if cold ∨ kept then 163840 else 327680

/-- Is a field one of Firethorn's configuration shadow, FT_CFG and FT_DTRIM (R265)? -/
def ftShadowKey (k : Nat) : Bool :=
  let off := k / 64
  decide (off = 0xC200 ∨ 0xC400 ≤ off ∧ off < 0xC500)

/-- Store initialisation ends: the configuration is retained, or replaced by reset values under a new check word; `bad`
names the banks of its region that failed their pattern in the clearing after a failed check. Retained fields that a
port has written in the Store stage keep what was written (DEDUCED from Table 4.3, log 17). Where Firethorn's shadow
takes its reset values, PEND falls, so that Firethorn never takes them (R265; DEDUCED, log 93). (DEDUCED, log 26) -/
def storeInitDone (b : Build) (bad : List Nat) (g : Gov) : Gov :=
  if g.live ∧ g.stage = sSTORE ∧ g.recr.started then
    let ret := g.kept.isSome && !g.cold
    let g := g.runTo (storeTime g.cold ret)
    let written := regsRetained g.regs
    let image := written.foldl (fun (m : Sparse Nat) e => mput m e.1 e.2) (if ret then g.kept.getD [] else [])
    let g := { g with
      kept := none,
      regs := image.foldl (fun (m : Sparse Nat) e => mput m e.1 e.2) g.regs,
      cfg := { g.cfg with
        shadow := if ret then g.cfg.shadow else [],
        chk := if ret then g.cfg.chk else some ([], []) } }
    let g := if ret || written.any (fun e => ftShadowKey e.1) then g else g.wr F.FT_STAT_PEND 0
    let g := if ret || g.cold then g
      else (bad.filter cfgBank).foldl (retireCleared b) g
    let g := (g.wrB F.BRG_STAT_CFG_RETAINED ret).ev 0x9004 (b2n ret) (b2n g.cold) 0 0
    (g.wr F.BRG_STAT_STAGE sDISCOVER).budApply b
  else g

/-! ## The fuse identity (R76). An event of a capture before the first lock waits in the queue, with GTIME 0 (log 18) -/

/-- FUSE_ID[76:0] as a number. -/
def fuseBits : Nat := 77

/-- The identity is captured as `id1` and, 16 RCLK cycles later, as `id2`, with `par` at FUSE_PAR. The parity is judged on
the first capture with the one sample of FUSE_PAR; where the captures differ and the parity fails too, P0 of FUSE_INVALID
is 1. (DESIGN CHOICE, log 98) -/
def fuseCapture (id1 id2 : Nat) (par : Bool) (g : Gov) : Gov :=
  if g.aon ∧ g.porst = false ∧ g.brg.fuseDone = false then
    let g := { g with brg := { g.brg with fuseDone := true } }
    let a := id1 % 2 ^ fuseBits
    let agree := a == id2 % 2 ^ fuseBits
    let even := (popCount fuseBits a + b2n par) % 2 == 0
    if agree && even then
      ((((g.wr F.HOST_LOT_LOT (bits a 0 56)).wr F.HOST_POS_WAFER (bits a 56 5)).wr F.HOST_POS_X (bits a 61 8)).wr
        F.HOST_POS_Y (bits a 69 8)).wr F.HOST_POS_FSTAT 1
    else (g.wr F.HOST_POS_FSTAT 2).ev 0x9003 (if agree then 2 else 1) 0 0 0
  else g

/-- FUSE_VLD has not risen within 10 ms. -/
def fuseTimeout (g : Gov) : Gov :=
  if g.aon ∧ g.porst = false ∧ g.brg.fuseDone = false then
    let g := { g with brg := { g.brg with fuseDone := true } }
    (g.wr F.HOST_POS_FSTAT 2).ev 0x9003 3 0 0 0
  else g

end Sys2Proof.Machine
end

