-- ==== Sys2Proof/Machine/Smbus.lean ====
section
/-! DEFINITION. The SMBus target: PMBus status bits, readings, the Dvorea commands (R71 to R75). The bytes of a reply stand
in `io.smb.out`, the count of a block transfer first. -/

namespace Sys2Proof.Machine

/-! ## Answers -/

/-- The target answers with bytes, or acknowledges a write. -/
def Gov.smbOut (g : Gov) (l : List Nat) : Gov :=
  { g with io := { g.io with smb := { g.io.smb with out := l, nack := false } } }

/-- The target does not acknowledge. -/
def Gov.smbNack (g : Gov) : Gov := { g with io := { g.io with smb := { g.io.smb with out := [], nack := true } } }

/-- A bit of STATUS_CML is set; the transaction is counted (Table 16.5). -/
def Gov.cmlSet (g : Gov) (i : Nat) : Gov :=
  { g with io := { g.io with smb := { g.io.smb with cml := withBit g.io.smb.cml i } } }.count (F.ERR_CNT_COUNT 5) 1

/-- A command code that is not supported, or a PAGE that names no rail, is not acknowledged (R72). -/
def Gov.smbUnsupported (g : Gov) : Gov := (g.cmlSet 7).smbNack

/-- A transaction of the target: it acknowledges its address from the Store stage (R102), and counts as an access of
port 4. A transaction whose PEC byte is wrong is discarded (R71). (DEDUCED, log 71) -/
def smbTake (badPec : Bool) (f : Gov → Gov) (g : Gov) : Gov :=
  if g.live = false then g.smbNack
  else if badPec then ((g.touch 4).cmlSet 5).smbNack
  else f (g.touch 4)

/-- A read transaction of `n` bytes, little-endian. -/
def smbWord (n : Nat) (val : Gov → Nat) (g : Gov) : Gov := smbTake false (fun g => g.smbOut (leBytes n (val g))) g

/-- A block read: the count and the bytes. -/
def smbBlock (val : Gov → List Nat) (g : Gov) : Gov :=
  smbTake false (fun g => let l := val g; g.smbOut (l.length :: l)) g

/-! ## LINEAR11 (R73) -/

/-- The mantissa of `num / den` at exponent `e − 16`, rounded to nearest with ties away from zero. -/
def linMant (num : Int) (den e : Nat) : Int :=
  if e < 16 then rndAway (num * (2 : Int) ^ (16 - e)) den else rndAway num ((den : Int) * (2 : Int) ^ (e - 16))

/-- `num / den` in LINEAR11: the smallest exponent whose mantissa fits, mantissa in bits 10:0, exponent in 15:11. -/
def linear11 (num : Int) (den : Nat) : Nat :=
  match (List.range 32).find? (fun e => decide (-1024 ≤ linMant num den e ∧ linMant num den e ≤ 1023)) with
  | some e => ux 11 (linMant num den e) + ux 5 ((e : Int) - 16) * 2 ^ 11
  | none => 0

/-! ## Status bits. Their places are those of PMBus 1.4 (PRESUMED, log 19) -/

/-- The over- and under-voltage bits of a rail as the engines see them now (R203, R204). -/
def Gov.voutNow (g : Gov) (n : Nat) : Nat :=
  b2n (g.mode n == mFAULT && g.rd (F.RAIL_PSTAT_FCAUSE n) == 1) * 2 ^ 7 + b2n (decide (64 ≤ (g.rail n).uvCnt)) * 2 ^ 4

/-- Hiccup (bit 7) and an active current limit (bit 5) of a rail. -/
def Gov.ioutNow (g : Gov) (n : Nat) : Nat := b2n (g.mode n == mHICCUP) * 2 ^ 7 + b2n (g.rail n).limited * 2 ^ 5

/-- VIN above (bit 7) or below (bit 4) its window. -/
def Gov.inputNow (g : Gov) : Nat :=
  if g.brg.vinOutSince.isNone then 0
  else if g.rd F.BRG_CTL_VIN_MAX < g.rd F.VIN_PROT_VIN then 2 ^ 7 else 2 ^ 4

/-- Fault (bit 7) and warning (bit 6) of STATUS_TEMPERATURE (Table 9.2). -/
def Gov.tempNow (g : Gov) : Nat :=
  b2n (g.flag F.TH_STAT_ANY_CRIT || g.flag F.TH_STAT_ANY_SHUT || g.flag F.FT_STAT_TRIPPED) * 2 ^ 7
    + b2n (g.flag F.TH_STAT_ANY_WARN || g.flag F.TH_STAT_ANY_THR) * 2 ^ 6

/-- Bits are added to the latched bits of an index, where there are any. -/
def orIn (m : Sparse Nat) (k v : Nat) : Sparse Nat := if v = 0 then m else mput m k (Nat.lor (mget 0 m k) v)

/-- The bits of `new` that are not in `old`. -/
def risen (old new : Nat) : Nat := Nat.xor new (Nat.land new old)

/-- The PMBus status bits latch the conditions that have arisen since `old`; before the Store stage there are none. A
condition that goes on after CLEAR_FAULTS sets its bit again when it next arises (DEDUCED, log 82). -/
def Gov.latch (b : Build) (g old : Gov) : Gov :=
  if g.live then
    let s := g.io.smb
    { g with
      io := { g.io with
        smb := { s with
          vout := (List.range b.rails).foldl (fun m n => orIn m n (risen (old.voutNow n) (g.voutNow n))) s.vout,
          iout := (List.range b.rails).foldl (fun m n => orIn m n (risen (old.ioutNow n) (g.ioutNow n))) s.iout,
          input := Nat.lor s.input (risen old.inputNow g.inputNow),
          temp := Nat.lor s.temp (risen old.tempNow g.tempNow) } } }
  else g

/-- STATUS_WORD of the page. -/
def Gov.statusWord (g : Gov) : Nat :=
  let s := g.io.smb
  let v := mget 0 s.vout s.page
  let i := mget 0 s.iout s.page
  b2n (v != 0) * 2 ^ 15 + b2n (i != 0) * 2 ^ 14 + b2n (s.input != 0) * 2 ^ 13 + b2n (bit v 7) * 2 ^ 5
    + b2n (i != 0) * 2 ^ 4 + b2n (bit s.input 4) * 2 ^ 3 + b2n (s.temp != 0) * 2 ^ 2 + b2n (s.cml != 0) * 2

/-- SMB_ALERT_N is asserted: some status bit of Table 2.13 is set (R71); released in reset (Table 1.8). -/
def Gov.smbAlert (g : Gov) : Bool :=
  let s := g.io.smb
  g.live && (
  s.vout.any (fun e => e.2 != 0) || s.iout.any (fun e => e.2 != 0) || s.input != 0 || s.temp != 0 || s.cml != 0)

/-! ## PMBus commands (Table 2.13) -/

/-- PAGE: a read, or a write of `v`. -/
def smbPage (b : Build) (v : Option Nat) (badPec : Bool) (g : Gov) : Gov :=
  smbTake badPec (fun g =>
    match v with
    | none => g.smbOut [g.io.smb.page]
    | some n =>
      if n < b.rails ∧ n < 16 then
        ({ g with io := { g.io with smb := { g.io.smb with page := n } } }).smbOut []
      else g.smbUnsupported) g

/-- CLEAR_FAULTS. -/
def smbClear (badPec : Bool) (g : Gov) : Gov :=
  smbTake badPec (fun g =>
    ({ g with
      io := { g.io with
        smb := { g.io.smb with vout := [], iout := [], input := 0, temp := 0, cml := 0 } } }).smbOut []) g

/-- READ_VOUT: the sense voltage in 2^−12 V, rounded to nearest. -/
def Gov.readVout (g : Gov) : Nat := (rndUp (g.rd (F.RAIL_MEAS_VS g.io.smb.page) * 256) 125).toNat

/-- The codes of Tables 2.13 and 2.14. -/
def smbCodes : List Nat :=
  [0x00, 0x03, 0x19, 0x20, 0x78, 0x79, 0x7A, 0x7B, 0x7C, 0x7D, 0x7E, 0x88, 0x8B, 0x8C, 0x8D, 0x8E, 0x96, 0x98, 0x99, 0x9A,
   0x9B, 0xD0, 0xD1, 0xD2, 0xD3, 0xD4, 0xD5, 0xD6]

/-- A transaction with command code `code`, where it is not supported (R72). -/
def smbOther (code : Nat) (g : Gov) : Gov :=
  if smbCodes.contains code then g else smbTake false Gov.smbUnsupported g

/-- A read at the Alert Response Address, answered while SMB_ALERT_N is asserted: the own address in bits 7:1.
(PRESUMED, log 72) -/
def smbAlertResponse (b : Build) (g : Gov) : Gov :=
  if g.live && g.smbAlert then g.smbOut [b.smbAddr * 2] else g.smbNack

/-- SMB_CLK has been low for `us` µs: beyond 25 ms the target resets its interface (R71). -/
def smbTimeout (us : Nat) (g : Gov) : Gov := if g.live ∧ 25000 < us then g.smbOut [] else g

/-! ## Dvorea commands (Table 2.14) -/

/-- MFR_EVENT_PEEK: the newest record, zeros until REC_START is valid (Table 4.3). -/
def Gov.eventPeek (g : Gov) : List Nat :=
  match g.newestRecord with
  | some r => ((List.range 4).map (fun k => leBytes 8 (r.word k))).flatten
  | none => List.replicate 32 0

/-- MFR_MBX_PUSH of a block of 8 to 32 bytes: all its words enter, or it does not fit, sets CQ_OVF and is not acknowledged
at its last byte (R74, R340). A block of another size is bad data (DEDUCED, log 71). -/
def smbPush (b : Build) (ws : List Nat) (badPec : Bool) (g : Gov) : Gov :=
  smbTake badPec (fun g =>
    let n := g.io.smb.sel
    if ws = [] ∨ 4 < ws.length then (g.cmlSet 6).smbNack
    else if (g.mbx n).used + ws.length ≤ 32 then (takeReady b ((g.dropHalf n 4).push n 4 ws)).smbOut []
    else ((g.dropHalf n 4).wr (F.MBX_STAT_CQ_OVF n) 1).smbNack) g

/-- Up to `k` words are popped for port 4 while the queue holds any (R74, R341). -/
def popWords (n : Nat) : Nat → Gov → Gov × List Nat
  | 0, g => (g, [])
  | k + 1, g =>
    if (g.mbx n).rq = [] ∨ g.mayUse n 4 = false then (g, [])
    else
      let r := mbxPopWord n 4 g
      let q := popWords n k r.1
      (q.1, r.2 :: q.2)

/-- MFR_MBX_PULL: whole words, 4 at most. A port that OWNER excludes reads a count of 0, and PORTERR is set. -/
def smbPull (b : Build) (g : Gov) : Gov :=
  smbTake false (fun g =>
    let n := g.io.smb.sel
    let g := g.dropHalf n 4
    if g.mayUse n 4 = false then (g.wr (F.MBX_STAT_PORTERR n) 1).smbOut [0]
    else
      let r := popWords n 4 g
      (takeReady b r.1).smbOut (8 * r.2.length :: (r.2.map (leBytes 8)).flatten)) g

/-- MFR_MBX_SEL: a read, or a write of `v`; a value above 15 is bad data. -/
def smbSel (v : Option Nat) (badPec : Bool) (g : Gov) : Gov :=
  smbTake badPec (fun g =>
    match v with
    | none => g.smbOut [g.io.smb.sel]
    | some n =>
      if n < 16 then ({ g with io := { g.io with smb := { g.io.smb with sel := n } } }).smbOut []
      else (g.cmlSet 6).smbNack) g

end Sys2Proof.Machine
end

