-- ==== Sys2Proof/Machine/Tap.lean ====
section
/-! DEFINITION. The test access port: its instructions, the boundary register, and accesses of port 5 (R78, R79, R503,
R504). -/

namespace Sys2Proof.Machine

/-- The test access port replaced. -/
def Gov.setTap (g : Gov) (x : Tap) : Gov := { g with io := { g.io with tap := x } }

/-- Instruction codes (Table 18.6). -/
def tapEXTEST : Nat := 0x00
/-- IDCODE. -/
def tapIDCODE : Nat := 0x01
/-- SAMPLE/PRELOAD. -/
def tapSAMPLE : Nat := 0x02
/-- REGACC. -/
def tapREGACC : Nat := 0x20
/-- FTOBS. -/
def tapFTOBS : Nat := 0x21
/-- BYPASS. -/
def tapBYPASS : Nat := 0xFF

/-- The IDCODE value (R78). -/
def Build.idcode (b : Build) : Nat := 0x3 * 2 ^ 28 + 0x5947 * 2 ^ 12 + b.idMfr % 2 ^ 11 * 2 + 1

/-- EXTEST may drive the cells: GOV_READY is low and every PEN is low (R79). -/
def Gov.extestMay (b : Build) (g : Gov) : Bool := !g.brg.govReady && (List.range b.phases).all (fun p => !g.penOut p)

/-! ## Boundary cells (R79) -/

/-- The two bits of a PWM cell. -/
def pwmCode : Pwm → Nat
  | .hiZ => 0
  | .mid => 1
  | .low => 2
  | .high => 3

/-- What cell `i` of the boundary register captures: outputs as the governor drives them, inputs from `pins`, the levels at
the board. Cells 4p to 4p + 3 are PWM[p] (two bits), PEN[p] and PFAULT_N[p]; 384 to 397 are GOV_PORST_N, GOV_READY,
THERM_TRIP_N, SERVICE_REQ_N, TRAY_PWRCYC_N, VSEL[2:0], HR_ROOT, PWM_SYNC, GOV_CLKOUT, SMB_CLK, SMB_DAT and SMB_ALERT_N;
398 + 64d + i is TCLK_EN of tile i of die d. (DESIGN CHOICE, log 94) -/
def Gov.cell (b : Build) (g : Gov) (pins i : Nat) : Bool :=
  if i < 384 then
    match i % 4 with
    | 0 => bit (pwmCode (g.pwmOut b (i / 4))) 0
    | 1 => bit (pwmCode (g.pwmOut b (i / 4))) 1
    | 2 => g.penOut (i / 4)
    | _ => bit pins i
  else match i with
    | 384 => !g.porst
    | 385 => g.brg.govReady
    | 386 => !g.thermTrip
    | 387 => !g.serviceReq
    | 388 => !g.rcv.pwrcyc
    | 394 => g.clk.clkout.isSome && bit pins i
    | 397 => !g.smbAlert
    | _ => if i < 398 then bit pins i else (g.sat (i - 398)).en

/-- Number of cells. -/
def cellCount : Nat := 910

/-- What Capture-DR takes into the boundary register. -/
def Gov.capture (b : Build) (g : Gov) (pins : Nat) : Nat := sumTo cellCount (fun i => b2n (g.cell b pins i) * 2 ^ i)

/-- A cell that EXTEST drives: an output other than PEN[p] and TCLK_EN, whose cells are observe-only. -/
def drivenCell (i : Nat) : Bool :=
  if i < 384 then decide (i % 4 < 2)
  else [385, 386, 387, 388, 394, 395, 396, 397].contains i

/-- The level at the pin of cell `i`: the preloaded cell under EXTEST, except where Firethorn overrides a PWM output (R79,
R260). -/
def Gov.pin (b : Build) (g : Gov) (pins i : Nat) : Bool :=
  if g.io.tap.drives && drivenCell i && (decide (384 ≤ i) || g.ft.ovr == 0) then bit g.io.tap.boundary i
  else g.cell b pins i

/-! ## Instructions -/

/-- EXTEST: the preloaded cells drive the pins, or the instruction behaves as BYPASS and an event is recorded, whose PORT is
15, since no port's access caused it (DESIGN CHOICE, log 86). `pins` is what the board drives, `scan` what a scan of the data register
leaves in the cells at its Update-DR. (DEDUCED, log 73) -/
def tapExtest (b : Build) (pins : Nat) (scan : Option Nat) (g : Gov) : Gov :=
  if g.aon = false then g
  else if g.extestMay b then
    g.setTap { g.io.tap with
      instr := tapEXTEST, dr := g.capture b pins, boundary := scan.getD g.io.tap.boundary, drives := true }
  else
    let g := g.setTap { g.io.tap with instr := tapBYPASS, dr := 0, drives := false }
    if g.live then g.ev 0x900A 0 0 0 0 else g

/-- IDCODE. -/
def tapIdcode (b : Build) (g : Gov) : Gov :=
  if g.aon then g.setTap { g.io.tap with instr := tapIDCODE, dr := b.idcode, drives := false } else g

/-- SAMPLE/PRELOAD: the pins are sampled, and the boundary register is preloaded with `load`. -/
def tapSample (b : Build) (pins load : Nat) (g : Gov) : Gov :=
  if g.aon then g.setTap { g.io.tap with instr := tapSAMPLE, dr := g.capture b pins, boundary := load, drives := false }
  else g

/-- What Capture-DR of REGACC takes: data and status of the previous access (R504). -/
def Gov.regaccDr (g : Gov) : Nat := g.io.tap.data % 2 ^ 64 * 2 ^ 21 + g.io.tap.status % 4 * 2 ^ 85

/-- One 64-bit access of port 5 at window offset `off`: the response it gets. In the store window `bad` says that the
word holds an error that cannot be corrected, `collide` that port A writes it in the same cycle. -/
def tapAccess (b : Build) (wr : Bool) (off data : Nat) (bad collide : Bool) (m : List Host.Cell) (g : Gov) : Gov :=
  if g.live = false then g.respond 5 0 0
  else if 0x40000 ≤ off then
    if wr then windowWrite 5 off collide g else windowRead b 5 off 0 true bad false m g
  else if wr then portWrite b 5 off data true g else takeReady b (portRead b 5 off true g)

/-- An access to the store window in the Store stage is not complete until the stage ends (R102, R504). -/
def Gov.tapWaits (g : Gov) (off : Nat) : Bool := g.live && g.stage == sSTORE && decide (0x40000 ≤ off)

/-- REGACC: Capture-DR shows the previous access, Update-DR starts the next. -/
def tapRegacc (b : Build) (wr : Bool) (off data : Nat) (bad collide : Bool) (m : List Host.Cell) (g : Gov) : Gov :=
  if g.aon = false then g
  else
    let off := off % 2 ^ 20 / 8 * 8
    let g := g.setTap { g.io.tap with instr := tapREGACC, dr := g.regaccDr, drives := false }
    if g.tapWaits off then g.setTap { g.io.tap with data := 0, status := 2 }
    else
      let g := tapAccess b wr off data bad collide m g
      let r := mget {} g.io.hrs 5
      g.setTap { g.io.tap with data := r.data, status := r.code }

/-- The raw store bytes after a REGACC. -/
def tapRegaccMem (wr : Bool) (off data : Nat) (bad collide : Bool) (g : Gov) (m : List Host.Cell) : List Host.Cell :=
  let off := off % 2 ^ 20 / 8 * 8
  if g.aon = false then m
  else if wr then windowWriteMem 5 off data true collide g m
  else windowReadMem 5 off 0 true bad false g m

/-- FTOBS: FT_STAT and FT_ACT as Firethorn holds them (R503). -/
def tapFtobs (b : Build) (g : Gov) : Gov :=
  if g.aon then
    g.setTap { g.io.tap with instr := tapFTOBS, dr := g.rawWord b 0xC210 + g.rawWord b 0xC208 * 2 ^ 64, drives := false }
  else g

/-- BYPASS. -/
def tapBypass (g : Gov) : Gov :=
  if g.aon then g.setTap { g.io.tap with instr := tapBYPASS, dr := 0, drives := false } else g

/-- The TAP controller is reset. -/
def tapReset (g : Gov) : Gov := if g.aon then g.setTap { g.io.tap with instr := tapIDCODE, drives := false } else g

end Sys2Proof.Machine
end

