-- ==== Sys2Proof/Machine/Exec.lean ====
section
/-! DEFINITION. How a row of the opcode table acts on the machine: a change of the governor, what every engine then
settles, and the raw store bytes where the row touches them; and the writes and reads that rows of one register make. -/

namespace Sys2Proof.Machine

/-! ## A row on the machine -/

/-- `t` as the row leaves it, and the level conditions of `g` that held in the cycles that have passed (R435). -/
def Gov.passed (b : Build) (g t : Gov) : Gov :=
  if g.live ∧ t.live ∧ g.gtime < t.gtime then (g.svcLevels b).foldl (fun t i => t.svc i) t else t

/-- The governor changed by `f`, which sees the build and the raw store bytes; cycles that pass set the level bits of
SVC_CAUSE, the PMBus status bits latch what has arisen (R71), and the clock gates and port A follow (R22, R91). -/
def State.apply (s : State) (f : Build → List Host.Cell → Gov → Gov) : State :=
  { s with gov := s.gov.wake ((s.gov.passed s.build (f s.build s.mem s.gov)).latch s.build s.gov) }

/-- A class-0 grant discards the probe repetitions of the rails it draws on (R501). -/
def g0Probe (b : Build) (g : Gov) : Gov :=
  if g.dm.c0rails = [] then g
  else
    let g := g.dm.c0rails.foldl (fun g n => probeDiscard b n g) g
    { g with dm := { g.dm with c0rails := [] } }

/-- What a change may complete: announcements that waited for an entry, steps of the ladder, set switches, a bank, a probe
repetition that a class-0 grant discards, a CAL_PROBE whose rail has left. -/
def Gov.settled (b : Build) (g : Gov) : Gov := (g0Probe b (g.after b)).probeSettle b

/-- The same, where the change may complete what other engines wait for. -/
def State.settle (s : State) (f : Build → List Host.Cell → Gov → Gov) : State :=
  s.apply (fun b m g => (f b m g).settled b)

/-- The raw store bytes changed by `f`. -/
def State.withMem (s : State) (m : List Host.Cell) : State := { s with mem := m }

/-! ## The store bytes of a supply loss -/

/-- Store words do not outlast the supply, and clearing leaves zeros (R103). -/
def aonLossMem (vdd vdda ns : Nat) (g : Gov) (m : List Host.Cell) : List Host.Cell :=
  if (aonLoss vdd vdda ns g).aon then m else []

/-! ## Register rows -/

/-- A write through an interface that reaches one field of a register only. -/
def fieldWrite (b : Build) (port : Nat) (f : Fld) (v : Nat) (g : Gov) : Gov :=
  if g.live then
    (regWrite b port f.off (v % 2 ^ f.len * 2 ^ f.lo) ((2 ^ f.len - 1) * 2 ^ f.lo) (g.respond port 0 0)).1
  else g

/-- A 64-bit read of the register at `off`, or a 32-bit read of its half at +0 or +4. -/
def halfRead (b : Build) (off port : Nat) (wide high : Bool) (g : Gov) : Gov :=
  if g.live then portRead b port (if !wide && high then off + 4 else off) wide g else g

/-- The same, of instance `i` of `n`. -/
def indexedRead (b : Build) (n i off port : Nat) (wide high : Bool) (g : Gov) : Gov :=
  if i < n then halfRead b off port wide high g else g

/-- A 64-bit write of a rail's register. -/
def railWrite (b : Build) (n port off w : Nat) (g : Gov) : Gov :=
  if n < 16 then portWrite b port off w true g else g

/-- A write of one field of a rail's register. -/
def railField (b : Build) (n port : Nat) (f : Fld) (v : Nat) (g : Gov) : Gov :=
  if n < 16 then fieldWrite b port f v g else g

/-- A write of operating point `k` of rail `n`. -/
def railOptPort (b : Build) (n k port w : Nat) (g : Gov) : Gov :=
  if k < 8 then railWrite b n port (0x4100 + 64 * n + 8 * k) w g else g

/-- A write of a coefficient word or a band word (R168). -/
def coefPort (b : Build) (port off w : Nat) (g : Gov) : Gov :=
  if 0x4600 ≤ off ∧ off < 0x4800 ∨ 0x5000 ≤ off ∧ off < 0x6000 then portWrite b port (off / 8 * 8) w true g else g

/-- A write of CAL_IMON of phase `p` (R497). -/
def calPort (b : Build) (p port w : Nat) (g : Gov) : Gov :=
  if p < 96 then portWrite b port (0x18400 + 8 * p) w true g else g

/-- A write of CLKOUT_CTL; `newRuns` says whether the new source runs (R93). -/
def clkoutPort (b : Build) (port w : Nat) (newRuns : Bool) (g : Gov) : Gov :=
  if g.live then
    let g := portWrite b port 0x12018 w true g
    clkoutWrite (g.rawWord b 0x12018) newRuns g
  else g

/-- A write of FT_CFG, or of FT_DTRIM of a diode (R265). -/
def ftCfgPort (b : Build) (port : Nat) (trim : Option Nat) (w : Nat) (g : Gov) : Gov :=
  match trim with
  | none => portWrite b port 0xC200 w true g
  | some k => if k < 32 then portWrite b port (0xC400 + 8 * k) w true g else g

/-- A write of FORGET of link `k` (R285). -/
def forgetPort (b : Build) (k port : Nat) (g : Gov) : Gov :=
  if k < 9 then fieldWrite b port (F.HR_LINK_FORGET k) 1 g else g

/-- A write of MBX_CTL.RST of mailbox `n` (R355). -/
def rstPort (b : Build) (n port : Nat) (g : Gov) : Gov :=
  if n < 16 then fieldWrite b port (F.MBX_CTL_RST n) 1 g else g

/-- A read of MBX_RPL of mailbox `n`; the room it frees may let a packet be taken (R341, R348). -/
def popPort (b : Build) (n port : Nat) (wide high : Bool) (g : Gov) : Gov :=
  if g.live then takeReady b (indexedRead b 16 n (0x1008 + 64 * n) port wide high g) else g

/-- A write of HIST_CFG of histogram `h` (R462). -/
def histPort (b : Build) (h port w : Nat) (g : Gov) : Gov :=
  if h < 64 then portWrite b port (0x16200 + 8 * h) w true g else g

/-! ## Rows that join two engines -/

/-- NOREP of tile `t` has stood for 1 ms: the service cause, and Deathwatch's record of cause 9 (R144, R420). -/
def norepReport (b : Build) (t : Nat) (g : Gov) : Gov :=
  let g' := norepService b t g
  if (g'.trec t).norepTold && !(g.trec t).norepTold then g'.dwRecord 9 t 0 0 0 else g'

/-- A sample of a rail in BURST (R192). -/
def burstRow (b : Build) (n : Nat) (sample : Sample) (g : Gov) : Gov :=
  if g.mode n = mBURST then loopPass b n (some sample) g else g

/-- ARG of TEST_RUN with test ID `id`, its object as given (Table 14.11). -/
def testArg (id arg : Nat) : Nat := arg / 256 * 256 + id

end Sys2Proof.Machine
end

