-- ==== Sys2Proof/Machine/RowsBringup.lean ====
section
/-! DEFINITION. The meanings of the rows of bring-up and power-down: one definition per row of the opcode table. -/

namespace Sys2Proof.Machine

/-- After settling and 64 conversions per channel, each phase's identification voltage is stored and classified
(R105). -/
def execIdentificationDone (sums : List Nat) (s : State) : Host.Outcome State Fault Refusal :=
  .next (s.apply (fun b _ g => identify b sums g))

/-- The two means of the sense-line check are compared to decide whether a sense line is open (R107). -/
def execSenseLineCheckDone (n s1 s2 : Nat) (s : State) : Host.Outcome State Fault Refusal :=
  .next (s.apply (fun b _ g => senseCheck b n s1 s2 g))

/-- Discovery ends and the governor either makes the automatic START or enters Wait-cfg (R101). -/
def execDiscoverComplete (s : State) : Host.Outcome State Fault Refusal :=
  .next (s.apply (fun b _ g => discoverComplete b g))

/-- A VIN_SNS conversion is taken and checked against the VIN window and the UVLO threshold (R108). -/
def execVinConversion (nV : Int) (s : State) : Host.Outcome State Fault Refusal :=
  .next (s.settle (fun b _ g => vinConversion b nV g))

/-- VIN has been in window continuously for 1 ms, which permits PEN to rise (R108). -/
def execVinWindowSettled (s : State) : Host.Outcome State Fault Refusal :=
  .next (s.apply (fun _ _ g => vinSettled g))

/-- VIN has not settled within VIN_TO after START; the governor enters Off with ERR = VIN (R110). -/
def execVinToExpiry (s : State) : Host.Outcome State Fault Refusal :=
  .next (s.settle (fun _ _ g => vinToExpiry g))

/-- From Ready, VIN stays outside its window for VIN_DWELL; VIN_OUT is set and Seq-down starts without the grant drain
(R206). -/
def execVinWindowFault (s : State) : Host.Outcome State Fault Refusal :=
  .next (s.settle (fun b _ g => vinWindowFault b g))

/-- A sequence group starts at the first period boundary after the previous group is good, or at START (R112). -/
def execGroupStart (s : State) : Host.Outcome State Fault Refusal :=
  .next (s.apply (fun b _ g => groupStart b g))

/-- An independent rail's DLY after its group start elapses and its ramp begins (R112). -/
def execRailDlyExpiry (n : Nat) (s : State) : Host.Outcome State Fault Refusal :=
  .next (s.apply (fun b _ g => railDlyExpiry b n g))

/-- The 2 µs at mid level ends and switching begins at each phase's next period boundary (R115). -/
def execPenMidLevelEnd (n : Nat) (s : State) : Host.Outcome State Fault Refusal :=
  .next (s.apply (fun b _ g => penMidEnd b n g))

/-- A rail is not good within PG_TO after its ramp ends, which is a start fault (R116). -/
def execPgTimeoutExpiry (n : Nat) (s : State) : Host.Outcome State Fault Refusal :=
  .next (s.settle (fun b _ g => pgTimeout b n g))

/-- A probe repetition opens the loop and applies the duty pulse after measuring V0 and I0 (R119). -/
def execProbeRepetitionStart (n : Nat) (v0 i0 : Int) (s : State) : Host.Outcome State Fault Refusal :=
  .next (s.apply (fun b _ g => probeRepStart b n v0 i0 g))

/-- The 4 µs probe pulse ends and the loop closes bumplessly (R119). -/
def execProbePulseEnd (n : Nat) (samples : List (Int × Int)) (s : State) : Host.Outcome State Fault Refusal :=
  .next (s.settle (fun b _ g => probePulseEnd b n samples g))

/-- After eight repetitions the estimates are fitted and a coefficient set is chosen and loaded (R121). -/
def execProbeComplete (n : Nat) (s : State) : Host.Outcome State Fault Refusal :=
  .next (s.settle (fun b _ g => probeComplete b n g))

/-- Alignment has not completed within HR_WAIT, so the device proceeds to Ready unaligned (R122). -/
def execHrWaitExpiry (s : State) : Host.Outcome State Fault Refusal :=
  .next (s.apply (fun _ _ g => hrWaitExpiry g))

/-- On entering Ready, the governor writes the tile-enable command into every ring header (R123). -/
def execReadyEntry (s : State) : Host.Outcome State Fault Refusal :=
  .next (s.apply (fun b _ g => readyEntry b g))

/-- Every satellite has reported its enable, or 10 µs have passed; the hubs open, GOV_READY rises and shedding is
enabled (R123). -/
def execSatelliteEnableWaitEnd (s : State) : Host.Outcome State Fault Refusal :=
  .next (s.apply (fun b _ g => satelliteWaitEnd b g))

/-- Outstanding grants have completed, or PD_DRAIN has expired; the rest are discarded and TCLK_EN is lowered (R125).
-/
def execPdDrainExpiry (s : State) : Host.Outcome State Fault Refusal :=
  .next (s.settle (fun b _ g => pdDrainExpiry b g))

/-- A rail falls below 50 mV, or 1 ms passes after its ramp; its outputs go to mid level, PEN falls and the next group
may go down (R125). -/
def execRailOff (n : Nat) (nV : Int) (s : State) : Host.Outcome State Fault Refusal :=
  .next (s.settle (fun b _ g => railOff b n nV g))

/-- A write of START in Wait-cfg or Off validates the configuration and begins Seq-up (R109). -/
def execBrgCtlStart (port : Nat) (s : State) : Host.Outcome State Fault Refusal :=
  .next (s.apply (fun b _ g => fieldWrite b port F.BRG_CTL_START 1 g))

/-- A write of STOP begins the orderly power-down (R125). -/
def execBrgCtlStop (port : Nat) (s : State) : Host.Outcome State Fault Refusal :=
  .next (s.settle (fun b _ g => fieldWrite b port F.BRG_CTL_STOP 1 g))

end Sys2Proof.Machine
end

