-- ==== Sys2Proof/Machine/RowsClocks.lean ====
section
/-! DEFINITION. The meanings of the rows of references, clocks and synchronisation: one definition per row of the
opcode table. -/

namespace Sys2Proof.Machine

/-- A reference source completes 1,024 good cycles and becomes ready (R83). -/
def execRefSourceReady (j : Nat) (s : State) : Host.Outcome State Fault Refusal :=
  .next (s.apply (fun _ _ g => refSourceReady j g))

/-- The current reference stops being ready; the GPLL enters holdover and HOLDOVER and LOST are set (R86). -/
def execReferenceLost (s : State) : Host.Outcome State Fault Refusal :=
  .next (s.apply (fun _ _ g => referenceLost g))

/-- A write to REFSEL.SRC starts a switch or is refused (R84). -/
def execRefselWrite (port w : Nat) (s : State) : Host.Outcome State Fault Refusal :=
  .next (s.apply (fun b _ g => portWrite b port 0x12000 w true g))

/-- After the current source's falling edge, the multiplexer passes the new source from its next rising edge (R85). -/
def execRefSwitchComplete (s : State) : Host.Outcome State Fault Refusal :=
  .next (s.apply (fun _ _ g => refSwitchComplete g))

/-- Thirty-two cycles of the new source pass with no falling edge of the old one, so the switch is forced (R85). -/
def execForcedSwitch (s : State) : Host.Outcome State Fault Refusal :=
  .next (s.apply (fun _ _ g => forcedSwitch g))

/-- The preferred recovered clock has been ready for 100 ms, so AUTO switches back to it (R87). -/
def execSwitchBack (s : State) : Host.Outcome State Fault Refusal :=
  .next (s.apply (fun _ _ g => switchBack g))

/-- The GPLL locks to the source of a completed switch and holdover ends (R86). -/
def execHoldoverLock (s : State) : Host.Outcome State Fault Refusal :=
  .next (s.apply (fun _ _ g => holdoverLock g))

/-- GOV_CLKOUT completes its high phase, holds low and then starts the new setting (R93). -/
def execClkoutCtlWrite (port w : Nat) (newRuns : Bool) (s : State) : Host.Outcome State Fault Refusal :=
  .next (s.apply (fun b _ g => clkoutPort b port w newRuns g))

/-- A block's GCLK gate closes after 16 idle cycles with no access in progress (R91). -/
def execClockGateClose (k : Nat) (busy : Bool) (s : State) : Host.Outcome State Fault Refusal :=
  .next (s.apply (fun _ _ g => clockGateClose k busy g))

/-- A 32-bit read of GTIME_LO at +0 returns bits 31:0 and latches bits 63:32 for the reading port (R97). -/
def execGtimeLoRead (port : Nat) (s : State) : Host.Outcome State Fault Refusal :=
  .next (s.apply (fun b _ g => halfRead b 0x12040 port false false g))

/-- All three VSEL bits hold one value for 32 RCLK cycles, so a new operating point code is taken (R69). -/
def execVselCodeValid (code : Nat) (s : State) : Host.Outcome State Fault Refusal :=
  .next (s.apply (fun b _ g => vselValid b code g))

/-- A PWM_SYNC rising edge is measured, and the rail acquires or moves its boundary toward it (R174). -/
def execPwmSyncEdge (ns : Nat) (s : State) : Host.Outcome State Fault Refusal :=
  .next (s.apply (fun b _ g => pwmSyncEdge b ns g))

/-- No good PWM_SYNC edge arrives in time, so SYNC_LOCK clears and the period slews back to PER (R175). -/
def execSyncLost (n : Nat) (s : State) : Host.Outcome State Fault Refusal :=
  .next (s.apply (fun b _ g => syncLost b n g))

/-- A reference source that is not the current one shows a gap of more than 64 GCLK cycles or loses HR_RCK_OK, and its
REF_RDY bit clears (R83). -/
def execRefSourceUnready (j : Nat) (s : State) : Host.Outcome State Fault Refusal :=
  .next (s.apply (fun _ _ g => refSourceUnready j g))

end Sys2Proof.Machine
end

