-- ==== Sys2Proof/Machine/RowsDemand.lean ====
section
/-! DEFINITION. The meanings of the rows of announced demand, grants and the horizon: one definition per row of the
opcode table. -/

namespace Sys2Proof.Machine

/-- A requester's announcement is accepted into its hub's class queue (R51). -/
def execAnnouncementAccept (req sig ctx cgen cls slot pmode pg : Nat) (s : State) : Host.Outcome State Fault Refusal :=
  .next (s.apply (fun b _ g => announcementAccept b req sig ctx cgen cls slot pmode pg g))

/-- A lane refuses, allocates and tests an announcement, then grants or holds it (R217). -/
def execLaneDecision (d : Nat) (s : State) : Host.Outcome State Fault Refusal :=
  .next (s.settle (fun b _ g => laneDecision b d g))

/-- A held entry is re-tested after a scan or a completion, and granted if it fits (R226). -/
def execHeldRetest (d : Nat) (s : State) : Host.Outcome State Fault Refusal :=
  .next (s.settle (fun b _ g => heldRetest b d g))

/-- A held entry reaches AGE and becomes blocking (R226). -/
def execEntryBlocking (h : Nat) (s : State) : Host.Outcome State Fault Refusal :=
  .next (s.apply (fun _ _ g => entryBlocking h g))

/-- A completion is accepted at the hub, which frees the requester's slot (R52). -/
def execCompletionAccept (req h kind : Nat) (s : State) : Host.Outcome State Fault Refusal :=
  .next (s.apply (fun b _ g => completionAccept b req h kind g))

/-- The core checks a completion, frees the entry, releases PWR and queues the completion deltas (R221). -/
def execCompletionAtCore (d : Nat) (s : State) : Host.Outcome State Fault Refusal :=
  .next (s.settle (fun b _ g => completionAtCore b d g))

/-- A 250 ns slot begins; ring deltas enter the level and a horizon scan snapshot is taken (R227). -/
def execSlotBoundary (s : State) : Host.Outcome State Fault Refusal :=
  .next (s.apply (fun b _ g => slotBoundary b g))

/-- Scan results replace the previous ones 32 cycles into the slot, and validity and NF are written (R229). -/
def execHorizonScanResult (s : State) : Host.Outcome State Fault Refusal :=
  .next (s.apply (fun b _ g => scanResult b g))

/-- A delta lane writes one queued delta from the backlog into the horizon (R231). -/
def execDeltaWrite (s : State) : Host.Outcome State Fault Refusal :=
  .next (s.apply (fun _ _ g => deltaWrite g))

end Sys2Proof.Machine
end

