-- ==== Sys2Proof/Machine/RowsHedgerow.lean ====
section
/-! DEFINITION. The meanings of the rows of Hedgerow links and epochs: one definition per row of the opcode table. -/

namespace Sys2Proof.Machine

/-- At each 10 µs slot the adapter sends a HELLO, DOWN or UP frame on each up link, or skips it (R274). -/
def execHedgerowFrameSlot (skip : Nat) (s : State) : Host.Outcome State Fault Refusal :=
  .next (s.apply (fun b _ g => frameSlot b skip g))

/-- A received Hedgerow frame is checked and its content taken (R274). -/
def execFrameReceive (k w t : Nat) (s : State) : Host.Outcome State Fault Refusal :=
  .next (s.apply (fun b _ g => frameReceive b k w t g))

/-- A link becomes trained and usable, and HELLO begins on it (R122). -/
def execHrlUpRise (k : Nat) (s : State) : Host.Outcome State Fault Refusal :=
  .next (s.apply (fun _ _ g => hrlUpRise k g))

/-- A link is lost by HRL_UP falling, 32 µs of silence or a repeated RX_SEQ (R275). -/
def execLinkLost (k cause : Nat) (s : State) : Host.Outcome State Fault Refusal :=
  .next (s.apply (fun b _ g => linkLost b k cause g))

/-- The root announces a scheduled epoch LEAD µs ahead and divides HALL_CAP (R282). -/
def execEpochAnnounce (s : State) : Host.Outcome State Fault Refusal :=
  .next (s.apply (fun b _ g => epochAnnounce b g))

/-- GTIME reaches EP_TIME; the device takes BUD_NEXT and applies a lower A_self (R283). -/
def execEpochApply (s : State) : Host.Outcome State Fault Refusal :=
  .next (s.apply (fun b _ g => epochApply b g))

/-- Sixty-four ns after the epoch instant, a higher A_self is applied (R283). -/
def execRaisedCapApply (s : State) : Host.Outcome State Fault Refusal :=
  .next (s.apply (fun b _ g => raisedCapApply b g))

/-- HOLD + 50 µs after a child link is lost, its charge becomes 0 and it is OUTSIDE (R285). -/
def execHoldEnd (k : Nat) (s : State) : Host.Outcome State Fault Refusal :=
  .next (s.apply (fun _ _ g => holdEnd k g))

/-- A write of HR_EPOCH.NOW makes the root announce an epoch at the next slot (R282). -/
def execHrEpochNowBit (port : Nat) (s : State) : Host.Outcome State Fault Refusal :=
  .next (s.apply (fun b _ g => fieldWrite b port F.HR_EPOCH_NOW 1 g))

/-- A write of FORGET ends the hold on a HELD link at once (R285). -/
def execHrLinkForget (k port : Nat) (s : State) : Host.Outcome State Fault Refusal :=
  .next (s.apply (fun b _ g => forgetPort b k port g))

end Sys2Proof.Machine
end

