-- ==== Sys2Proof/Machine/RowsMailbox.lean ====
section
/-! DEFINITION. The meanings of the rows of mailboxes: one definition per row of the opcode table. -/

namespace Sys2Proof.Machine

/-- A write to MBX_CMD pushes a word or half word, or loses it (R340). -/
def execMbxPush (n port w : Nat) (wide high : Bool) (s : State) : Host.Outcome State Fault Refusal :=
  .next (s.settle (fun b _ g => mbxPush b n port w wide high g))

/-- A read of MBX_RPL returns and removes the head reply word (R341). -/
def execMbxPop (n port : Nat) (wide high : Bool) (s : State) : Host.Outcome State Fault Refusal :=
  .next (s.settle (fun b _ g => popPort b n port wide high g))

/-- The command engine takes a whole packet once it has reply room and an interpreter place (R348). -/
def execCommandTake (bad : List Nat) (lose : Option Nat) (s : State) : Host.Outcome State Fault Refusal :=
  .next ((s.settle (fun b m g => commandTake { mem := m, bad := bad, lose := lose } b g)).withMem
    (commandTakeMem { mem := s.mem, bad := bad, lose := lose } s.build s.gov))

/-- A packet is not complete within PKT_TO, so it is discarded and answered 0x24 (R352). -/
def execSenderTimeout (n : Nat) (s : State) : Host.Outcome State Fault Refusal :=
  .next (s.settle (fun b _ g => senderTimeout b n g))

/-- Replies stay unread for RPL_TO, so STALE is set (R353). -/
def execReceiverTimeout (n : Nat) (s : State) : Host.Outcome State Fault Refusal :=
  .next (s.apply (fun _ _ g => receiverTimeout n g))

/-- A command stays in progress for EXE_TO, so an event is recorded and Deathwatch is told (R354). -/
def execExecutionTimeout (num : Nat) (s : State) : Host.Outcome State Fault Refusal :=
  .next (s.apply (fun _ _ g => executionTimeout num g))

/-- A mailbox reset empties both queues and increments MGEN (R355). -/
def execMbxCtlRst (n port : Nat) (s : State) : Host.Outcome State Fault Refusal :=
  .next (s.apply (fun b _ g => rstPort b n port g))

end Sys2Proof.Machine
end

