-- ==== Sys2Proof/Machine/RowsOpcodes.lean ====
section
/-! DEFINITION. The meanings of the rows of opcodes and self-tests: one definition per row of the opcode table. -/

namespace Sys2Proof.Machine

/-- Does nothing and replies 0x00 (R377). -/
def execNop (x : Packet) (s : State) : Host.Outcome State Fault Refusal :=
  .next (s.settle (fun b m g => opcode 0x000 x.arg x { mem := m } b g))

/-- Replies with the identity layout, RSTCNT and the stage (R378). -/
def execIdent (x : Packet) (s : State) : Host.Outcome State Fault Refusal :=
  .next (s.settle (fun b m g => opcode 0x001 x.arg x { mem := m } b g))

/-- Replies with six status registers sampled in one cycle (R378). -/
def execStatus (x : Packet) (s : State) : Host.Outcome State Fault Refusal :=
  .next (s.settle (fun b m g => opcode 0x002 x.arg x { mem := m } b g))

/-- Reads one register as an access of the pushing port (R379). -/
def execRegRead (x : Packet) (s : State) : Host.Outcome State Fault Refusal :=
  .next (s.settle (fun b m g => opcode 0x008 x.arg x { mem := m } b g))

/-- Writes one register, optionally masked, and replies with the read-back value (R379). -/
def execRegWrite (x : Packet) (s : State) : Host.Outcome State Fault Refusal :=
  .next (s.settle (fun b m g => opcode 0x009 x.arg x { mem := m } b g))

/-- Reads up to 31 store words through port B (R380). -/
def execStoreRead (x : Packet) (bad : List Nat) (s : State) : Host.Outcome State Fault Refusal :=
  .next ((s.settle (fun b m g => opcode 0x00A x.arg x { mem := m, bad := bad } b g)).withMem
    (opcodeMem 0x00A x.arg x { mem := s.mem, bad := bad } s.build s.gov))

/-- Writes store words permitted to port B, retrying words that lose a collision (R380). -/
def execStoreWrite (x : Packet) (lose : Option Nat) (s : State) : Host.Outcome State Fault Refusal :=
  .next ((s.settle (fun b m g => opcode 0x00B x.arg x { mem := m, lose := lose } b g)).withMem
    (opcodeMem 0x00B x.arg x { mem := s.mem, lose := lose } s.build s.gov))

/-- Opens the stage as a CFG_STAGE.OPEN write and replies when the copy is done (R381). -/
def execCfgOpen (x : Packet) (s : State) : Host.Outcome State Fault Refusal :=
  .next (s.settle (fun b m g => opcode 0x010 x.arg x { mem := m } b g))

/-- Starts a commit and replies when it is complete or refused (R381). -/
def execCfgCommit (x : Packet) (s : State) : Host.Outcome State Fault Refusal :=
  .next (s.settle (fun b m g => opcode 0x011 x.arg x { mem := m } b g))

/-- Aborts the open stage (R381). -/
def execCfgAbort (x : Packet) (s : State) : Host.Outcome State Fault Refusal :=
  .next (s.settle (fun b m g => opcode 0x012 x.arg x { mem := m } b g))

/-- Acts as a GOV_LOCK read by the pushing port (R382). -/
def execLockTake (x : Packet) (s : State) : Host.Outcome State Fault Refusal :=
  .next (s.settle (fun b m g => opcode 0x018 1 x { mem := m } b g))

/-- Acts as the owner's RELEASE of GOV_LOCK (R382). -/
def execLockRelease (x : Packet) (s : State) : Host.Outcome State Fault Refusal :=
  .next (s.settle (fun b m g => opcode 0x018 2 x { mem := m } b g))

/-- Frees the lock as FORCE does (R382). -/
def execLockForce (x : Packet) (s : State) : Host.Outcome State Fault Refusal :=
  .next (s.settle (fun b m g => opcode 0x018 4 x { mem := m } b g))

/-- Acts as a BRG_CTL.START write and replies with BRG_STAT (R383). -/
def execBrgStart (x : Packet) (s : State) : Host.Outcome State Fault Refusal :=
  .next (s.settle (fun b m g => opcode 0x020 x.arg x { mem := m } b g))

/-- Acts as a BRG_CTL.STOP write and replies with BRG_STAT (R383). -/
def execBrgStop (x : Packet) (s : State) : Host.Outcome State Fault Refusal :=
  .next (s.settle (fun b m g => opcode 0x021 x.arg x { mem := m } b g))

/-- Sets the throttle level of every built die (R385). -/
def execThrottleAll (x : Packet) (s : State) : Host.Outcome State Fault Refusal :=
  .next (s.settle (fun b m g => opcode 0x100 x.arg x { mem := m } b g))

/-- Sets the throttle level of the dies named in the mask (R385). -/
def execThrottleDie (x : Packet) (s : State) : Host.Outcome State Fault Refusal :=
  .next (s.settle (fun b m g => opcode 0x101 x.arg x { mem := m } b g))

/-- Replies with the module, die and partition budget scopes (R386). -/
def execBudQuery (x : Packet) (s : State) : Host.Outcome State Fault Refusal :=
  .next (s.settle (fun b m g => opcode 0x110 x.arg x { mem := m } b g))

/-- Makes the root announce an epoch now and replies with its number and EP_TIME (R387). -/
def execHrEpochNow (x : Packet) (s : State) : Host.Outcome State Fault Refusal :=
  .next (s.settle (fun b m g => opcode 0x120 x.arg x { mem := m } b g))

/-- Ends the hold on a HELD child link (R387). -/
def execHrForget (x : Packet) (s : State) : Host.Outcome State Fault Refusal :=
  .next (s.settle (fun b m g => opcode 0x121 x.arg x { mem := m } b g))

/-- Replies with the Hedgerow status and the link status registers (R387). -/
def execHrQuery (x : Packet) (s : State) : Host.Outcome State Fault Refusal :=
  .next (s.settle (fun b m g => opcode 0x122 x.arg x { mem := m } b g))

/-- Replies with five status registers of a rail (R389). -/
def execRailQuery (x : Packet) (s : State) : Host.Outcome State Fault Refusal :=
  .next (s.settle (fun b m g => opcode 0x200 x.arg x { mem := m } b g))

/-- Replies with PH_STAT of each phase in the rail's block (R389). -/
def execRailPhases (x : Packet) (s : State) : Host.Outcome State Fault Refusal :=
  .next (s.settle (fun b m g => opcode 0x201 x.arg x { mem := m } b g))

/-- Opens or closes a rail's loop as a RAIL_CTL.OPEN write (R390). -/
def execRailOpen (x : Packet) (s : State) : Host.Outcome State Fault Refusal :=
  .next (s.settle (fun b m g => opcode 0x202 x.arg x { mem := m } b g))

/-- Requests a set switch and replies after the boundary at which it is made (R391). -/
def execRailCset (x : Packet) (s : State) : Host.Outcome State Fault Refusal :=
  .next (s.settle (fun b m g => opcode 0x203 x.arg x { mem := m } b g))

/-- Decodes and loads a range of signature images, each checked on its own (R393). -/
def execSigLoad (x : Packet) (s : State) : Host.Outcome State Fault Refusal :=
  .next (s.settle (fun b m g => opcode 0x300 x.arg x { mem := m } b g))

/-- Unloads a range of signatures (R394). -/
def execSigUnload (x : Packet) (s : State) : Host.Outcome State Fault Refusal :=
  .next (s.settle (fun b m g => opcode 0x301 x.arg x { mem := m } b g))

/-- Replies with a signature's load state, references and peaks (R394). -/
def execSigQuery (x : Packet) (s : State) : Host.Outcome State Fault Refusal :=
  .next (s.settle (fun b m g => opcode 0x302 x.arg x { mem := m } b g))

/-- Makes a FREE context LIVE with a CGEN, partition and CMIN (R395). -/
def execCtxOpen (x : Packet) (s : State) : Host.Outcome State Fault Refusal :=
  .next (s.settle (fun b m g => opcode 0x310 x.arg x { mem := m } b g))

/-- Puts a context into DRAIN, freeing its held entries and refusing its queued announcements (R233). -/
def execCtxRevoke (x : Packet) (s : State) : Host.Outcome State Fault Refusal :=
  .next (s.settle (fun b m g => opcode 0x311 x.arg x { mem := m } b g))

/-- Makes a context that holds no entry FREE (R396). -/
def execCtxClose (x : Packet) (s : State) : Host.Outcome State Fault Refusal :=
  .next (s.settle (fun b m g => opcode 0x312 x.arg x { mem := m } b g))

/-- Replies with a context's state, generation, partition and policy (R396). -/
def execCtxQuery (x : Packet) (s : State) : Host.Outcome State Fault Refusal :=
  .next (s.settle (fun b m g => opcode 0x313 x.arg x { mem := m } b g))

/-- Frees the HELD entry of a requester's slot and delivers a refusal (R232). -/
def execAnnCancel (x : Packet) (s : State) : Host.Outcome State Fault Refusal :=
  .next (s.settle (fun b m g => opcode 0x320 x.arg x { mem := m } b g))

/-- Disables a requester and frees all its entries (R234). -/
def execReqReset (x : Packet) (s : State) : Host.Outcome State Fault Refusal :=
  .next (s.settle (fun b m g => opcode 0x321 x.arg x { mem := m } b g))

/-- Ends a requester's disablement (R397). -/
def execReqEnable (x : Packet) (s : State) : Host.Outcome State Fault Refusal :=
  .next (s.settle (fun b m g => opcode 0x322 x.arg x { mem := m } b g))

/-- Replies with a grant table entry from the working copy (R398). -/
def execGrantQuery (x : Packet) (s : State) : Host.Outcome State Fault Refusal :=
  .next (s.settle (fun b m g => opcode 0x330 x.arg x { mem := m } b g))

/-- Replies with DMD_STAT and the demand counters (R398). -/
def execDmdQuery (x : Packet) (s : State) : Host.Outcome State Fault Refusal :=
  .next (s.settle (fun b m g => opcode 0x331 x.arg x { mem := m } b g))

/-- Decodes and checks the thermal model region and replies after the first update of the new model (R239). -/
def execThLoad (x : Packet) (s : State) : Host.Outcome State Fault Refusal :=
  .next (s.settle (fun b m g => opcode 0x400 x.arg x { mem := m } b g))

/-- Sets the boundary temperature of a FIXED node (R401). -/
def execThBound (x : Packet) (s : State) : Host.Outcome State Fault Refusal :=
  .next (s.settle (fun b m g => opcode 0x401 x.arg x { mem := m } b g))

/-- Replies with a node's computed state (R402). -/
def execThQuery (x : Packet) (s : State) : Host.Outcome State Fault Refusal :=
  .next (s.settle (fun b m g => opcode 0x402 x.arg x { mem := m } b g))

/-- Replies with TH_STAT and the die ceilings (R402). -/
def execThHot (x : Packet) (s : State) : Host.Outcome State Fault Refusal :=
  .next (s.settle (fun b m g => opcode 0x403 x.arg x { mem := m } b g))

/-- Replies with Firethorn status and half of the diode readings (R402). -/
def execFtQuery (x : Packet) (s : State) : Host.Outcome State Fault Refusal :=
  .next (s.settle (fun b m g => opcode 0x410 x.arg x { mem := m } b g))

/-- Submits a step descriptor, which starts at once or waits as pending (R293). -/
def execPlStep (x : Packet) (s : State) : Host.Outcome State Fault Refusal :=
  .next (s.settle (fun b m g => opcode 0x500 x.arg x { mem := m } b g))

/-- Writes a LIVE context's placement policy entry (R405). -/
def execPlCtxPolicy (x : Packet) (s : State) : Host.Outcome State Fault Refusal :=
  .next (s.settle (fun b m g => opcode 0x501 x.arg x { mem := m } b g))

/-- Finds a sequence slot by SKEY and context (R406). -/
def execPlSeqFind (x : Packet) (s : State) : Host.Outcome State Fault Refusal :=
  .next (s.settle (fun b m g => opcode 0x502 x.arg x { mem := m } b g))

/-- Replies with the placement status and counters (R406). -/
def execPlQuery (x : Packet) (s : State) : Host.Outcome State Fault Refusal :=
  .next (s.settle (fun b m g => opcode 0x503 x.arg x { mem := m } b g))

/-- Starts the context step of the ladder (R424). -/
def execRcvContext (x : Packet) (s : State) : Host.Outcome State Fault Refusal :=
  .next (s.settle (fun b m g => opcode 0x600 x.arg x { mem := m } b g))

/-- Starts the engine step of the ladder (R424). -/
def execRcvEngine (x : Packet) (s : State) : Host.Outcome State Fault Refusal :=
  .next (s.settle (fun b m g => opcode 0x601 x.arg x { mem := m } b g))

/-- Starts the partition step of the ladder (R424). -/
def execRcvPartition (x : Packet) (s : State) : Host.Outcome State Fault Refusal :=
  .next (s.settle (fun b m g => opcode 0x602 x.arg x { mem := m } b g))

/-- Starts the chip step of the ladder (R424). -/
def execRcvChip (x : Packet) (s : State) : Host.Outcome State Fault Refusal :=
  .next (s.settle (fun b m g => opcode 0x603 x.arg x { mem := m } b g))

/-- Asserts TRAY_PWRCYC_N as the power-cycle step (R408). -/
def execRcvPwrcyc (x : Packet) (s : State) : Host.Outcome State Fault Refusal :=
  .next (s.settle (fun b m g => opcode 0x604 x.arg x { mem := m } b g))

/-- Records a software range marker, in the event ring and the trace (R454). -/
def execRecMark (x : Packet) (s : State) : Host.Outcome State Fault Refusal :=
  .next (s.settle (fun b m g => opcode 0x700 x.arg x { mem := m } b g))

/-- Replies with an event record by sequence number, or with the newest (R411). -/
def execRecPeek (x : Packet) (s : State) : Host.Outcome State Fault Refusal :=
  .next (s.settle (fun b m g => opcode 0x701 x.arg x { mem := m } b g))

/-- Clears a counter group and replies with the values sampled in that cycle (R455). -/
def execCntClear (x : Packet) (s : State) : Host.Outcome State Fault Refusal :=
  .next (s.settle (fun b m g => opcode 0x702 x.arg x { mem := m } b g))

/-- Sets the trace buffer enables and, optionally, the drain ring (R413). -/
def execTraceCtl (x : Packet) (s : State) : Host.Outcome State Fault Refusal :=
  .next (s.settle (fun b m g => opcode 0x710 x.arg x { mem := m } b g))

/-- Starts a STATE dump into the given buffer (R469). -/
def execDumpState (x : Packet) (s : State) : Host.Outcome State Fault Refusal :=
  .next (s.settle (fun b m g => opcode 0x720 0 x { mem := m } b g))

/-- Arms a SEQUENCE dump for a named step (R471). -/
def execDumpSequence (x : Packet) (s : State) : Host.Outcome State Fault Refusal :=
  .next (s.settle (fun b m g => opcode 0x720 1 x { mem := m } b g))

/-- Replies with SVC_CAUSE (R415). -/
def execSvcQuery (x : Packet) (s : State) : Host.Outcome State Fault Refusal :=
  .next (s.settle (fun b m g => opcode 0x740 x.arg x { mem := m } b g))

/-- Replies with Deathwatch status and its last escalation (R415). -/
def execDwQuery (x : Packet) (s : State) : Host.Outcome State Fault Refusal :=
  .next (s.settle (fun b m g => opcode 0x741 x.arg x { mem := m } b g))

/-- Probes a running rail's load, at once or deferred until R501 allows (R417). -/
def execCalProbe (x : Packet) (s : State) : Host.Outcome State Fault Refusal :=
  .next (s.settle (fun b m g => opcode 0x800 x.arg x { mem := m } b g))

/-- A waiting CAL_PROBE starts at the first boundary at which its conditions hold (R501). -/
def execProbeDeferredStart (n : Nat) (s : State) : Host.Outcome State Fault Refusal :=
  .next (s.apply (fun b _ g => probeDeferredStart b n g))

/-- Pattern-tests one bank word by word, restoring each word (R500). -/
def execStoreBank (x : Packet) (s : State) : Host.Outcome State Fault Refusal :=
  .next (s.settle (fun b m g => opcode 0x801 (testArg 1 x.arg) x { mem := m } b g))

/-- Runs known-answer passes on a loop datapath in idle gaps (R499). -/
def execLoopDp (x : Packet) (s : State) : Host.Outcome State Fault Refusal :=
  .next (s.settle (fun b m g => opcode 0x801 (testArg 2 x.arg) x { mem := m } b g))

/-- Runs a known-answer node update in ticks with no model update (R499). -/
def execThermDp (x : Packet) (s : State) : Host.Outcome State Fault Refusal :=
  .next (s.settle (fun b m g => opcode 0x801 (testArg 3 x.arg) x { mem := m } b g))

/-- Sends loopback frames around a Springtail ring with the die's tiles disabled (R499). -/
def execStRing (x : Packet) (s : State) : Host.Outcome State Fault Refusal :=
  .next (s.settle (fun b m g => opcode 0x801 (testArg 4 x.arg) x { mem := m } b g))

/-- Checks every converter of a sense slice against internal references, with its rail off (R499). -/
def execSliceAdc (x : Packet) (s : State) : Host.Outcome State Fault Refusal :=
  .next (s.settle (fun b m g => opcode 0x801 (testArg 5 x.arg) x { mem := m } b g))

/-- Compares the core's copy of a Firethorn scan with FT_DSTAT (R499). -/
def execFtScan (x : Packet) (s : State) : Host.Outcome State Fault Refusal :=
  .next (s.settle (fun b m g => opcode 0x801 (testArg 6 x.arg) x { mem := m } b g))

/-- A deferred test starts when its condition first holds (R498). -/
def execTestDeferredStart (s : State) : Host.Outcome State Fault Refusal :=
  .next (s.apply (fun b _ g => testDeferredStart b g))

/-- A running self-test ends, its result is written to TEST_STAT, TEST_FAIL is recorded on failure, and the TEST_RUN
reply is posted (R418). -/
def execTestComplete (ok : Bool) (item : Nat) (s : State) : Host.Outcome State Fault Refusal :=
  .next (s.settle (fun b _ g => testComplete b ok item g))

end Sys2Proof.Machine
end

