-- ==== Sys2Proof/Machine/RowsPlacement.lean ====
section
/-! DEFINITION. The meanings of the rows of placement steps and orders: one definition per row of the opcode table. -/

namespace Sys2Proof.Machine

/-- The whole step descriptor has arrived and is checked; the step is refused or applied from a snapshot (R295). -/
def execDescriptorFetchDone (words : List Nat) (s : State) : Host.Outcome State Fault Refusal :=
  .next (s.settle (fun b _ g => descriptorFetchDone b words g))

/-- Every write of the reply has its response, so DONE is written and the pending step may start (R311). -/
def execStepReplyDone (s : State) : Host.Outcome State Fault Refusal :=
  .next (s.settle (fun _ _ g => stepReplyDone g))

/-- A placement order is sent through the placement port when its conditions and an order place allow (R315). -/
def execOrderIssue (kind pg : Nat) (s : State) : Host.Outcome State Fault Refusal :=
  .next (s.apply (fun _ _ g => orderIssue kind pg g))

/-- A placement completion arrives and moves its page's state, or is dropped or written off (R318). -/
def execOrderCompletion (id code : Nat) (s : State) : Host.Outcome State Fault Refusal :=
  .next (s.settle (fun _ _ g => orderCompletion id code g))

/-- An order is outstanding for more than ORD_TO, so TIMEOUT is set and Deathwatch is told (R319). -/
def execOrderTimeout (id : Nat) (s : State) : Host.Outcome State Fault Refusal :=
  .next (s.settle (fun b _ g => orderTimeout b id g))

/-- The walk after a lost residency entry ends, and frames are reconciled or withheld (R440). -/
def execResidencyWalkDone (s : State) : Host.Outcome State Fault Refusal :=
  .next (s.settle (fun _ _ g => residencyWalkDone g))

/-- Clearing FETCH_ERR or REPLY_ERR lets a pending step start (R404). -/
def execPlStatClear (port w : Nat) (s : State) : Host.Outcome State Fault Refusal :=
  .next (s.apply (fun b _ g => portWrite b port 0x10010 w true g))

end Sys2Proof.Machine
end

