-- ==== Sys2Proof/Machine/RowsPorts.lean ====
section
/-! DEFINITION. The meanings of the rows of register and store-window accesses: one definition per row of the opcode
table. -/

namespace Sys2Proof.Machine

/-- Sets the accessing port's store page (R478). -/
def execStorePageWrite (port w : Nat) (s : State) : Host.Outcome State Fault Refusal :=
  .next (s.apply (fun b _ g => portWrite b port 0x2060 w true g))

/-- A host write into the store window is written, discarded or answered COLLIDE (R485). -/
def execStoreWindowWrite (port off data : Nat) (wide collide : Bool) (s : State) : Host.Outcome State Fault Refusal :=
  .next ((s.apply (fun _ _ g => windowWrite port off collide g)).withMem
    (windowWriteMem port off data wide collide s.gov s.mem))

/-- A host read of the store window, possibly rotated, returns the paged store bytes (R60). -/
def execStoreWindowRead (port off rot : Nat) (wide bad0 bad1 : Bool) (s : State) : Host.Outcome State Fault Refusal :=
  .next ((s.apply (fun b m g => windowRead b port off rot wide bad0 bad1 m g)).withMem
    (windowReadMem port off rot wide bad0 bad1 s.gov s.mem))

/-- A read of RAIL_MEAS returns and clears its HOLDS and MISS counts (R455). -/
def execRailMeasRead (n port : Nat) (wide high : Bool) (s : State) : Host.Outcome State Fault Refusal :=
  .next (s.apply (fun b _ g => indexedRead b 16 n (0x4580 + 8 * n) port wide high g))

/-- A read of PH_STAT returns and clears CUTS and IMBCNT (R455). -/
def execPhStatRead (p port : Nat) (wide high : Bool) (s : State) : Host.Outcome State Fault Refusal :=
  .next (s.apply (fun b _ g => indexedRead b 96 p (0x8000 + 8 * p) port wide high g))

/-- A read of HR_LSTAT returns and clears SKIP, BAD and LOSS (R455). -/
def execHrLstatRead (k port : Nat) (wide high : Bool) (s : State) : Host.Outcome State Fault Refusal :=
  .next (s.apply (fun b _ g => indexedRead b 9 k (0xE380 + 8 * k) port wide high g))

/-- A read of PL_TD returns and clears LATE (R455). -/
def execPlTdRead (port : Nat) (wide high : Bool) (s : State) : Host.Outcome State Fault Refusal :=
  .next (s.apply (fun b _ g => halfRead b 0x10030 port wide high g))

/-- A read of STORE_ECC returns and clears CE and UE (R455). -/
def execStoreEccRead (port : Nat) (wide high : Bool) (s : State) : Host.Outcome State Fault Refusal :=
  .next (s.apply (fun b _ g => halfRead b 0x14050 port wide high g))

/-- A read of MBX_STAT returns and clears NDROP (R455). -/
def execMbxStatRead (n port : Nat) (wide high : Bool) (s : State) : Host.Outcome State Fault Refusal :=
  .next (s.apply (fun b _ g => indexedRead b 16 n (0x1010 + 64 * n) port wide high g))

/-- A read of MIR_CTL returns and clears SKIP (R455). -/
def execMirCtlRead (port : Nat) (wide high : Bool) (s : State) : Host.Outcome State Fault Refusal :=
  .next (s.apply (fun b _ g => halfRead b 0x2028 port wide high g))

/-- A write to any register without a row of its own acts according to its access code and its field's rules (R9). -/
def execRegisterWrite (port off w : Nat) (wide : Bool) (s : State) : Host.Outcome State Fault Refusal :=
  .next (s.settle (fun b _ g => portWrite b port off w wide g))

end Sys2Proof.Machine
end

