-- ==== Sys2Proof/Machine/RowsRails.lean ====
section
/-! DEFINITION. The meanings of the rows of rails, phases and their protection: one definition per row of the opcode
table. -/

namespace Sys2Proof.Machine

/-- A rail's period timer marks a boundary, where boundary-timed decisions and staged changes apply (R153). -/
def execPeriodBoundary (n : Nat) (s : State) : Host.Outcome State Fault Refusal :=
  .next (s.settle (fun b _ g => periodBoundary b n g))

/-- At an update instant the sample is run through the compensator cascade and feed-forward to give the duty (R158).
-/
def execLoopPass (n : Nat) (sample : Option Sample) (s : State) : Host.Outcome State Fault Refusal :=
  .next (s.settle (fun b _ g => loopPass b n sample g))

/-- A write of period, rate and phase block is checked, then held until START or discarded (R151). -/
def execRailCfgWrite (n port w : Nat) (s : State) : Host.Outcome State Fault Refusal :=
  .next (s.apply (fun b _ g => railWrite b n port (0x4080 + 8 * n) w g))

/-- A write of CSET requests a set switch, or is stored before Ready (R169). -/
def execRailCtlCsetWrite (n port c : Nat) (s : State) : Host.Outcome State Fault Refusal :=
  .next (s.apply (fun b _ g => railField b n port (F.RAIL_CTL_CSET n) c g))

/-- A write of OPEN opens the loop and holds the duty, or closes it with CLOSE (R173). -/
def execRailCtlOpenWrite (n port : Nat) (v : Bool) (s : State) : Host.Outcome State Fault Refusal :=
  .next (s.apply (fun b _ g => railField b n port (F.RAIL_CTL_OPEN n) (b2n v) g))

/-- A write of an operating point changes VREF at the next period, or is stored (R166). -/
def execRailOptWrite (n k port w : Nat) (s : State) : Host.Outcome State Fault Refusal :=
  .next (s.apply (fun b _ g => railOptPort b n k port w g))

/-- A write of a coefficient or band word is accepted or discarded, depending on the set in use and the mode (R168).
-/
def execRailCoefWrite (port off w : Nat) (s : State) : Host.Outcome State Fault Refusal :=
  .next (s.apply (fun b _ g => coefPort b port off w g))

/-- An IMON channel is converted after an LFSR-chosen wait, and the result is trimmed (R183). -/
def execImonConversion (n c : Nat) (nV : Int) (s : State) : Host.Outcome State Fault Refusal :=
  .next (s.settle (fun b _ g => imonConversion b n c nV g))

/-- IMB has stayed set for 1 s, so SERVICE_REQ_N is asserted (R187). -/
def execImbServiceTimeout (p : Nat) (s : State) : Host.Outcome State Fault Refusal :=
  .next (s.apply (fun _ _ g => imbTimeout p g))

/-- The IMON limit comparator trips outside blanking and cuts the phase's pulse (R185). -/
def execLimitCut (p age : Nat) (nV : Int) (s : State) : Host.Outcome State Fault Refusal :=
  .next (s.apply (fun b _ g => limitCut b p age nV g))

/-- In BURST, each sample may start a burst of BCNT periods or end one early (R192). -/
def execBurstSample (n : Nat) (sample : Sample) (s : State) : Host.Outcome State Fault Refusal :=
  .next (s.settle (fun b _ g => burstRow b n sample g))

/-- The 1 µs delays after mid level expire, and PEN falls and PWM goes to high impedance (R201). -/
def execPhaseShutdownDelay (p : Nat) (s : State) : Host.Outcome State Fault Refusal :=
  .next (s.apply (fun b _ g => phaseShutdown b p g))

/-- HICCUP_OFF elapses and the rail retries in RAMP from its measured voltage (R197). -/
def execHiccupRetry (n : Nat) (nV : Int) (s : State) : Host.Outcome State Fault Refusal :=
  .next (s.apply (fun b _ g => hiccupRetry b n nV g))

/-- After 100 ms running without a hiccup, HR returns to 0 (R197). -/
def execHrResetTimeout (n : Nat) (s : State) : Host.Outcome State Fault Refusal :=
  .next (s.apply (fun b _ g => hrReset b n g))

/-- Grace after a fall in ILIM_RAIL expires, and HC counts again (R195). -/
def execGraceEnd (n : Nat) (s : State) : Host.Outcome State Fault Refusal :=
  .next (s.apply (fun b _ g => graceEnd b n g))

/-- PFAULT_N is recognised on a phase with PEN high, and the phase is shut off and retired (R198). -/
def execPfaultRecognised (p ns : Nat) (s : State) : Host.Outcome State Fault Refusal :=
  .next (s.settle (fun b _ g => pfaultRecognised b p ns g))

/-- A slice link delivers no valid frame for 1 µs; the slice is marked failed and its rail faults (R45). -/
def execSliceLinkFail (n : Nat) (s : State) : Host.Outcome State Fault Refusal :=
  .next (s.settle (fun b _ g => sliceFail b n g))

/-- After an over-voltage, the rail falls below 50 mV or 1 ms passes, and the phases go to mid level (R203). -/
def execOvClampEnd (n : Nat) (nV : Int) (s : State) : Host.Outcome State Fault Refusal :=
  .next (s.apply (fun b _ g => ovClampEnd b n nV g))

/-- A new IMON trim applies from the next conversion, and the current window is discarded (R497). -/
def execCalImonWrite (p port w : Nat) (s : State) : Host.Outcome State Fault Refusal :=
  .next (s.settle (fun b _ g => calPort b p port w g))

/-- PFAULT_N of a phase with PEN low changes level, and the change is reported in PH_STAT.PFLT without any action
(R40). -/
def execPfaultNLevel (p : Nat) (low : Bool) (s : State) : Host.Outcome State Fault Refusal :=
  .next (s.apply (fun b _ g => pfaultLevel b p low g))

end Sys2Proof.Machine
end

