-- ==== Sys2Proof/Machine/RowsRecorder.lean ====
section
/-! DEFINITION. The meanings of the rows of the recorder, the mirror, dumps and DMA: one definition per row of the
opcode table. -/

namespace Sys2Proof.Machine

/-- Every 10 µs a status snapshot is written to host memory in three parts (R358). -/
def execMirrorSnapshot (s : State) : Host.Outcome State Fault Refusal :=
  .next (s.apply (fun b _ g => mirrorSnapshot b g))

/-- The recorder writes the next queued event into the ring and advances NEXT (R449). -/
def execEventRecordWrite (s : State) : Host.Outcome State Fault Refusal :=
  .next (s.apply (fun _ _ g => eventRecordWrite g))

/-- Every 10 µs, or when an accumulator fills, histograms are flushed to the store (R459). -/
def execHistogramFlush (s : State) : Host.Outcome State Fault Refusal :=
  .next (s.apply (fun _ _ g => histogramFlush g))

/-- At each microsecond instant the utilisation counters and per-µs histograms take their samples (R457). -/
def execMicrosecondTick (s : State) : Host.Outcome State Fault Refusal :=
  .next (s.apply (fun b _ g => microsecondTick b g))

/-- One trace entry is drained into the host ring, and PROD advances after its write response (R466). -/
def execTraceDrain (written : Bool) (s : State) : Host.Outcome State Fault Refusal :=
  .next (s.apply (fun _ _ g => traceDrain written g))

/-- Host software writes CONS, which is accepted or discarded with BADCONS (R466). -/
def execTrcConsWrite (port w : Nat) (s : State) : Host.Outcome State Fault Refusal :=
  .next (s.apply (fun b _ g => portWrite b port 0x16420 w true g))

/-- A write of TRC_RING or TRC_SIZE sets a new drain ring after the current entry (R467). -/
def execTrcRingWrite (port : Nat) (size : Bool) (w : Nat) (s : State) : Host.Outcome State Fault Refusal :=
  .next (s.apply (fun b _ g => portWrite b port (if size then 0x16410 else 0x16408) w true g))

/-- A write of CLEAR clears every histogram at the next flush (R462). -/
def execHistCtlClear (port : Nat) (s : State) : Host.Outcome State Fault Refusal :=
  .next (s.apply (fun b _ g => fieldWrite b port F.HIST_CTL_CLEAR 1 g))

/-- A write of HIST_CFG clears that histogram at the next flush (R462). -/
def execHistCfgWrite (h port w : Nat) (s : State) : Host.Outcome State Fault Refusal :=
  .next (s.apply (fun b _ g => histPort b h port w g))

/-- Every section of a dump has its write responses, so DONE is written (R468). -/
def execDumpComplete (begun : List Nat) (s : State) : Host.Outcome State Fault Refusal :=
  .next (s.apply (fun b _ g => dumpComplete b begun g))

/-- A write of HOLD releases a SEQUENCE dump's pages for moves and spills (R471). -/
def execDumpStatHoldRelease (port : Nat) (s : State) : Host.Outcome State Fault Refusal :=
  .next (s.apply (fun b _ g => fieldWrite b port F.DUMP_STAT_HOLD 1 g))

/-- After `done` good responses, an error response stops the issuing DMA function and sets its error bit (R63). -/
def execDmaErrorResponse (f : Nat) (resp : DmaResp) (s : State) : Host.Outcome State Fault Refusal :=
  .next (s.apply (fun _ _ g => dmaError f resp.id resp.done g))

/-- Clearing a DMA_STAT error bit resumes the stopped function (R63). -/
def execDmaStatClear (port w : Nat) (s : State) : Host.Outcome State Fault Refusal :=
  .next (s.apply (fun b _ g => portWrite b port 0x2018 w true g))

/-- The write responses of a snapshot's middle part arrive, the second MSEQ copy is written, and MIR_CTL.MSEQ advances
(R358). -/
def execMirrorSnapshotWritten (s : State) : Host.Outcome State Fault Refusal :=
  .next (s.apply (fun _ _ g => mirrorWritten g))

end Sys2Proof.Machine
end

