-- ==== Sys2Proof/Machine/RowsRecovery.lean ====
section
/-! DEFINITION. The meanings of the rows of Deathwatch, recovery steps and store repair: one definition per row of the
opcode table. -/

namespace Sys2Proof.Machine

/-- Deathwatch reads one grant table entry and judges whether it is overdue (R421). -/
def execDwScanRead (s : State) : Host.Outcome State Fault Refusal :=
  .next (s.settle (fun b _ g => dwScanRead b g))

/-- A context step's drain outlasts DRAIN_TO, so engine steps follow (R420). -/
def execDrainTimeout (c : Nat) (s : State) : Host.Outcome State Fault Refusal :=
  .next (s.settle (fun b _ g => drainTimeout b c g))

/-- A partition step is not complete within PART_TO, so a chip step follows (R420). -/
def execPartTimeout (q : Nat) (s : State) : Host.Outcome State Fault Refusal :=
  .next (s.settle (fun b _ g => partTimeout b q g))

/-- A chip step is not complete within CHIP_TO, so a power-cycle step follows (R420). -/
def execChipTimeout (s : State) : Host.Outcome State Fault Refusal :=
  .next (s.settle (fun b _ g => chipTimeout b g))

/-- A DMA transaction is outstanding beyond DMA_TO, so a chip step follows (R420). -/
def execDmaTimeout (f : Nat) (s : State) : Host.Outcome State Fault Refusal :=
  .next (s.settle (fun b _ g => dmaTimeout b f g))

/-- A write of 1 to a hold bit releases the hold, or remembers the release until the step completes (R425). -/
def execRcvHoldWrite (port w : Nat) (s : State) : Host.Outcome State Fault Refusal :=
  .next (s.settle (fun b _ g => portWrite b port 0x14028 w true g))

/-- Clearing BLOCKED lets Deathwatch try a blocked step again (R430). -/
def execDwStatBlockedClear (port : Nat) (s : State) : Host.Outcome State Fault Refusal :=
  .next (s.settle (fun b _ g => fieldWrite b port F.DW_STAT_BLOCKED 1 g))

/-- A corrected word is written back in its bank's next free cycle (R437). -/
def execCorrectedWriteback (off : Nat) (s : State) : Host.Outcome State Fault Refusal :=
  .next (s.settle (fun b _ g => correctedWriteback b off g))

/-- The copy of a retired bank ends, and the function uses the replacement alone (R438). -/
def execBankCopyDone (lost : List Nat) (s : State) : Host.Outcome State Fault Refusal :=
  .next ((s.settle (fun b _ g => bankCopyDone b lost g)).withMem
    (memAfterCopy s.gov lost s.mem))

end Sys2Proof.Machine
end

