-- ==== Sys2Proof/Machine/RowsReset.lean ====
section
/-! DEFINITION. The meanings of the rows of supplies, reset, the Clock and Store stages: one definition per row of the
opcode table. -/

namespace Sys2Proof.Machine

/-- The always-on supplies come up; always-on and Firethorn state take their power-up values, and Firethorn starts
running (R494). -/
def execAlwaysOnPowerUp (s : State) : Host.Outcome State Fault Refusal :=
  .next (s.apply (fun _ _ g => aonUp g))

/-- VDD_AON or VDDA_AON stays below its limit for 1 µs or longer, which resets every always-on and Firethorn state
(R494). -/
def execAlwaysOnSupplyLoss (vdd vdda ns : Nat) (s : State) : Host.Outcome State Fault Refusal :=
  .next ((s.apply (fun _ _ g => aonLoss vdd vdda ns g)).withMem
    (aonLossMem vdd vdda ns s.gov s.mem))

/-- A reset pulse takes every output to the state of Table 1.8 within 10 ns, without waiting for a clock (R32). -/
def execGovPorstNAssert (ns : Nat) (s : State) : Host.Outcome State Fault Refusal :=
  .next ((s.apply (fun _ _ g => porstAssert ns g)).withMem
    (porstMem ns s.gov s.mem))

/-- Reset is released; the governor starts the XO as RCLK, increments RSTCNT and enters the Clock stage (R81). -/
def execGovPorstNDeassert (root : Bool) (s : State) : Host.Outcome State Fault Refusal :=
  .next (s.apply (fun _ _ g => porstDeassert root g))

/-- The XO start delay selected by XO_DLY elapses and the GPLL is released (R81). -/
def execXoStartDelayEnd (s : State) : Host.Outcome State Fault Refusal :=
  .next (s.apply (fun _ _ g => xoDelayEnd g))

/-- At the first lock, GTIME reads 0, the host register port leaves reset and the Store stage begins (R88). -/
def execGpllLock (s : State) : Host.Outcome State Fault Refusal :=
  .next (s.apply (fun b _ g => firstLock b g))

/-- The fuse identity is captured twice, 16 RCLK cycles apart, after FUSE_VLD rises, and is checked for agreement and
parity (R76). -/
def execFuseCapture (id1 id2 : Nat) (par : Bool) (s : State) : Host.Outcome State Fault Refusal :=
  .next (s.apply (fun _ _ g => fuseCapture id1 id2 par g))

/-- FUSE_VLD has not risen within 10 ms; the identity is marked invalid and FUSE_INVALID is recorded (R76). -/
def execFuseVldTimeout (s : State) : Host.Outcome State Fault Refusal :=
  .next (s.apply (fun _ _ g => fuseTimeout g))

/-- When clearing ends, record 0 (REC_START) is written to slot 0 with its parameters sampled in that cycle (R453). -/
def execRecStartWrite (bad : List Nat) (s : State) : Host.Outcome State Fault Refusal :=
  .next (s.apply (fun b _ g => recStartWrite b bad g))

/-- Clearing and the configuration check end; the configuration is retained or replaced by reset values with a new
check word, and the Discover stage begins (R103). -/
def execStoreInitDone (bad : List Nat) (s : State) : Host.Outcome State Fault Refusal :=
  .next (s.apply (fun b _ g => storeInitDone b bad g))

end Sys2Proof.Machine
end

