-- ==== Sys2Proof/Machine/RowsSmbus.lean ====
section
/-! DEFINITION. The meanings of the rows of the SMBus target: one definition per row of the opcode table. -/

namespace Sys2Proof.Machine

/-- Reads or selects the PMBus rail page (R72). -/
def execPage (v : Option Nat) (badPec : Bool) (s : State) : Host.Outcome State Fault Refusal :=
  .next (s.apply (fun b _ g => smbPage b v badPec g))

/-- Clears the PMBus status bits of every page (R72). -/
def execClearFaults (badPec : Bool) (s : State) : Host.Outcome State Fault Refusal :=
  .next (s.apply (fun _ _ g => smbClear badPec g))

/-- Returns 0xD0 (R72). -/
def execCapability (s : State) : Host.Outcome State Fault Refusal :=
  .next (s.apply (fun _ _ g => smbWord 1 (fun _ => 0xD0) g))

/-- Returns 0x14 (R72). -/
def execVoutMode (s : State) : Host.Outcome State Fault Refusal :=
  .next (s.apply (fun _ _ g => smbWord 1 (fun _ => 0x14) g))

/-- Returns the low byte of STATUS_WORD (R72). -/
def execStatusByte (s : State) : Host.Outcome State Fault Refusal :=
  .next (s.apply (fun _ _ g => smbWord 1 (fun g => g.statusWord % 256) g))

/-- Returns the status summary of the page (R72). -/
def execStatusWord (s : State) : Host.Outcome State Fault Refusal :=
  .next (s.apply (fun _ _ g => smbWord 2 (fun g => g.statusWord) g))

/-- Returns the rail's output voltage status (R72). -/
def execStatusVout (s : State) : Host.Outcome State Fault Refusal :=
  .next (s.apply (fun _ _ g => smbWord 1 (fun g => mget 0 g.io.smb.vout g.io.smb.page) g))

/-- Returns the current limit and hiccup status (R72). -/
def execStatusIout (s : State) : Host.Outcome State Fault Refusal :=
  .next (s.apply (fun _ _ g => smbWord 1 (fun g => mget 0 g.io.smb.iout g.io.smb.page) g))

/-- Returns the VIN window status (R72). -/
def execStatusInput (s : State) : Host.Outcome State Fault Refusal :=
  .next (s.apply (fun _ _ g => smbWord 1 (fun g => g.io.smb.input) g))

/-- Returns the thermal warning and fault status (R72). -/
def execStatusTemperature (s : State) : Host.Outcome State Fault Refusal :=
  .next (s.apply (fun _ _ g => smbWord 1 (fun g => g.io.smb.temp) g))

/-- Returns the communication fault status (R72). -/
def execStatusCml (s : State) : Host.Outcome State Fault Refusal :=
  .next (s.apply (fun _ _ g => smbWord 1 (fun g => g.io.smb.cml) g))

/-- Returns VIN in LINEAR11 (R72). -/
def execReadVin (s : State) : Host.Outcome State Fault Refusal :=
  .next (s.apply (fun _ _ g => smbWord 2 (fun g => linear11 (g.rd F.VIN_PROT_VIN * 8 : Nat) 1000) g))

/-- Returns the rail's sense voltage (R72). -/
def execReadVout (s : State) : Host.Outcome State Fault Refusal :=
  .next (s.apply (fun _ _ g => smbWord 2 (fun g => g.readVout) g))

/-- Returns the summed rail current in LINEAR11 (R72). -/
def execReadIout (s : State) : Host.Outcome State Fault Refusal :=
  .next (s.apply (fun _ _ g => smbWord 2 (fun g => linear11 (g.rd (F.RAIL_MEAS_ISUM g.io.smb.page) : Nat) 16) g))

/-- Returns the hottest model node temperature (R72). -/
def execReadTemperature1 (s : State) : Host.Outcome State Fault Refusal :=
  .next (s.apply (fun _ _ g => smbWord 2 (fun g => linear11 (sx 16 (g.rd F.TH_STAT_HOT_T)) 128) g))

/-- Returns the hottest diode reading (R72). -/
def execReadTemperature2 (s : State) : Host.Outcome State Fault Refusal :=
  .next (s.apply (fun _ _ g => smbWord 2 (fun g => linear11 (sx 16 (g.rd F.TH_STAT_HOT_D)) 128) g))

/-- Returns the rail's output power (R72). -/
def execReadPout (s : State) : Host.Outcome State Fault Refusal :=
  .next (s.apply (fun _ _ g => smbWord 2 (fun g => linear11 (g.rd (F.RAIL_MEAS_POUT g.io.smb.page) : Nat) 8) g))

/-- Returns 0x44 (R72). -/
def execPmbusRevision (s : State) : Host.Outcome State Fault Refusal :=
  .next (s.apply (fun _ _ g => smbWord 1 (fun _ => 0x44) g))

/-- Returns "DVOREA" (R72). -/
def execMfrId (s : State) : Host.Outcome State Fault Refusal :=
  .next (s.apply (fun _ _ g => smbBlock (fun _ => [0x44, 0x56, 0x4F, 0x52, 0x45, 0x41]) g))

/-- Returns "YG4" (R72). -/
def execMfrModel (s : State) : Host.Outcome State Fault Refusal :=
  .next (s.apply (fun _ _ g => smbBlock (fun _ => [0x59, 0x47, 0x34]) g))

/-- Returns "3.2" (R72). -/
def execMfrRevision (s : State) : Host.Outcome State Fault Refusal :=
  .next (s.apply (fun _ _ g => smbBlock (fun _ => [0x33, 0x2E, 0x32]) g))

/-- Returns the global status register (R74). -/
def execMfrGovStatus (s : State) : Host.Outcome State Fault Refusal :=
  .next (s.apply (fun b _ g => smbBlock (fun g => leBytes 8 (g.regWord b 4 0x2000)) g))

/-- Returns the causes of SERVICE_REQ_N (R74). -/
def execMfrServiceCause (s : State) : Host.Outcome State Fault Refusal :=
  .next (s.apply (fun b _ g => smbBlock (fun g => leBytes 8 (g.regWord b 4 0x14038)) g))

/-- Returns the 26-byte identity layout (R75). -/
def execMfrIdent (s : State) : Host.Outcome State Fault Refusal :=
  .next (s.apply (fun b _ g => smbBlock (fun g => g.identBytes b) g))

/-- Returns the newest valid event record (R74). -/
def execMfrEventPeek (s : State) : Host.Outcome State Fault Refusal :=
  .next (s.apply (fun _ _ g => smbBlock (fun g => g.eventPeek) g))

/-- Pushes whole words into the selected mailbox's command queue, if the whole block fits (R74). -/
def execMfrMbxPush (ws : List Nat) (badPec : Bool) (s : State) : Host.Outcome State Fault Refusal :=
  .next (s.settle (fun b _ g => smbPush b ws badPec g))

/-- Pops whole words from the selected mailbox's reply queue (R74). -/
def execMfrMbxPull (s : State) : Host.Outcome State Fault Refusal :=
  .next (s.settle (fun b _ g => smbPull b g))

/-- Reads or selects the SMBus mailbox (R74). -/
def execMfrMbxSel (v : Option Nat) (badPec : Bool) (s : State) : Host.Outcome State Fault Refusal :=
  .next (s.apply (fun _ _ g => smbSel v badPec g))

/-- An unsupported command code is not acknowledged and sets the CML bit (R72). -/
def execSmbusUnsupportedCommand (code : Nat) (s : State) : Host.Outcome State Fault Refusal :=
  .next (s.apply (fun _ _ g => smbOther code g))

/-- A read at the Alert Response Address returns the governor's own address (R71). -/
def execAlertResponse (s : State) : Host.Outcome State Fault Refusal :=
  .next (s.apply (fun b _ g => smbAlertResponse b g))

/-- SMB_CLK is held low beyond 25 ms, so the target resets its interface (R71). -/
def execSmbusClockTimeout (us : Nat) (s : State) : Host.Outcome State Fault Refusal :=
  .next (s.apply (fun _ _ g => smbTimeout us g))

end Sys2Proof.Machine
end

