-- ==== Sys2Proof/Machine/RowsSpringtail.lean ====
section
/-! DEFINITION. The meanings of the rows of satellites and Springtail rings: one definition per row of the opcode
table. -/

namespace Sys2Proof.Machine

/-- A satellite's supply comes up and its counts start from 0 (R49). -/
def execSatelliteSupplyUp (t : Nat) (s : State) : Host.Outcome State Fault Refusal :=
  .next (s.apply (fun b _ g => satSupplyUp b t g))

/-- ST_VSNS crosses an effective threshold or release level, and the satellite's droop level changes (R132). -/
def execDroopLevelChange (t : Nat) (nV : Int) (s : State) : Host.Outcome State Fault Refusal :=
  .next (s.apply (fun b _ g => droopLevelChange b t nV g))

/-- A TCLK_OUT edge is stretched by the greater of the droop stretch and the throttle floor, and the counts advance
(R133). -/
def execTileClockEdge (t : Nat) (s : State) : Host.Outcome State Fault Refusal :=
  .next (s.apply (fun b _ g => tileClockEdge b t g))

/-- The core sends a 128-byte frame with its header on every Springtail ring (R139). -/
def execRingFrameSend (s : State) : Host.Outcome State Fault Refusal :=
  .next (s.apply (fun b _ g => g.each (List.range b.dies) (fun g d => ringFrameSend b d g)))

/-- A satellite receives a whole header, applies it or discards it on CRC, and forwards the frame (R140). -/
def execHeaderReceive (t err : Nat) (s : State) : Host.Outcome State Fault Refusal :=
  .next (s.apply (fun b _ g => headerReceive b t err g))

/-- No valid header arrives for the ring-loss time, so the satellite lowers TCLK_EN (R138). -/
def execRingLoss (t : Nat) (s : State) : Host.Outcome State Fault Refusal :=
  .next (s.apply (fun b _ g => ringLoss b t g))

/-- The core checks a satellite report, extends the tile counts and stamps the capture time (R142). -/
def execReportReceived (t hops err : Nat) (present : Bool) (s : State) : Host.Outcome State Fault Refusal :=
  .next (s.apply (fun b _ g => reportReceived b t hops err present g))

/-- A frame returning around the ring is checked for arrival, CRC and FNUM (R145). -/
def execFrameReturnCheck (d : Nat) (arrived crcOk : Bool) (fnum : Nat) (s : State) : Host.Outcome State Fault Refusal :=
  .next (s.apply (fun b _ g => frameReturnCheck b d arrived crcOk fnum g))

/-- A built tile gives no valid report in 8 rotations, so NOREP is set (R144). -/
def execNorepSet (t : Nat) (s : State) : Host.Outcome State Fault Refusal :=
  .next (s.apply (fun b _ g => norepSet b t g))

/-- NOREP has stayed set for 1 ms, so SERVICE_REQ_N is asserted and Deathwatch is told (R144). -/
def execNorepService (t : Nat) (s : State) : Host.Outcome State Fault Refusal :=
  .next (s.apply (fun b _ g => norepReport b t g))

/-- TCLK_OUT gives no edge for 16 ns, so TSTOP starts counting and a pending TCLK_EN change applies at once (R137). -/
def execTileClockStop (t : Nat) (s : State) : Host.Outcome State Fault Refusal :=
  .next (s.apply (fun b _ g => tileClockStop b t g))

/-- A Springtail satellite's supply falls, the isolation clamp holds TCLK_EN low, and the satellite's counts and
settings are lost (R49). -/
def execSatelliteSupplyLoss (t : Nat) (s : State) : Host.Outcome State Fault Refusal :=
  .next (s.apply (fun b _ g => satSupplyLoss b t g))

end Sys2Proof.Machine
end

