-- ==== Sys2Proof/Machine/RowsStage.lean ====
section
/-! DEFINITION. The meanings of the rows of the lock and staged configuration: one definition per row of the opcode
table. -/

namespace Sys2Proof.Machine

/-- A read of GOV_LOCK takes a free lock for the reading port and returns its owner (R360). -/
def execGovLockRead (port : Nat) (wide high : Bool) (s : State) : Host.Outcome State Fault Refusal :=
  .next (s.apply (fun b _ g => halfRead b 0x2008 port wide high g))

/-- A write of RELEASE by the owner frees the lock (R361). -/
def execGovLockRelease (port : Nat) (s : State) : Host.Outcome State Fault Refusal :=
  .next (s.apply (fun b _ g => fieldWrite b port F.GOV_LOCK_RELEASE 1 g))

/-- A write of FORCE from any port frees a held lock and sets BROKEN (R361). -/
def execGovLockForce (port : Nat) (s : State) : Host.Outcome State Fault Refusal :=
  .next (s.apply (fun b _ g => fieldWrite b port F.GOV_LOCK_FORCE 1 g))

/-- The owner's port has not accessed for LOCK_TO, so the lock is freed (R361). -/
def execLockTimeout (s : State) : Host.Outcome State Fault Refusal :=
  .next (s.apply (fun _ _ g => lockTimeout g))

/-- A write of OPEN by the lock owner starts the copy of the live image into the shadow (R363). -/
def execCfgStageOpen (port : Nat) (s : State) : Host.Outcome State Fault Refusal :=
  .next (s.apply (fun b _ g => fieldWrite b port F.CFG_STAGE_OPEN 1 g))

/-- The shadow copy ends, and the stage is OPEN or abandoned (R363). -/
def execShadowCopyDone (s : State) : Host.Outcome State Fault Refusal :=
  .next (s.apply (fun _ _ g => shadowCopyDone g))

/-- A write of ABORT by the owner discards the shadow and ends the stage (R364). -/
def execCfgStageAbort (port : Nat) (s : State) : Host.Outcome State Fault Refusal :=
  .next (s.apply (fun b _ g => fieldWrite b port F.CFG_STAGE_ABORT 1 g))

/-- A write of CFG_COMMIT by the owner starts validation of the shadow (R365). -/
def execCfgCommitWrite (port w : Nat) (s : State) : Host.Outcome State Fault Refusal :=
  .next (s.apply (fun b _ g => portWrite b port 0x2048 w true g))

/-- Validation ends; the commit is refused, or accepted with Tc fixed and the check word complemented (R366). -/
def execValidationDone (s : State) : Host.Outcome State Fault Refusal :=
  .next (s.apply (fun b _ g => validationDone b g))

/-- At Tc the fields outside the rails change together, and the rails become pending (R366). -/
def execCommitInstant (s : State) : Host.Outcome State Fault Refusal :=
  .next (s.settle (fun b _ g => commitInstant b g))

/-- Every rail has applied the commit; the check word is written, DIRTY clears and STATE is IDLE (R367). -/
def execCommitComplete (s : State) : Host.Outcome State Fault Refusal :=
  .next (s.apply (fun b _ g => commitComplete b g))

/-- A check-word rewrite over the live image, made after START, at the end of Probe or on a stage abort, ends 65,536
cycles after it began, and a warm reset then retains the configuration (R362). -/
def execCheckWordRewritten (s : State) : Host.Outcome State Fault Refusal :=
  .next (s.apply (fun _ _ g => checkWordRewritten g))

end Sys2Proof.Machine
end

