-- ==== Sys2Proof/Machine/RowsTap.lean ====
section
/-! DEFINITION. The meanings of the rows of the test access port: one definition per row of the opcode table. -/

namespace Sys2Proof.Machine

/-- Drives the boundary cells, or behaves as BYPASS while the rails are up (R79). -/
def execExtest (cells : PinScan) (s : State) : Host.Outcome State Fault Refusal :=
  .next (s.apply (fun b _ g => tapExtest b cells.pins cells.scan g))

/-- Selects the 32-bit IDCODE register (R78). -/
def execIdcode (s : State) : Host.Outcome State Fault Refusal :=
  .next (s.apply (fun b _ g => tapIdcode b g))

/-- Samples or preloads the boundary register (R503). -/
def execSamplePreload (pins load : Nat) (s : State) : Host.Outcome State Fault Refusal :=
  .next (s.apply (fun b _ g => tapSample b pins load g))

/-- Update-DR starts a 64-bit register access as port 5 (R504). -/
def execRegacc (wr : Bool) (off data : Nat) (bad collide : Bool) (s : State) : Host.Outcome State Fault Refusal :=
  .next ((s.settle (fun b m g => tapRegacc b wr off data bad collide m g)).withMem
    (tapRegaccMem wr off data bad collide s.gov s.mem))

/-- Captures FT_STAT and FT_ACT from Firethorn (R503). -/
def execFtobs (s : State) : Host.Outcome State Fault Refusal :=
  .next (s.apply (fun b _ g => tapFtobs b g))

/-- Selects the 1-bit bypass register (R503). -/
def execBypass (s : State) : Host.Outcome State Fault Refusal :=
  .next (s.apply (fun _ _ g => tapBypass g))

/-- TRST_N, five TCK cycles with TMS high, or always-on power-up resets the TAP controller (R503). -/
def execTapReset (s : State) : Host.Outcome State Fault Refusal :=
  .next (s.apply (fun _ _ g => tapReset g))

end Sys2Proof.Machine
end

