-- ==== Sys2Proof/Machine/RowsThermal.lean ====
section
/-! DEFINITION. The meanings of the rows of the thermal engine and Firethorn: one definition per row of the opcode
table. -/

namespace Sys2Proof.Machine

/-- A 6.25 µs tick occurs, and an update starts if it is due (or ceilings are computed with no model) (R242). -/
def execThermalTick (s : State) : Host.Outcome State Fault Refusal :=
  .next (s.apply (fun b _ g => thermalTick b g))

/-- A diode reading reaches the core and queues a correction for its node (R249). -/
def execDiodeReadingArrival (k : Nat) (s : State) : Host.Outcome State Fault Refusal :=
  .next (s.apply (fun b _ g => diodeReadingArrival b k g))

/-- The decode of an accepted model completes, and the model takes effect at the next update (R240). -/
def execThLoadDecodeDone (s : State) : Host.Outcome State Fault Refusal :=
  .next (s.apply (fun _ _ g => thLoadDecodeDone g))

/-- A node's chatter window closes, and TH_CHATTER is recorded if changes went unrecorded (R255). -/
def execChatterWindowClose (node : Nat) (s : State) : Host.Outcome State Fault Refusal :=
  .next (s.apply (fun _ _ g => chatterWindowClose node g))

/-- Firethorn converts one diode with three currents and trims the reading (R257). -/
def execDiodeConversion (v dv1 dv2 : Int) (s : State) : Host.Outcome State Fault Refusal :=
  .next (s.apply (fun b _ g => diodeConversion b v dv1 dv2 g))

/-- A Firethorn scan ends; trip, release, exclusion and shadow acceptance are judged (R259). -/
def execScanEnd (s : State) : Host.Outcome State Fault Refusal :=
  .next (s.apply (fun b _ g => scanEnd b g))

/-- Fifty-two FCLK cycles after a trip, every PEN is overridden low (R260). -/
def execFtPenOverride (s : State) : Host.Outcome State Fault Refusal :=
  .next (s.apply (fun _ _ g => ftPenOverride g))

/-- A further 52 FCLK cycles later, every PWM goes to high impedance (R260). -/
def execFtPwmHiz (s : State) : Host.Outcome State Fault Refusal :=
  .next (s.apply (fun _ _ g => ftPwmHiz g))

/-- The trip status reaches GCLK; the core closes the hubs, clears ENMASK, turns the rails OFF and enters Off (R261).
-/
def execFtTripStatusAtCore (s : State) : Host.Outcome State Fault Refusal :=
  .next (s.settle (fun b _ g => ftTripAtCore b g))

/-- The core records the release and performs START if FT_AUTO is set (R262). -/
def execFtReleaseAtCore (s : State) : Host.Outcome State Fault Refusal :=
  .next (s.apply (fun b _ g => ftReleaseAtCore b g))

/-- A write to FT_CFG or FT_DTRIM sets PEND, or is discarded once LOCK is set (R265). -/
def execFtCfgWrite (port : Nat) (trim : Option Nat) (w : Nat) (s : State) : Host.Outcome State Fault Refusal :=
  .next (s.apply (fun b _ g => ftCfgPort b port trim w g))

/-- The first Firethorn status after REC_START is compared with the reset state and its events are recorded (R511). -/
def execFtStatusAfterReset (s : State) : Host.Outcome State Fault Refusal :=
  .next (s.settle (fun b _ g => ftStatusAfterReset b g))

end Sys2Proof.Machine
end

