-- ==== Sys2Proof/Machine/Dispatch.lean ====
section
/-! DEFINITION. The meaning of every command: one arm per row of the opcode table. -/

namespace Sys2Proof.Machine

/-- What a command does to everything but the queue. -/
def exec (i : Instr) (s : State) : Host.Outcome State Fault Refusal :=
  match i with
  | .alwaysOnPowerUp => Sys2Proof.Machine.execAlwaysOnPowerUp s
  | .alwaysOnSupplyLoss vdd vdda ns => Sys2Proof.Machine.execAlwaysOnSupplyLoss vdd vdda ns s
  | .govPorstNAssert ns => Sys2Proof.Machine.execGovPorstNAssert ns s
  | .govPorstNDeassert root => Sys2Proof.Machine.execGovPorstNDeassert root s
  | .xoStartDelayEnd => Sys2Proof.Machine.execXoStartDelayEnd s
  | .gpllLock => Sys2Proof.Machine.execGpllLock s
  | .fuseCapture id1 id2 par => Sys2Proof.Machine.execFuseCapture id1 id2 par s
  | .fuseVldTimeout => Sys2Proof.Machine.execFuseVldTimeout s
  | .recStartWrite bad => Sys2Proof.Machine.execRecStartWrite bad s
  | .storeInitDone bad => Sys2Proof.Machine.execStoreInitDone bad s
  | .identificationDone sums => Sys2Proof.Machine.execIdentificationDone sums s
  | .senseLineCheckDone n s1 s2 => Sys2Proof.Machine.execSenseLineCheckDone n s1 s2 s
  | .discoverComplete => Sys2Proof.Machine.execDiscoverComplete s
  | .vinConversion nV => Sys2Proof.Machine.execVinConversion nV s
  | .vinWindowSettled => Sys2Proof.Machine.execVinWindowSettled s
  | .vinToExpiry => Sys2Proof.Machine.execVinToExpiry s
  | .vinWindowFault => Sys2Proof.Machine.execVinWindowFault s
  | .groupStart => Sys2Proof.Machine.execGroupStart s
  | .railDlyExpiry n => Sys2Proof.Machine.execRailDlyExpiry n s
  | .penMidLevelEnd n => Sys2Proof.Machine.execPenMidLevelEnd n s
  | .pgTimeoutExpiry n => Sys2Proof.Machine.execPgTimeoutExpiry n s
  | .probeRepetitionStart n v0 i0 => Sys2Proof.Machine.execProbeRepetitionStart n v0 i0 s
  | .probePulseEnd n samples => Sys2Proof.Machine.execProbePulseEnd n samples s
  | .probeComplete n => Sys2Proof.Machine.execProbeComplete n s
  | .hrWaitExpiry => Sys2Proof.Machine.execHrWaitExpiry s
  | .readyEntry => Sys2Proof.Machine.execReadyEntry s
  | .satelliteEnableWaitEnd => Sys2Proof.Machine.execSatelliteEnableWaitEnd s
  | .pdDrainExpiry => Sys2Proof.Machine.execPdDrainExpiry s
  | .railOff n nV => Sys2Proof.Machine.execRailOff n nV s
  | .refSourceReady j => Sys2Proof.Machine.execRefSourceReady j s
  | .referenceLost => Sys2Proof.Machine.execReferenceLost s
  | .refselWrite port w => Sys2Proof.Machine.execRefselWrite port w s
  | .refSwitchComplete => Sys2Proof.Machine.execRefSwitchComplete s
  | .forcedSwitch => Sys2Proof.Machine.execForcedSwitch s
  | .switchBack => Sys2Proof.Machine.execSwitchBack s
  | .holdoverLock => Sys2Proof.Machine.execHoldoverLock s
  | .clkoutCtlWrite port w newRuns => Sys2Proof.Machine.execClkoutCtlWrite port w newRuns s
  | .clockGateClose k busy => Sys2Proof.Machine.execClockGateClose k busy s
  | .gtimeLoRead port => Sys2Proof.Machine.execGtimeLoRead port s
  | .vselCodeValid code => Sys2Proof.Machine.execVselCodeValid code s
  | .pwmSyncEdge ns => Sys2Proof.Machine.execPwmSyncEdge ns s
  | .syncLost n => Sys2Proof.Machine.execSyncLost n s
  | .satelliteSupplyUp t => Sys2Proof.Machine.execSatelliteSupplyUp t s
  | .droopLevelChange t nV => Sys2Proof.Machine.execDroopLevelChange t nV s
  | .tileClockEdge t => Sys2Proof.Machine.execTileClockEdge t s
  | .ringFrameSend => Sys2Proof.Machine.execRingFrameSend s
  | .headerReceive t err => Sys2Proof.Machine.execHeaderReceive t err s
  | .ringLoss t => Sys2Proof.Machine.execRingLoss t s
  | .reportReceived t hops err present => Sys2Proof.Machine.execReportReceived t hops err present s
  | .frameReturnCheck d arrived crcOk fnum => Sys2Proof.Machine.execFrameReturnCheck d arrived crcOk fnum s
  | .norepSet t => Sys2Proof.Machine.execNorepSet t s
  | .norepService t => Sys2Proof.Machine.execNorepService t s
  | .periodBoundary n => Sys2Proof.Machine.execPeriodBoundary n s
  | .loopPass n sample => Sys2Proof.Machine.execLoopPass n sample s
  | .railCfgWrite n port w => Sys2Proof.Machine.execRailCfgWrite n port w s
  | .railCtlCsetWrite n port c => Sys2Proof.Machine.execRailCtlCsetWrite n port c s
  | .railCtlOpenWrite n port v => Sys2Proof.Machine.execRailCtlOpenWrite n port v s
  | .railOptWrite n k port w => Sys2Proof.Machine.execRailOptWrite n k port w s
  | .railCoefWrite port off w => Sys2Proof.Machine.execRailCoefWrite port off w s
  | .imonConversion n c nV => Sys2Proof.Machine.execImonConversion n c nV s
  | .imbServiceTimeout p => Sys2Proof.Machine.execImbServiceTimeout p s
  | .limitCut p age nV => Sys2Proof.Machine.execLimitCut p age nV s
  | .burstSample n sample => Sys2Proof.Machine.execBurstSample n sample s
  | .phaseShutdownDelay p => Sys2Proof.Machine.execPhaseShutdownDelay p s
  | .hiccupRetry n nV => Sys2Proof.Machine.execHiccupRetry n nV s
  | .hrResetTimeout n => Sys2Proof.Machine.execHrResetTimeout n s
  | .graceEnd n => Sys2Proof.Machine.execGraceEnd n s
  | .pfaultRecognised p ns => Sys2Proof.Machine.execPfaultRecognised p ns s
  | .sliceLinkFail n => Sys2Proof.Machine.execSliceLinkFail n s
  | .ovClampEnd n nV => Sys2Proof.Machine.execOvClampEnd n nV s
  | .announcementAccept req sig ctx cgen cls slot pmode pg => Sys2Proof.Machine.execAnnouncementAccept req sig ctx cgen cls slot pmode pg s
  | .laneDecision d => Sys2Proof.Machine.execLaneDecision d s
  | .heldRetest d => Sys2Proof.Machine.execHeldRetest d s
  | .entryBlocking h => Sys2Proof.Machine.execEntryBlocking h s
  | .completionAccept req h kind => Sys2Proof.Machine.execCompletionAccept req h kind s
  | .completionAtCore d => Sys2Proof.Machine.execCompletionAtCore d s
  | .slotBoundary => Sys2Proof.Machine.execSlotBoundary s
  | .horizonScanResult => Sys2Proof.Machine.execHorizonScanResult s
  | .deltaWrite => Sys2Proof.Machine.execDeltaWrite s
  | .thermalTick => Sys2Proof.Machine.execThermalTick s
  | .diodeReadingArrival k => Sys2Proof.Machine.execDiodeReadingArrival k s
  | .thLoadDecodeDone => Sys2Proof.Machine.execThLoadDecodeDone s
  | .chatterWindowClose node => Sys2Proof.Machine.execChatterWindowClose node s
  | .diodeConversion v dv1 dv2 => Sys2Proof.Machine.execDiodeConversion v dv1 dv2 s
  | .scanEnd => Sys2Proof.Machine.execScanEnd s
  | .ftPenOverride => Sys2Proof.Machine.execFtPenOverride s
  | .ftPwmHiz => Sys2Proof.Machine.execFtPwmHiz s
  | .ftTripStatusAtCore => Sys2Proof.Machine.execFtTripStatusAtCore s
  | .ftReleaseAtCore => Sys2Proof.Machine.execFtReleaseAtCore s
  | .ftCfgWrite port trim w => Sys2Proof.Machine.execFtCfgWrite port trim w s
  | .ftStatusAfterReset => Sys2Proof.Machine.execFtStatusAfterReset s
  | .hedgerowFrameSlot skip => Sys2Proof.Machine.execHedgerowFrameSlot skip s
  | .frameReceive k w t => Sys2Proof.Machine.execFrameReceive k w t s
  | .hrlUpRise k => Sys2Proof.Machine.execHrlUpRise k s
  | .linkLost k cause => Sys2Proof.Machine.execLinkLost k cause s
  | .epochAnnounce => Sys2Proof.Machine.execEpochAnnounce s
  | .epochApply => Sys2Proof.Machine.execEpochApply s
  | .raisedCapApply => Sys2Proof.Machine.execRaisedCapApply s
  | .holdEnd k => Sys2Proof.Machine.execHoldEnd k s
  | .hrEpochNowBit port => Sys2Proof.Machine.execHrEpochNowBit port s
  | .hrLinkForget k port => Sys2Proof.Machine.execHrLinkForget k port s
  | .descriptorFetchDone words => Sys2Proof.Machine.execDescriptorFetchDone words s
  | .stepReplyDone => Sys2Proof.Machine.execStepReplyDone s
  | .orderIssue kind pg => Sys2Proof.Machine.execOrderIssue kind pg s
  | .orderCompletion id code => Sys2Proof.Machine.execOrderCompletion id code s
  | .orderTimeout id => Sys2Proof.Machine.execOrderTimeout id s
  | .residencyWalkDone => Sys2Proof.Machine.execResidencyWalkDone s
  | .mbxPush n port w wide high => Sys2Proof.Machine.execMbxPush n port w wide high s
  | .mbxPop n port wide high => Sys2Proof.Machine.execMbxPop n port wide high s
  | .commandTake bad lose => Sys2Proof.Machine.execCommandTake bad lose s
  | .senderTimeout n => Sys2Proof.Machine.execSenderTimeout n s
  | .receiverTimeout n => Sys2Proof.Machine.execReceiverTimeout n s
  | .executionTimeout num => Sys2Proof.Machine.execExecutionTimeout num s
  | .mbxCtlRst n port => Sys2Proof.Machine.execMbxCtlRst n port s
  | .govLockRead port wide high => Sys2Proof.Machine.execGovLockRead port wide high s
  | .govLockRelease port => Sys2Proof.Machine.execGovLockRelease port s
  | .govLockForce port => Sys2Proof.Machine.execGovLockForce port s
  | .lockTimeout => Sys2Proof.Machine.execLockTimeout s
  | .cfgStageOpen port => Sys2Proof.Machine.execCfgStageOpen port s
  | .shadowCopyDone => Sys2Proof.Machine.execShadowCopyDone s
  | .cfgStageAbort port => Sys2Proof.Machine.execCfgStageAbort port s
  | .cfgCommitWrite port w => Sys2Proof.Machine.execCfgCommitWrite port w s
  | .validationDone => Sys2Proof.Machine.execValidationDone s
  | .commitInstant => Sys2Proof.Machine.execCommitInstant s
  | .commitComplete => Sys2Proof.Machine.execCommitComplete s
  | .mirrorSnapshot => Sys2Proof.Machine.execMirrorSnapshot s
  | .nop x => Sys2Proof.Machine.execNop x s
  | .ident x => Sys2Proof.Machine.execIdent x s
  | .status x => Sys2Proof.Machine.execStatus x s
  | .regRead x => Sys2Proof.Machine.execRegRead x s
  | .regWrite x => Sys2Proof.Machine.execRegWrite x s
  | .storeRead x bad => Sys2Proof.Machine.execStoreRead x bad s
  | .storeWrite x lose => Sys2Proof.Machine.execStoreWrite x lose s
  | .cfgOpen x => Sys2Proof.Machine.execCfgOpen x s
  | .cfgCommit x => Sys2Proof.Machine.execCfgCommit x s
  | .cfgAbort x => Sys2Proof.Machine.execCfgAbort x s
  | .lockTake x => Sys2Proof.Machine.execLockTake x s
  | .lockRelease x => Sys2Proof.Machine.execLockRelease x s
  | .lockForce x => Sys2Proof.Machine.execLockForce x s
  | .brgStart x => Sys2Proof.Machine.execBrgStart x s
  | .brgStop x => Sys2Proof.Machine.execBrgStop x s
  | .brgCtlStart port => Sys2Proof.Machine.execBrgCtlStart port s
  | .brgCtlStop port => Sys2Proof.Machine.execBrgCtlStop port s
  | .throttleAll x => Sys2Proof.Machine.execThrottleAll x s
  | .throttleDie x => Sys2Proof.Machine.execThrottleDie x s
  | .budQuery x => Sys2Proof.Machine.execBudQuery x s
  | .hrEpochNow x => Sys2Proof.Machine.execHrEpochNow x s
  | .hrForget x => Sys2Proof.Machine.execHrForget x s
  | .hrQuery x => Sys2Proof.Machine.execHrQuery x s
  | .railQuery x => Sys2Proof.Machine.execRailQuery x s
  | .railPhases x => Sys2Proof.Machine.execRailPhases x s
  | .railOpen x => Sys2Proof.Machine.execRailOpen x s
  | .railCset x => Sys2Proof.Machine.execRailCset x s
  | .sigLoad x => Sys2Proof.Machine.execSigLoad x s
  | .sigUnload x => Sys2Proof.Machine.execSigUnload x s
  | .sigQuery x => Sys2Proof.Machine.execSigQuery x s
  | .ctxOpen x => Sys2Proof.Machine.execCtxOpen x s
  | .ctxRevoke x => Sys2Proof.Machine.execCtxRevoke x s
  | .ctxClose x => Sys2Proof.Machine.execCtxClose x s
  | .ctxQuery x => Sys2Proof.Machine.execCtxQuery x s
  | .annCancel x => Sys2Proof.Machine.execAnnCancel x s
  | .reqReset x => Sys2Proof.Machine.execReqReset x s
  | .reqEnable x => Sys2Proof.Machine.execReqEnable x s
  | .grantQuery x => Sys2Proof.Machine.execGrantQuery x s
  | .dmdQuery x => Sys2Proof.Machine.execDmdQuery x s
  | .thLoad x => Sys2Proof.Machine.execThLoad x s
  | .thBound x => Sys2Proof.Machine.execThBound x s
  | .thQuery x => Sys2Proof.Machine.execThQuery x s
  | .thHot x => Sys2Proof.Machine.execThHot x s
  | .ftQuery x => Sys2Proof.Machine.execFtQuery x s
  | .plStep x => Sys2Proof.Machine.execPlStep x s
  | .plCtxPolicy x => Sys2Proof.Machine.execPlCtxPolicy x s
  | .plSeqFind x => Sys2Proof.Machine.execPlSeqFind x s
  | .plQuery x => Sys2Proof.Machine.execPlQuery x s
  | .rcvContext x => Sys2Proof.Machine.execRcvContext x s
  | .rcvEngine x => Sys2Proof.Machine.execRcvEngine x s
  | .rcvPartition x => Sys2Proof.Machine.execRcvPartition x s
  | .rcvChip x => Sys2Proof.Machine.execRcvChip x s
  | .rcvPwrcyc x => Sys2Proof.Machine.execRcvPwrcyc x s
  | .recMark x => Sys2Proof.Machine.execRecMark x s
  | .recPeek x => Sys2Proof.Machine.execRecPeek x s
  | .cntClear x => Sys2Proof.Machine.execCntClear x s
  | .traceCtl x => Sys2Proof.Machine.execTraceCtl x s
  | .dumpState x => Sys2Proof.Machine.execDumpState x s
  | .dumpSequence x => Sys2Proof.Machine.execDumpSequence x s
  | .svcQuery x => Sys2Proof.Machine.execSvcQuery x s
  | .dwQuery x => Sys2Proof.Machine.execDwQuery x s
  | .calProbe x => Sys2Proof.Machine.execCalProbe x s
  | .probeDeferredStart n => Sys2Proof.Machine.execProbeDeferredStart n s
  | .storeBank x => Sys2Proof.Machine.execStoreBank x s
  | .loopDp x => Sys2Proof.Machine.execLoopDp x s
  | .thermDp x => Sys2Proof.Machine.execThermDp x s
  | .stRing x => Sys2Proof.Machine.execStRing x s
  | .sliceAdc x => Sys2Proof.Machine.execSliceAdc x s
  | .ftScan x => Sys2Proof.Machine.execFtScan x s
  | .testDeferredStart => Sys2Proof.Machine.execTestDeferredStart s
  | .dwScanRead => Sys2Proof.Machine.execDwScanRead s
  | .drainTimeout c => Sys2Proof.Machine.execDrainTimeout c s
  | .partTimeout q => Sys2Proof.Machine.execPartTimeout q s
  | .chipTimeout => Sys2Proof.Machine.execChipTimeout s
  | .dmaTimeout f => Sys2Proof.Machine.execDmaTimeout f s
  | .rcvHoldWrite port w => Sys2Proof.Machine.execRcvHoldWrite port w s
  | .dwStatBlockedClear port => Sys2Proof.Machine.execDwStatBlockedClear port s
  | .correctedWriteback off => Sys2Proof.Machine.execCorrectedWriteback off s
  | .bankCopyDone lost => Sys2Proof.Machine.execBankCopyDone lost s
  | .eventRecordWrite => Sys2Proof.Machine.execEventRecordWrite s
  | .histogramFlush => Sys2Proof.Machine.execHistogramFlush s
  | .microsecondTick => Sys2Proof.Machine.execMicrosecondTick s
  | .traceDrain written => Sys2Proof.Machine.execTraceDrain written s
  | .trcConsWrite port w => Sys2Proof.Machine.execTrcConsWrite port w s
  | .trcRingWrite port size w => Sys2Proof.Machine.execTrcRingWrite port size w s
  | .histCtlClear port => Sys2Proof.Machine.execHistCtlClear port s
  | .histCfgWrite h port w => Sys2Proof.Machine.execHistCfgWrite h port w s
  | .dumpComplete begun => Sys2Proof.Machine.execDumpComplete begun s
  | .dumpStatHoldRelease port => Sys2Proof.Machine.execDumpStatHoldRelease port s
  | .dmaErrorResponse f resp => Sys2Proof.Machine.execDmaErrorResponse f resp s
  | .dmaStatClear port w => Sys2Proof.Machine.execDmaStatClear port w s
  | .plStatClear port w => Sys2Proof.Machine.execPlStatClear port w s
  | .calImonWrite p port w => Sys2Proof.Machine.execCalImonWrite p port w s
  | .storePageWrite port w => Sys2Proof.Machine.execStorePageWrite port w s
  | .storeWindowWrite port off data wide collide => Sys2Proof.Machine.execStoreWindowWrite port off data wide collide s
  | .storeWindowRead port off rot wide bad0 bad1 => Sys2Proof.Machine.execStoreWindowRead port off rot wide bad0 bad1 s
  | .railMeasRead n port wide high => Sys2Proof.Machine.execRailMeasRead n port wide high s
  | .phStatRead p port wide high => Sys2Proof.Machine.execPhStatRead p port wide high s
  | .hrLstatRead k port wide high => Sys2Proof.Machine.execHrLstatRead k port wide high s
  | .plTdRead port wide high => Sys2Proof.Machine.execPlTdRead port wide high s
  | .storeEccRead port wide high => Sys2Proof.Machine.execStoreEccRead port wide high s
  | .mbxStatRead n port wide high => Sys2Proof.Machine.execMbxStatRead n port wide high s
  | .mirCtlRead port wide high => Sys2Proof.Machine.execMirCtlRead port wide high s
  | .registerWrite port off w wide => Sys2Proof.Machine.execRegisterWrite port off w wide s
  | .page v badPec => Sys2Proof.Machine.execPage v badPec s
  | .clearFaults badPec => Sys2Proof.Machine.execClearFaults badPec s
  | .capability => Sys2Proof.Machine.execCapability s
  | .voutMode => Sys2Proof.Machine.execVoutMode s
  | .statusByte => Sys2Proof.Machine.execStatusByte s
  | .statusWord => Sys2Proof.Machine.execStatusWord s
  | .statusVout => Sys2Proof.Machine.execStatusVout s
  | .statusIout => Sys2Proof.Machine.execStatusIout s
  | .statusInput => Sys2Proof.Machine.execStatusInput s
  | .statusTemperature => Sys2Proof.Machine.execStatusTemperature s
  | .statusCml => Sys2Proof.Machine.execStatusCml s
  | .readVin => Sys2Proof.Machine.execReadVin s
  | .readVout => Sys2Proof.Machine.execReadVout s
  | .readIout => Sys2Proof.Machine.execReadIout s
  | .readTemperature1 => Sys2Proof.Machine.execReadTemperature1 s
  | .readTemperature2 => Sys2Proof.Machine.execReadTemperature2 s
  | .readPout => Sys2Proof.Machine.execReadPout s
  | .pmbusRevision => Sys2Proof.Machine.execPmbusRevision s
  | .mfrId => Sys2Proof.Machine.execMfrId s
  | .mfrModel => Sys2Proof.Machine.execMfrModel s
  | .mfrRevision => Sys2Proof.Machine.execMfrRevision s
  | .mfrGovStatus => Sys2Proof.Machine.execMfrGovStatus s
  | .mfrServiceCause => Sys2Proof.Machine.execMfrServiceCause s
  | .mfrIdent => Sys2Proof.Machine.execMfrIdent s
  | .mfrEventPeek => Sys2Proof.Machine.execMfrEventPeek s
  | .mfrMbxPush ws badPec => Sys2Proof.Machine.execMfrMbxPush ws badPec s
  | .mfrMbxPull => Sys2Proof.Machine.execMfrMbxPull s
  | .mfrMbxSel v badPec => Sys2Proof.Machine.execMfrMbxSel v badPec s
  | .smbusUnsupportedCommand code => Sys2Proof.Machine.execSmbusUnsupportedCommand code s
  | .alertResponse => Sys2Proof.Machine.execAlertResponse s
  | .smbusClockTimeout us => Sys2Proof.Machine.execSmbusClockTimeout us s
  | .extest cells => Sys2Proof.Machine.execExtest cells s
  | .idcode => Sys2Proof.Machine.execIdcode s
  | .samplePreload pins load => Sys2Proof.Machine.execSamplePreload pins load s
  | .regacc wr off data bad collide => Sys2Proof.Machine.execRegacc wr off data bad collide s
  | .ftobs => Sys2Proof.Machine.execFtobs s
  | .bypass => Sys2Proof.Machine.execBypass s
  | .tapReset => Sys2Proof.Machine.execTapReset s
  | .refSourceUnready j => Sys2Proof.Machine.execRefSourceUnready j s
  | .tileClockStop t => Sys2Proof.Machine.execTileClockStop t s
  | .satelliteSupplyLoss t => Sys2Proof.Machine.execSatelliteSupplyLoss t s
  | .pfaultNLevel p low => Sys2Proof.Machine.execPfaultNLevel p low s
  | .checkWordRewritten => Sys2Proof.Machine.execCheckWordRewritten s
  | .mirrorSnapshotWritten => Sys2Proof.Machine.execMirrorSnapshotWritten s
  | .testComplete ok item => Sys2Proof.Machine.execTestComplete ok item s

end Sys2Proof.Machine
end

