-- ==== Sys2Proof/Machine/Tick.lean ====
section
/-! DEFINITION. One cycle of GCLK in which no command acts: what the block does on an empty queue (R94, R435). -/

namespace Sys2Proof.Machine

/-- One cycle: GTIME advances by 1 ns where GCLK runs (R94), and the level bits of SVC_CAUSE are set again (R435). -/
def Gov.cycle (b : Build) (g : Gov) : Gov :=
  if g.live then
    let g := { g with gtime := (g.gtime + 1) % 2 ^ 64 }
    g.setLevels b
  else g

/-- The machine idles for one cycle. (DESIGN CHOICE, log 21) -/
def State.tick (s : State) : State := s.apply (fun b _ g => g.cycle b)

end Sys2Proof.Machine
end

