-- ==== Sys2Proof/WellFormed.lean ====
section
/-! DEFINITION. Well-formed commands: every index, port, offset and word within what its interface can carry (R8, R24,
R33, Table 13.1, R475). -/

namespace Sys2Proof

/-- An index below its count. -/
def inRange (n i : Nat) : Bool := decide (i < n)

/-- A 64-bit word. -/
def wordOk (w : Nat) : Bool := decide (w < 2 ^ 64)

/-- The offset of a store word, 8 bytes aligned (R24). -/
def storeOff (o : Nat) : Bool := decide (o < 0xC00000) && o % 8 == 0

/-- A register offset that an interface can carry: HRQ_ADDR below the store window; its low bits are taken as zero (R56). -/
def regOff (o : Nat) : Bool := decide (o < 0x40000)

/-- An offset in the store window (R484); its low bits are taken as zero (R56). -/
def windowOff (o : Nat) : Bool := decide (0x40000 ≤ o ∧ o < 0x100000)

/-- FT_CFG, or FT_DTRIM of a diode. -/
def optDiode (k : Option Nat) : Bool := match k with
  | none => true
  | some k => inRange 32 k

/-- Every word of a list has 64 bits. -/
def wordsOk (l : List Nat) : Bool := l.all wordOk

/-- A packet whose fields have the widths of Table 13.1. -/
def Packet.wf (x : Packet) : Bool :=
  inRange 16 x.mbx && inRange 6 x.port && inRange 4 x.cls && inRange 256 x.tag && inRange 32 x.rsv
    && inRange (2 ^ 32) x.arg && inRange 32 x.params.length && wordsOk x.params

/-- The command can be given. -/
def Instr.wf (i : Instr) : Bool :=
  match i with
  | .alwaysOnPowerUp => true
  | .alwaysOnSupplyLoss _ _ _ => true
  | .govPorstNAssert _ => true
  | .govPorstNDeassert _ => true
  | .xoStartDelayEnd => true
  | .gpllLock => true
  | .fuseCapture _ _ _ => true
  | .fuseVldTimeout => true
  | .recStartWrite _ => true
  | .storeInitDone _ => true
  | .identificationDone _ => true
  | .senseLineCheckDone n _ _ => inRange 16 n
  | .discoverComplete => true
  | .vinConversion _ => true
  | .vinWindowSettled => true
  | .vinToExpiry => true
  | .vinWindowFault => true
  | .groupStart => true
  | .railDlyExpiry n => inRange 16 n
  | .penMidLevelEnd n => inRange 16 n
  | .pgTimeoutExpiry n => inRange 16 n
  | .probeRepetitionStart n _ _ => inRange 16 n
  | .probePulseEnd n _ => inRange 16 n
  | .probeComplete n => inRange 16 n
  | .hrWaitExpiry => true
  | .readyEntry => true
  | .satelliteEnableWaitEnd => true
  | .pdDrainExpiry => true
  | .railOff n _ => inRange 16 n
  | .refSourceReady j => inRange 5 j
  | .referenceLost => true
  | .refselWrite port w => inRange 6 port && wordOk w
  | .refSwitchComplete => true
  | .forcedSwitch => true
  | .switchBack => true
  | .holdoverLock => true
  | .clkoutCtlWrite port w _ => inRange 6 port && wordOk w
  | .clockGateClose k _ => inRange 12 k
  | .gtimeLoRead port => inRange 6 port
  | .vselCodeValid code => inRange 8 code
  | .pwmSyncEdge _ => true
  | .syncLost n => inRange 16 n
  | .satelliteSupplyUp t => inRange 512 t
  | .droopLevelChange t _ => inRange 512 t
  | .tileClockEdge t => inRange 512 t
  | .ringFrameSend => true
  | .headerReceive t _ => inRange 512 t
  | .ringLoss t => inRange 512 t
  | .reportReceived t _ _ _ => inRange 512 t
  | .frameReturnCheck d _ _ _ => inRange 8 d
  | .norepSet t => inRange 512 t
  | .norepService t => inRange 512 t
  | .periodBoundary n => inRange 16 n
  | .loopPass n _ => inRange 16 n
  | .railCfgWrite n port w => inRange 16 n && inRange 6 port && wordOk w
  | .railCtlCsetWrite n port _ => inRange 16 n && inRange 6 port
  | .railCtlOpenWrite n port _ => inRange 16 n && inRange 6 port
  | .railOptWrite n k port w => inRange 16 n && inRange 8 k && inRange 6 port && wordOk w
  | .railCoefWrite port _ w => inRange 6 port && wordOk w
  | .imonConversion n c _ => inRange 16 n && inRange 2 c
  | .imbServiceTimeout p => inRange 96 p
  | .limitCut p _ _ => inRange 96 p
  | .burstSample n _ => inRange 16 n
  | .phaseShutdownDelay p => inRange 96 p
  | .hiccupRetry n _ => inRange 16 n
  | .hrResetTimeout n => inRange 16 n
  | .graceEnd n => inRange 16 n
  | .pfaultRecognised p _ => inRange 96 p
  | .sliceLinkFail n => inRange 16 n
  | .ovClampEnd n _ => inRange 16 n
  | .announcementAccept req sig ctx _ cls _ _ _ => 
    inRange 1024 req && inRange 4096 sig && inRange 4096 ctx && inRange 4 cls
  | .laneDecision d => inRange 8 d
  | .heldRetest d => inRange 8 d
  | .entryBlocking h => inRange 32768 h
  | .completionAccept req _ _ => inRange 1024 req
  | .completionAtCore d => inRange 8 d
  | .slotBoundary => true
  | .horizonScanResult => true
  | .deltaWrite => true
  | .thermalTick => true
  | .diodeReadingArrival k => inRange 32 k
  | .thLoadDecodeDone => true
  | .chatterWindowClose node => inRange 512 node
  | .diodeConversion _ _ _ => true
  | .scanEnd => true
  | .ftPenOverride => true
  | .ftPwmHiz => true
  | .ftTripStatusAtCore => true
  | .ftReleaseAtCore => true
  | .ftCfgWrite port trim w => inRange 6 port && optDiode trim && wordOk w
  | .ftStatusAfterReset => true
  | .hedgerowFrameSlot _ => true
  | .frameReceive k _ _ => inRange 9 k
  | .hrlUpRise k => inRange 9 k
  | .linkLost k _ => inRange 9 k
  | .epochAnnounce => true
  | .epochApply => true
  | .raisedCapApply => true
  | .holdEnd k => inRange 9 k
  | .hrEpochNowBit port => inRange 6 port
  | .hrLinkForget k port => inRange 9 k && inRange 6 port
  | .descriptorFetchDone words => wordsOk words
  | .stepReplyDone => true
  | .orderIssue _ pg => inRange 1048576 pg
  | .orderCompletion id _ => inRange 65536 id
  | .orderTimeout id => inRange 65536 id
  | .residencyWalkDone => true
  | .mbxPush n port w _ _ => inRange 16 n && inRange 6 port && wordOk w
  | .mbxPop n port _ _ => inRange 16 n && inRange 6 port
  | .commandTake _ _ => true
  | .senderTimeout n => inRange 16 n
  | .receiverTimeout n => inRange 16 n
  | .executionTimeout _ => true
  | .mbxCtlRst n port => inRange 16 n && inRange 6 port
  | .govLockRead port _ _ => inRange 6 port
  | .govLockRelease port => inRange 6 port
  | .govLockForce port => inRange 6 port
  | .lockTimeout => true
  | .cfgStageOpen port => inRange 6 port
  | .shadowCopyDone => true
  | .cfgStageAbort port => inRange 6 port
  | .cfgCommitWrite port w => inRange 6 port && wordOk w
  | .validationDone => true
  | .commitInstant => true
  | .commitComplete => true
  | .mirrorSnapshot => true
  | .nop x => Packet.wf x
  | .ident x => Packet.wf x
  | .status x => Packet.wf x
  | .regRead x => Packet.wf x
  | .regWrite x => Packet.wf x
  | .storeRead x _ => Packet.wf x
  | .storeWrite x _ => Packet.wf x
  | .cfgOpen x => Packet.wf x
  | .cfgCommit x => Packet.wf x
  | .cfgAbort x => Packet.wf x
  | .lockTake x => Packet.wf x
  | .lockRelease x => Packet.wf x
  | .lockForce x => Packet.wf x
  | .brgStart x => Packet.wf x
  | .brgStop x => Packet.wf x
  | .brgCtlStart port => inRange 6 port
  | .brgCtlStop port => inRange 6 port
  | .throttleAll x => Packet.wf x
  | .throttleDie x => Packet.wf x
  | .budQuery x => Packet.wf x
  | .hrEpochNow x => Packet.wf x
  | .hrForget x => Packet.wf x
  | .hrQuery x => Packet.wf x
  | .railQuery x => Packet.wf x
  | .railPhases x => Packet.wf x
  | .railOpen x => Packet.wf x
  | .railCset x => Packet.wf x
  | .sigLoad x => Packet.wf x
  | .sigUnload x => Packet.wf x
  | .sigQuery x => Packet.wf x
  | .ctxOpen x => Packet.wf x
  | .ctxRevoke x => Packet.wf x
  | .ctxClose x => Packet.wf x
  | .ctxQuery x => Packet.wf x
  | .annCancel x => Packet.wf x
  | .reqReset x => Packet.wf x
  | .reqEnable x => Packet.wf x
  | .grantQuery x => Packet.wf x
  | .dmdQuery x => Packet.wf x
  | .thLoad x => Packet.wf x
  | .thBound x => Packet.wf x
  | .thQuery x => Packet.wf x
  | .thHot x => Packet.wf x
  | .ftQuery x => Packet.wf x
  | .plStep x => Packet.wf x
  | .plCtxPolicy x => Packet.wf x
  | .plSeqFind x => Packet.wf x
  | .plQuery x => Packet.wf x
  | .rcvContext x => Packet.wf x
  | .rcvEngine x => Packet.wf x
  | .rcvPartition x => Packet.wf x
  | .rcvChip x => Packet.wf x
  | .rcvPwrcyc x => Packet.wf x
  | .recMark x => Packet.wf x
  | .recPeek x => Packet.wf x
  | .cntClear x => Packet.wf x
  | .traceCtl x => Packet.wf x
  | .dumpState x => Packet.wf x
  | .dumpSequence x => Packet.wf x
  | .svcQuery x => Packet.wf x
  | .dwQuery x => Packet.wf x
  | .calProbe x => Packet.wf x
  | .probeDeferredStart n => inRange 16 n
  | .storeBank x => Packet.wf x
  | .loopDp x => Packet.wf x
  | .thermDp x => Packet.wf x
  | .stRing x => Packet.wf x
  | .sliceAdc x => Packet.wf x
  | .ftScan x => Packet.wf x
  | .testDeferredStart => true
  | .dwScanRead => true
  | .drainTimeout c => inRange 4096 c
  | .partTimeout q => inRange 16 q
  | .chipTimeout => true
  | .dmaTimeout f => inRange 4 f
  | .rcvHoldWrite port w => inRange 6 port && wordOk w
  | .dwStatBlockedClear port => inRange 6 port
  | .correctedWriteback off => storeOff off
  | .bankCopyDone _ => true
  | .eventRecordWrite => true
  | .histogramFlush => true
  | .microsecondTick => true
  | .traceDrain _ => true
  | .trcConsWrite port w => inRange 6 port && wordOk w
  | .trcRingWrite port _ w => inRange 6 port && wordOk w
  | .histCtlClear port => inRange 6 port
  | .histCfgWrite h port w => inRange 64 h && inRange 6 port && wordOk w
  | .dumpComplete _ => true
  | .dumpStatHoldRelease port => inRange 6 port
  | .dmaErrorResponse f resp => inRange 4 f && inRange 32 resp.id
  | .dmaStatClear port w => inRange 6 port && wordOk w
  | .plStatClear port w => inRange 6 port && wordOk w
  | .calImonWrite p port w => inRange 96 p && inRange 6 port && wordOk w
  | .storePageWrite port w => inRange 6 port && wordOk w
  | .storeWindowWrite port off data _ _ => inRange 6 port && windowOff off && wordOk data
  | .storeWindowRead port off rot _ _ _ => inRange 6 port && windowOff off && inRange 8 rot
  | .railMeasRead n port _ _ => inRange 16 n && inRange 6 port
  | .phStatRead p port _ _ => inRange 96 p && inRange 6 port
  | .hrLstatRead k port _ _ => inRange 9 k && inRange 6 port
  | .plTdRead port _ _ => inRange 6 port
  | .storeEccRead port _ _ => inRange 6 port
  | .mbxStatRead n port _ _ => inRange 16 n && inRange 6 port
  | .mirCtlRead port _ _ => inRange 6 port
  | .registerWrite port off w _ => inRange 6 port && regOff off && wordOk w
  | .page _ _ => true
  | .clearFaults _ => true
  | .capability => true
  | .voutMode => true
  | .statusByte => true
  | .statusWord => true
  | .statusVout => true
  | .statusIout => true
  | .statusInput => true
  | .statusTemperature => true
  | .statusCml => true
  | .readVin => true
  | .readVout => true
  | .readIout => true
  | .readTemperature1 => true
  | .readTemperature2 => true
  | .readPout => true
  | .pmbusRevision => true
  | .mfrId => true
  | .mfrModel => true
  | .mfrRevision => true
  | .mfrGovStatus => true
  | .mfrServiceCause => true
  | .mfrIdent => true
  | .mfrEventPeek => true
  | .mfrMbxPush ws _ => wordsOk ws
  | .mfrMbxPull => true
  | .mfrMbxSel _ _ => true
  | .smbusUnsupportedCommand code => inRange 256 code
  | .alertResponse => true
  | .smbusClockTimeout _ => true
  | .extest _ => true
  | .idcode => true
  | .samplePreload _ _ => true
  | .regacc _ off data _ _ => inRange 1048576 off && wordOk data
  | .ftobs => true
  | .bypass => true
  | .tapReset => true
  | .refSourceUnready j => inRange 5 j
  | .tileClockStop t => inRange 512 t
  | .satelliteSupplyLoss t => inRange 512 t
  | .pfaultNLevel p _ => inRange 96 p
  | .checkWordRewritten => true
  | .mirrorSnapshotWritten => true
  | .testComplete _ _ => true

end Sys2Proof
end

