-- ==== Sys2Proof/Safety.lean ====
section
/-! DEFINITION. What the statements are made of: the invariants that every step keeps, and the parts of the governor that
a command leaves as they were. -/

namespace Sys2Proof.Machine

/-! ## The build -/

/-- The build parameters lie in the ranges of Table 18.1 (R490): one hub to a die, one slice to a rail of 1 to 24
channels, and phase ranges of slices that do not overlap. -/
def Build.ok (b : Build) : Bool :=
  decide (1 ≤ b.dies ∧ b.dies ≤ 8 ∧ 1 ≤ b.tiles ∧ b.tiles ≤ 64 ∧ 1 ≤ b.rails ∧ b.rails ≤ 16 ∧ 1 ≤ b.phases
    ∧ b.phases ≤ 96 ∧ b.phases ≤ 24 * b.rails ∧ b.nStacks ≤ 24 ∧ 1 ≤ b.requesters ∧ b.requesters ≤ 1024
    ∧ 1 ≤ b.partitions ∧ b.partitions ≤ 16 ∧ b.slices.length = b.rails ∧ b.hubs.length = b.dies
    ∧ b.smbAddr < 128 ∧ b.idMfr < 2048)
  && b.slices.all (fun e => decide (1 ≤ e.2 ∧ e.2 ≤ 24))
  && b.slices.zipIdx.all (fun e => b.slices.zipIdx.all (fun e' =>
      e.2 == e'.2 || decide (e.1.1 + e.1.2 ≤ e'.1.1 ∨ e'.1.1 + e'.1.2 ≤ e.1.1)))

/-! ## Invariants -/

/-- The raw store bytes stand in their canonical form. -/
abbrev State.memOk (s : State) : Prop := memWf s.mem = true

/-- Every command that waits is well formed. -/
abbrev State.queueOk (s : State) : Prop := ∀ i ∈ s.pending, i.wf = true

/-! ## Where nothing waits -/

/-- Nothing waits for the end of another command's effect: no command packet in progress, no step of the ladder, no
CAL_PROBE waiting or running, no bank that waits to pass, no announcement that waits for an entry. -/
abbrev Gov.quiet (g : Gov) : Prop :=
  g.mb.cmds = [] ∧ g.rcv.steps = [] ∧ g.calWait = [] ∧ g.store.waits = [] ∧ g.dm.wait = [] ∧ g.dm.c0rails = []
  ∧ ∀ e ∈ g.probes, e.2.cal = false

/-- The same but for one step of the ladder in progress, `y`. -/
abbrev Gov.under (g : Gov) (y : RStep) : Prop :=
  g.mb.cmds = [] ∧ g.rcv.steps = [y] ∧ g.calWait = [] ∧ g.store.waits = [] ∧ g.dm.wait = [] ∧ g.dm.c0rails = []
  ∧ ∀ e ∈ g.probes, e.2.cal = false

/-- No stage of the configuration is open, being copied or committing: writes of retained fields act at once (R364). -/
abbrev Gov.noStage (g : Gov) : Prop := g.rd F.CFG_STAT_STATE = 0 ∧ g.cfg.copyAt = none

/-! ## Opcodes that pass the common checks -/

/-- The governor with the packet `x`, of opcode `op` with ARG `arg`, taken as a command in progress (R348). -/
def State.taken (s : State) (op arg : Nat) (x : Packet) : Gov := s.gov.takePkt x.mbx (packetPkt x op arg s.gov) false

/-- That command. -/
def State.command (s : State) (op arg : Nat) (x : Packet) : Cmd := (s.taken op arg x).cmd s.gov.mb.nextCmd

/-- The packet may be taken, passes every check of R370, and nothing else waits. -/
abbrev State.takes (s : State) (op arg : Nat) (x : Packet) : Prop :=
  s.gov.live = true ∧ s.gov.quiet ∧ x.wf = true ∧ arg < 2 ^ 32
  ∧ s.gov.takeable x.mbx (packetPkt x op arg s.gov) = true
  ∧ cmdRefused s.build (s.command op arg x) (packetPkt x op arg s.gov).hres (s.taken op arg x) = 0

/-- From `s` to `t` the command was answered with `code` and the reply words `data` (R344, R347): MBX_ACK shows it, and
the words stand in the reply queue where they fit. -/
def State.answered (s t : State) (x : Packet) (op code : Nat) (data : List Nat) : Prop :=
  t.gov.rd (F.MBX_ACK_OPCODE x.mbx) = op ∧ t.gov.rd (F.MBX_ACK_CODE x.mbx) = code
  ∧ t.gov.rd (F.MBX_ACK_TAG x.mbx) = x.tag ∧ t.gov.mb.cmds = []
  ∧ ((s.gov.mbx x.mbx).rq.length + data.length < 32 →
      (t.gov.mbx x.mbx).rq = (s.gov.mbx x.mbx).rq
        ++ replyHeader op x.cls data.length x.tag code (s.gov.rd (F.MBX_STAT_MGEN x.mbx)) false :: data)

/-- From `s` to `t` the command waits for an engine of kind `kind` (R373). -/
def State.waits (s t : State) (op kind : Nat) : Prop :=
  ∃ c, mfind t.gov.mb.cmds s.gov.mb.nextCmd = some c ∧ c.op = op ∧ c.wait = kind

/-! ## What a command leaves unchanged -/

/-- The parts of the governor beside its registers. `pmbus` is the PMBus status bits that latch what holds (R71); `smb`
is the rest of the SMBus target; `bus` is the clock gates and the requests for port A, which follow every row. -/
inductive Part where
  | power | time | fresh | kept | clk | brg | recr | rails | phs | convs | probes | calWait | st | pl | th | ft | hr | dm
  | mb | cfg | mir | dma | rcv | store | hrs | page | pmbus | smb | tap | test | bus
  deriving DecidableEq, Repr

/-- The part is in `t` what it is in `g`. -/
def Part.same (g t : Gov) : Part → Prop
  | .power => t.aon = g.aon ∧ t.porst = g.porst ∧ t.gclk = g.gclk ∧ t.cold = g.cold
  | .time => t.gtime = g.gtime
  | .fresh => t.fresh = g.fresh
  | .kept => t.kept = g.kept
  | .clk => t.clk = g.clk
  | .brg => t.brg = g.brg
  | .recr => t.recr = g.recr
  | .rails => t.rails = g.rails
  | .phs => t.phs = g.phs
  | .convs => t.convs = g.convs
  | .probes => t.probes = g.probes
  | .calWait => t.calWait = g.calWait
  | .st => t.st = g.st
  | .pl => t.pl = g.pl
  | .th => t.th = g.th
  | .ft => t.ft = g.ft
  | .hr => t.hr = g.hr
  | .dm => t.dm = g.dm
  | .mb => t.mb = g.mb
  | .cfg => t.cfg = g.cfg
  | .mir => t.mir = g.mir
  | .dma => t.dma = g.dma
  | .rcv => t.rcv = g.rcv
  | .store => t.store = g.store
  | .hrs => t.io.hrs = g.io.hrs
  | .page => t.io.page = g.io.page
  | .pmbus => t.io.smb.vout = g.io.smb.vout ∧ t.io.smb.iout = g.io.smb.iout ∧ t.io.smb.input = g.io.smb.input
      ∧ t.io.smb.temp = g.io.smb.temp
  | .smb => t.io.smb.page = g.io.smb.page ∧ t.io.smb.sel = g.io.smb.sel ∧ t.io.smb.cml = g.io.smb.cml
      ∧ t.io.smb.out = g.io.smb.out ∧ t.io.smb.nack = g.io.smb.nack
  | .tap => t.io.tap = g.io.tap
  | .test => t.test = g.test
  | .bus => t.bus = g.bus

/-- From `g` to `t` no part outside `ps` changes, and no register outside the window offsets of the ranges `rs`. -/
def Gov.onlyChanges (ps : List Part) (rs : List (Nat × Nat)) (g t : Gov) : Prop :=
  (∀ p : Part, p ∉ ps → p.same g t)
  ∧ ∀ f : Fld, f.lo < 64 → (∀ r ∈ rs, f.off < r.1 ∨ r.2 < f.off) → t.rd f = g.rd f

end Sys2Proof.Machine

namespace Sys2Proof

open Machine

/-! ## Frames -/

/-- What a row of the Clock to Ready stages, of the fuses or of the clocks may change: parts of the governor, and
ranges of register offsets. -/
def Instr.bootChanges : Instr → Option (List Part × List (Nat × Nat))
  | .identificationDone _ => some ([.brg, .pmbus, .bus], [(0x8C00, 0x8EF8)])
  | .vinWindowSettled => some ([.time, .brg, .pmbus, .bus], [(0x14038, 0x14038)])
  | .hrWaitExpiry => some ([.time, .recr, .pmbus, .bus], [(0x12108, 0x12108), (0x14038, 0x14038), (0x16000, 0x1642F)])
  | .readyEntry => some ([.brg, .rails, .st, .pmbus, .bus], [(0x12108, 0x12108)])
  | .satelliteEnableWaitEnd => some ([.time, .brg, .recr, .st, .dm, .tap, .pmbus, .bus], [(0x13000, 0x13FF8), (0x14038, 0x14038), (0x16000, 0x1642F)])
  | .govPorstNDeassert _ => some ([.power, .clk, .hr, .pmbus, .bus], [(0x2000, 0x2000), (0xE208, 0xE208)])
  | .xoStartDelayEnd => some ([.clk, .pmbus, .bus], [])
  | .fuseCapture _ _ _ => some ([.brg, .recr, .pmbus, .bus], [(0x18, 0x18), (0x20, 0x20), (0x16000, 0x1642F)])
  | .fuseVldTimeout => some ([.brg, .recr, .pmbus, .bus], [(0x20, 0x20), (0x16000, 0x1642F)])
  | .refSourceReady _ => some ([.time, .clk, .pmbus, .bus], [(0x12008, 0x12008), (0x14038, 0x14038)])
  | .referenceLost => some ([.clk, .recr, .pmbus, .bus], [(0x12000, 0x12000), (0x12008, 0x12008), (0x16000, 0x1642F)])
  | .refSwitchComplete => some ([.clk, .recr, .pmbus, .bus], [(0x12000, 0x12000), (0x12008, 0x12008), (0x16000, 0x1642F)])
  | .forcedSwitch => some ([.clk, .recr, .pmbus, .bus], [(0x12000, 0x12000), (0x12008, 0x12008), (0x16000, 0x1642F)])
  | .switchBack => some ([.time, .pmbus, .bus], [(0x12000, 0x12000), (0x12008, 0x12008), (0x14038, 0x14038)])
  | .holdoverLock => some ([.pmbus, .bus], [(0x12008, 0x12008)])
  | .clockGateClose _ _ => some ([.pmbus, .bus], [])
  | .vselCodeValid _ => some ([.clk, .rails, .pmbus, .bus], [])
  | .pwmSyncEdge _ => some ([.time, .recr, .rails, .pmbus, .bus], [(0x4500, 0x4578), (0x14038, 0x14038), (0x16000, 0x1642F)])
  | .syncLost _ => some ([.time, .recr, .rails, .pmbus, .bus], [(0x4500, 0x4578), (0x14038, 0x14038), (0x16000, 0x1642F)])
  | .refSourceUnready _ => some ([.clk, .recr, .pmbus, .bus], [(0x12000, 0x12000), (0x12008, 0x12008), (0x16000, 0x1642F)])
  | _ => none

/-- The same for rows of the Springtail rings and of one phase or rail. -/
def Instr.ringChanges : Instr → Option (List Part × List (Nat × Nat))
  | .satelliteSupplyUp _ => some ([.st, .pmbus, .bus], [])
  | .droopLevelChange _ _ => some ([.st, .pmbus, .bus], [])
  | .tileClockEdge _ => some ([.st, .pmbus, .bus], [])
  | .ringFrameSend => some ([.st, .pmbus, .bus], [])
  | .headerReceive _ _ => some ([.st, .pmbus, .bus], [])
  | .ringLoss _ => some ([.st, .pmbus, .bus], [])
  | .reportReceived _ _ _ _ => some ([.recr, .st, .pmbus, .bus], [(0x13000, 0x13FF8), (0x16000, 0x1642F)])
  | .frameReturnCheck _ _ _ _ => some ([.recr, .st, .pmbus, .bus], [(0x12208, 0x12208), (0x16000, 0x1642F)])
  | .norepSet _ => some ([.time, .recr, .st, .pmbus, .bus], [(0x13000, 0x13FF8), (0x14038, 0x14038), (0x16000, 0x1642F)])
  | .norepService _ => some ([.time, .recr, .st, .pmbus, .bus], [(0x14018, 0x14018), (0x14038, 0x14038), (0x14080, 0x140B8), (0x16000, 0x1642F)])
  | .tileClockStop _ => some ([.st, .pmbus, .bus], [])
  | .satelliteSupplyLoss _ => some ([.st, .pmbus, .bus], [])
  | .imbServiceTimeout _ => some ([.time, .pmbus, .bus], [(0x14038, 0x14038)])
  | .limitCut _ _ _ => some ([.time, .recr, .rails, .phs, .pmbus, .bus], [(0x4A80, 0x4AF8), (0x8000, 0x82F8), (0x14038, 0x14038), (0x16000, 0x1642F)])
  | .phaseShutdownDelay _ => some ([.time, .rails, .phs, .pmbus, .bus], [(0x8000, 0x82F8), (0x14038, 0x14038)])
  | .hrResetTimeout _ => some ([.time, .pmbus, .bus], [(0x4A80, 0x4AF8), (0x14038, 0x14038)])
  | .graceEnd _ => some ([.time, .rails, .pmbus, .bus], [(0x4A80, 0x4AF8), (0x14038, 0x14038)])
  | .pfaultNLevel _ _ => some ([.pmbus, .bus], [(0x8000, 0x82F8)])
  | _ => none

/-- The same for rows of the demand, thermal and Hedgerow engines, of Firethorn, and for the issue of an order. -/
def Instr.engineChanges : Instr → Option (List Part × List (Nat × Nat))
  | .announcementAccept _ _ _ _ _ _ _ _ => some ([.time, .dm, .pmbus, .bus], [(0x14038, 0x14038)])
  | .entryBlocking _ => some ([.time, .dm, .pmbus, .bus], [(0x14038, 0x14038)])
  | .completionAccept _ _ _ => some ([.time, .dm, .pmbus, .bus], [(0x14038, 0x14038)])
  | .slotBoundary => some ([.time, .dm, .pmbus, .bus], [(0x14038, 0x14038)])
  | .horizonScanResult => some ([.time, .dm, .pmbus, .bus], [(0x4A80, 0x4AF8), (0xA180, 0xA1F8), (0x14038, 0x14038)])
  | .deltaWrite => some ([.dm, .pmbus, .bus], [])
  | .diodeReadingArrival _ => some ([.recr, .th, .pmbus, .bus], [(0xC008, 0xC008), (0xC100, 0xC1F8), (0x16000, 0x1642F)])
  | .thLoadDecodeDone => some ([.th, .pmbus, .bus], [])
  | .chatterWindowClose _ => some ([.time, .recr, .th, .pmbus, .bus], [(0x14038, 0x14038), (0x16000, 0x1642F)])
  | .diodeConversion _ _ _ => some ([.ft, .pmbus, .bus], [(0xC210, 0xC210), (0xC300, 0xC3F8)])
  | .scanEnd => some ([.recr, .ft, .pmbus, .bus], [(0xC208, 0xC208), (0xC210, 0xC210), (0xC300, 0xC3F8), (0x14038, 0x14038), (0x16000, 0x1642F)])
  | .ftPenOverride => some ([.ft, .pmbus, .bus], [])
  | .ftPwmHiz => some ([.ft, .pmbus, .bus], [])
  | .hedgerowFrameSlot _ => some ([.time, .hr, .pmbus, .bus], [(0xE208, 0xE208), (0xE380, 0xE3C0), (0x14038, 0x14038), (0x160C0, 0x160F8)])
  | .hrlUpRise _ => some ([.hr, .pmbus, .bus], [(0xE380, 0xE3C0)])
  | .raisedCapApply => some ([.time, .hr, .pmbus, .bus], [(0xA240, 0xA2B8), (0xA2C0, 0xA2C0), (0x14038, 0x14038)])
  | .holdEnd _ => some ([.time, .recr, .hr, .pmbus, .bus], [(0xE380, 0xE3C0), (0xE480, 0xE4C0), (0x14038, 0x14038), (0x16000, 0x1642F)])
  | .orderIssue _ _ => some ([.time, .recr, .pl, .pmbus, .bus], [(0x14038, 0x14038), (0x16000, 0x1642F)])
  | _ => none

/-- The same for rows of the lock, the check word, timeouts, the recorder, the mirror, dumps and DMA. -/
def Instr.recordChanges : Instr → Option (List Part × List (Nat × Nat))
  | .lockTimeout => some ([.time, .recr, .cfg, .pmbus, .bus], [(0x2008, 0x2008), (0x2050, 0x2050), (0x14038, 0x14038), (0x16000, 0x1642F)])
  | .checkWordRewritten => some ([.time, .cfg, .pmbus, .bus], [(0x2050, 0x2050), (0x14038, 0x14038)])
  | .receiverTimeout _ => some ([.time, .recr, .pmbus, .bus], [(0x1010, 0x13D0), (0x14038, 0x14038), (0x16000, 0x1642F)])
  | .executionTimeout _ => some ([.time, .recr, .mb, .pmbus, .bus], [(0x14018, 0x14018), (0x14038, 0x14038), (0x14080, 0x140B8), (0x16000, 0x1642F)])
  | .mirrorSnapshot => some ([.time, .mir, .dma, .pmbus, .bus], [(0x2028, 0x2028), (0x14038, 0x14038)])
  | .eventRecordWrite => some ([.recr, .pmbus, .bus], [(0x16000, 0x1642F)])
  | .histogramFlush => some ([.time, .recr, .pmbus, .bus], [(0x14038, 0x14038), (0x16000, 0x1642F)])
  | .microsecondTick => some ([.time, .recr, .hr, .pmbus, .bus], [(0x14038, 0x14038), (0x16000, 0x1642F)])
  | .traceDrain _ => some ([.recr, .dma, .pmbus, .bus], [(0x16000, 0x1642F)])
  | .dumpComplete _ => some ([.time, .recr, .dma, .pmbus, .bus], [(0x14038, 0x14038), (0x16000, 0x1642F), (0x16510, 0x16510), (0x16518, 0x16518)])
  | .mirrorSnapshotWritten => some ([.mir, .dma, .pmbus, .bus], [(0x2028, 0x2028)])
  | .dmaErrorResponse _ _ => some ([.time, .recr, .pl, .mir, .dma, .pmbus, .bus], [(0x2018, 0x2018), (0x10010, 0x10010), (0x14038, 0x14038), (0x16000, 0x1642F)])
  | _ => none

/-- The same for register reads, window writes, the SMBus target and the test access port. -/
def Instr.portChanges : Instr → Option (List Part × List (Nat × Nat))
  | .storePageWrite _ _ => some ([.cfg, .hrs, .page, .pmbus, .bus], [])
  | .storeWindowWrite _ _ _ _ _ => some ([.cfg, .hrs, .pmbus, .bus], [(0x160C0, 0x160F8)])
  | .railMeasRead _ _ _ _ => some ([.cfg, .hrs, .pmbus, .bus], [(0x4580, 0x45F8)])
  | .phStatRead _ _ _ _ => some ([.cfg, .hrs, .pmbus, .bus], [(0x8000, 0x82F8)])
  | .hrLstatRead _ _ _ _ => some ([.cfg, .hrs, .pmbus, .bus], [(0xE380, 0xE3C0)])
  | .plTdRead _ _ _ => some ([.cfg, .hrs, .pmbus, .bus], [(0x10030, 0x10030)])
  | .storeEccRead _ _ _ => some ([.cfg, .hrs, .pmbus, .bus], [(0x14050, 0x14050)])
  | .mbxStatRead _ _ _ _ => some ([.mb, .cfg, .hrs, .pmbus, .bus], [(0x1010, 0x13D0)])
  | .mirCtlRead _ _ _ => some ([.cfg, .hrs, .pmbus, .bus], [(0x2028, 0x2028)])
  | .gtimeLoRead _ => some ([.clk, .cfg, .hrs, .pmbus, .bus], [])
  | .page _ _ => some ([.cfg, .smb, .pmbus, .bus], [(0x160C0, 0x160F8)])
  | .clearFaults _ => some ([.cfg, .smb, .pmbus, .bus], [(0x160C0, 0x160F8)])
  | .mfrMbxSel _ _ => some ([.cfg, .smb, .pmbus, .bus], [(0x160C0, 0x160F8)])
  | .smbusUnsupportedCommand _ => some ([.cfg, .smb, .pmbus, .bus], [(0x160C0, 0x160F8)])
  | .capability => some ([.cfg, .smb, .pmbus, .bus], [])
  | .voutMode => some ([.cfg, .smb, .pmbus, .bus], [])
  | .statusByte => some ([.cfg, .smb, .pmbus, .bus], [])
  | .statusWord => some ([.cfg, .smb, .pmbus, .bus], [])
  | .statusVout => some ([.cfg, .smb, .pmbus, .bus], [])
  | .statusIout => some ([.cfg, .smb, .pmbus, .bus], [])
  | .statusInput => some ([.cfg, .smb, .pmbus, .bus], [])
  | .statusTemperature => some ([.cfg, .smb, .pmbus, .bus], [])
  | .statusCml => some ([.cfg, .smb, .pmbus, .bus], [])
  | .readVin => some ([.cfg, .smb, .pmbus, .bus], [])
  | .readVout => some ([.cfg, .smb, .pmbus, .bus], [])
  | .readIout => some ([.cfg, .smb, .pmbus, .bus], [])
  | .readTemperature1 => some ([.cfg, .smb, .pmbus, .bus], [])
  | .readTemperature2 => some ([.cfg, .smb, .pmbus, .bus], [])
  | .readPout => some ([.cfg, .smb, .pmbus, .bus], [])
  | .pmbusRevision => some ([.cfg, .smb, .pmbus, .bus], [])
  | .mfrId => some ([.cfg, .smb, .pmbus, .bus], [])
  | .mfrModel => some ([.cfg, .smb, .pmbus, .bus], [])
  | .mfrRevision => some ([.cfg, .smb, .pmbus, .bus], [])
  | .mfrGovStatus => some ([.cfg, .smb, .pmbus, .bus], [])
  | .mfrServiceCause => some ([.cfg, .smb, .pmbus, .bus], [])
  | .mfrIdent => some ([.cfg, .smb, .pmbus, .bus], [])
  | .mfrEventPeek => some ([.cfg, .smb, .pmbus, .bus], [])
  | .alertResponse => some ([.smb, .pmbus, .bus], [])
  | .smbusClockTimeout _ => some ([.smb, .pmbus, .bus], [])
  | .extest _ => some ([.recr, .tap, .pmbus, .bus], [(0x16000, 0x1642F)])
  | .idcode => some ([.tap, .pmbus, .bus], [])
  | .samplePreload _ _ => some ([.tap, .pmbus, .bus], [])
  | .ftobs => some ([.tap, .pmbus, .bus], [])
  | .bypass => some ([.tap, .pmbus, .bus], [])
  | .tapReset => some ([.tap, .pmbus, .bus], [])
  | _ => none

/-- Opcode, ARG and packet of the row of an opcode. -/
def Instr.packet : Instr → Option (Nat × Nat × Packet)
  | .nop x => some (0x000, x.arg, x)
  | .ident x => some (0x001, x.arg, x)
  | .status x => some (0x002, x.arg, x)
  | .regRead x => some (0x008, x.arg, x)
  | .regWrite x => some (0x009, x.arg, x)
  | .storeRead x _ => some (0x00A, x.arg, x)
  | .storeWrite x _ => some (0x00B, x.arg, x)
  | .cfgOpen x => some (0x010, x.arg, x)
  | .cfgCommit x => some (0x011, x.arg, x)
  | .cfgAbort x => some (0x012, x.arg, x)
  | .lockTake x => some (0x018, 1, x)
  | .lockRelease x => some (0x018, 2, x)
  | .lockForce x => some (0x018, 4, x)
  | .brgStart x => some (0x020, x.arg, x)
  | .brgStop x => some (0x021, x.arg, x)
  | .throttleAll x => some (0x100, x.arg, x)
  | .throttleDie x => some (0x101, x.arg, x)
  | .budQuery x => some (0x110, x.arg, x)
  | .hrEpochNow x => some (0x120, x.arg, x)
  | .hrForget x => some (0x121, x.arg, x)
  | .hrQuery x => some (0x122, x.arg, x)
  | .railQuery x => some (0x200, x.arg, x)
  | .railPhases x => some (0x201, x.arg, x)
  | .railOpen x => some (0x202, x.arg, x)
  | .railCset x => some (0x203, x.arg, x)
  | .sigLoad x => some (0x300, x.arg, x)
  | .sigUnload x => some (0x301, x.arg, x)
  | .sigQuery x => some (0x302, x.arg, x)
  | .ctxOpen x => some (0x310, x.arg, x)
  | .ctxRevoke x => some (0x311, x.arg, x)
  | .ctxClose x => some (0x312, x.arg, x)
  | .ctxQuery x => some (0x313, x.arg, x)
  | .annCancel x => some (0x320, x.arg, x)
  | .reqReset x => some (0x321, x.arg, x)
  | .reqEnable x => some (0x322, x.arg, x)
  | .grantQuery x => some (0x330, x.arg, x)
  | .dmdQuery x => some (0x331, x.arg, x)
  | .thLoad x => some (0x400, x.arg, x)
  | .thBound x => some (0x401, x.arg, x)
  | .thQuery x => some (0x402, x.arg, x)
  | .thHot x => some (0x403, x.arg, x)
  | .ftQuery x => some (0x410, x.arg, x)
  | .plStep x => some (0x500, x.arg, x)
  | .plCtxPolicy x => some (0x501, x.arg, x)
  | .plSeqFind x => some (0x502, x.arg, x)
  | .plQuery x => some (0x503, x.arg, x)
  | .rcvContext x => some (0x600, x.arg, x)
  | .rcvEngine x => some (0x601, x.arg, x)
  | .rcvPartition x => some (0x602, x.arg, x)
  | .rcvChip x => some (0x603, x.arg, x)
  | .rcvPwrcyc x => some (0x604, x.arg, x)
  | .recMark x => some (0x700, x.arg, x)
  | .recPeek x => some (0x701, x.arg, x)
  | .cntClear x => some (0x702, x.arg, x)
  | .traceCtl x => some (0x710, x.arg, x)
  | .dumpState x => some (0x720, 0, x)
  | .dumpSequence x => some (0x720, 1, x)
  | .svcQuery x => some (0x740, x.arg, x)
  | .dwQuery x => some (0x741, x.arg, x)
  | .calProbe x => some (0x800, x.arg, x)
  | .storeBank x => some (0x801, testArg 1 x.arg, x)
  | .loopDp x => some (0x801, testArg 2 x.arg, x)
  | .thermDp x => some (0x801, testArg 3 x.arg, x)
  | .stRing x => some (0x801, testArg 4 x.arg, x)
  | .sliceAdc x => some (0x801, testArg 5 x.arg, x)
  | .ftScan x => some (0x801, testArg 6 x.arg, x)
  | _ => none

/-- Rows that may change raw store bytes: the resets, the commands and accesses that reach the store, and the end of a
bank's copy. -/
def Instr.reachesBytes : Instr → Bool
  | .alwaysOnSupplyLoss _ _ _ => true
  | .govPorstNAssert _ => true
  | .commandTake _ _ => true
  | .storeRead _ _ => true
  | .storeWrite _ _ => true
  | .bankCopyDone _ => true
  | .storeWindowWrite _ _ _ _ _ => true
  | .storeWindowRead _ _ _ _ _ _ => true
  | .regacc _ _ _ _ _ => true
  | _ => false

/-- Queries: rows whose opcode answers registers and changes none. -/
def Instr.isQuery : Instr → Bool
  | .nop _ => true
  | .ident _ => true
  | .status _ => true
  | .budQuery _ => true
  | .dmdQuery _ => true
  | .thHot _ => true
  | .svcQuery _ => true
  | _ => false

end Sys2Proof
end

