-- ==== Sys2Proof/Certificates/Slice0/Obligations.lean ====
section
/-! DEFINITION. The statements for the provers, by family of commands. Each completion statement concludes that exec
answers a next state and what it holds; the frames say what stays; the invariants hold of every step. -/

open Sys2Proof Sys2Proof.Machine

/-! ## Supplies, reset, the Clock and Store stages -/

/-- R31, R32, R494: the always-on supplies rise with every register at its reset value and GOV_PORST_N asserted; their
loss, and a reset pulse of 5 ns or more, clear the raw store bytes; a reset pulse leaves Firethorn, but for a read of its
configuration shadow that waits for the second (log 93), and every always-on register as they were, STORE_MAP of a bank
under copy apart (log 16), and every other register at its reset value. -/
def Obligations.SuppliesAndReset : Prop :=
  (∀ s : State, s.gov.aon = false →
    ∃ t, exec .alwaysOnPowerUp s = .next t ∧ t.gov.aon = true ∧ t.gov.porst = true ∧ t.gov.gclk = false
      ∧ t.gov.cold = true ∧ (∀ f, t.gov.rd f = f.rst) ∧ t.mem = s.mem)
  ∧ (∀ (s : State) (vdd vdda ns : Nat), s.gov.aon = true → (vdd < 600 ∨ vdda < 1500) → 1000 ≤ ns →
    ∃ t, exec (.alwaysOnSupplyLoss vdd vdda ns) s = .next t ∧ t.gov.aon = false ∧ (∀ f, t.gov.rd f = f.rst)
      ∧ t.mem = [])
  ∧ (∀ (s : State) (ns : Nat), s.gov.aon = true → s.gov.porst = false → 5 ≤ ns →
    ∃ t, exec (.govPorstNAssert ns) s = .next t ∧ t.gov.porst = true ∧ t.gov.gclk = false ∧ t.gov.gtime = 0
      ∧ t.gov.cold = false ∧ t.gov.ft = { s.gov.ft with shadow := none } ∧ t.mem = []
      ∧ (∀ f, keyAlwaysOn f.key = false → t.gov.rd f = f.rst)
      ∧ (s.gov.store.copying = none → s.gov.store.waits = [] → ∀ f, keyAlwaysOn f.key = true → t.gov.rd f = s.gov.rd f)
      ∧ (∀ f, keyAlwaysOn f.key = true → (∀ k, f.key ≠ (F.STORE_MAP_PHYS k).key ∧ f.key ≠ (F.STORE_MAP_COPY k).key
          ∧ f.key ≠ (F.STORE_MAP_FUNC k).key) → t.gov.rd f = s.gov.rd f))

/-- R81, R88, R94, R102: releasing reset counts RSTCNT and holds the GPLL for the XO's start; its end releases the GPLL; the
first lock starts GTIME at 0 and begins the Store stage. R76: two captures of the fuse identity that agree with even parity
are the identity and make it valid; captures that do not, and a timeout, mark it invalid. -/
def Obligations.ClockAndFuses : Prop :=
  (∀ (s : State) (root : Bool), s.gov.aon = true → s.gov.porst = true →
    ∃ t, exec (.govPorstNDeassert root) s = .next t ∧ t.gov.porst = false ∧ t.gov.clk.xoWait = true
      ∧ t.gov.clk.hrRoot = root ∧ t.gov.rd F.GOV_STAT_RSTCNT = (s.gov.rd F.GOV_STAT_RSTCNT + 1) % 2 ^ 16)
  ∧ (∀ s : State, s.gov.aon = true → s.gov.porst = false → s.gov.gclk = false →
    ∃ t, exec .xoStartDelayEnd s = .next t ∧ t.gov.clk.xoWait = false ∧ t.gov.gclk = false)
  ∧ (∀ s : State, s.build.ok = true → s.gov.aon = true → s.gov.porst = false → s.gov.gclk = false →
      s.gov.clk.xoWait = false →
    ∃ t, exec .gpllLock s = .next t ∧ t.gov.gclk = true ∧ t.gov.gtime = 0 ∧ t.gov.stage = sSTORE
      ∧ t.gov.rd F.REF_STAT_LOCK = 1)
  ∧ (∀ (s : State) (id1 id2 : Nat) (par : Bool), s.gov.aon = true → s.gov.porst = false → s.gov.brg.fuseDone = false →
    ∃ t, exec (.fuseCapture id1 id2 par) s = .next t ∧ t.gov.brg.fuseDone = true
      ∧ t.gov.rd F.HOST_POS_FSTAT
          = (if id1 % 2 ^ 77 = id2 % 2 ^ 77 ∧ (popCount 77 (id1 % 2 ^ 77) + b2n par) % 2 = 0 then 1 else 2)
      ∧ (id1 % 2 ^ 77 = id2 % 2 ^ 77 → (popCount 77 (id1 % 2 ^ 77) + b2n par) % 2 = 0 →
          t.gov.rd F.HOST_LOT_LOT = id1 % 2 ^ 56 ∧ t.gov.rd F.HOST_POS_WAFER = bits id1 56 5
          ∧ t.gov.rd F.HOST_POS_X = bits id1 61 8 ∧ t.gov.rd F.HOST_POS_Y = bits id1 69 8))
  ∧ (∀ s : State, s.gov.aon = true → s.gov.porst = false → s.gov.brg.fuseDone = false →
    ∃ t, exec .fuseVldTimeout s = .next t ∧ t.gov.brg.fuseDone = true ∧ t.gov.rd F.HOST_POS_FSTAT = 2)

/-- R104, R453, R103: when clearing ends, REC_START becomes record 0; when the Store stage ends, the Discover stage
begins and CFG_RETAINED says whether a warm start found the configuration. -/
def Obligations.StoreStage : Prop :=
  (∀ s : State, s.gov.live = true → s.gov.stage = sSTORE → s.gov.recr.started = false →
      s.gov.rd F.REC_HEAD_NEXT = 0 → s.gov.rd F.REC_HEAD_SLOTS ≠ 0 → s.gov.dark 36 = false →
    ∃ t, exec (.recStartWrite []) s = .next t ∧ t.gov.recr.started = true ∧ t.gov.rd F.REC_HEAD_NEXT = 1
      ∧ (∃ e : Evt, t.gov.recordOf 0 = some { valid := true, seq := 0, evt := e } ∧ e.code = 0x0004
          ∧ e.p0 = s.gov.rd F.GOV_STAT_RSTCNT ∧ e.p1 = b2n s.gov.cold))
  ∧ (∀ (s : State) (bad : List Nat), s.gov.live = true → s.gov.stage = sSTORE → s.gov.recr.started = false →
    ∃ t, exec (.recStartWrite bad) s = .next t ∧ t.gov.recr.started = true
      ∧ t.gov.gtime = max s.gov.gtime 98304 ∧ t.mem = s.mem)
  ∧ (∀ (s : State) (bad : List Nat), s.build.ok = true → s.gov.live = true → s.gov.stage = sSTORE →
      s.gov.recr.started = true →
    ∃ t, exec (.storeInitDone bad) s = .next t ∧ t.gov.stage = sDISCOVER ∧ t.gov.kept = none
      ∧ t.gov.rd F.BRG_STAT_CFG_RETAINED = b2n (s.gov.kept.isSome && !s.gov.cold))
/-! ## Bring-up and power-down -/

/-- R105, R107, R101, R109: identification, once, stores and classifies the voltage of every phase whose slice measures;
the sense-line check finds a line open where the second mean exceeds the first by more than 20 mV; discovery ends in Wait-cfg, or with AUTO and a
retained configuration that passes START's validation, in Seq-up. -/
def Obligations.Discovery : Prop :=
  (∀ (s : State) (sums : List Nat), s.gov.live = true → s.gov.stage = sDISCOVER → s.gov.brg.idDone = false →
    ∃ t, exec (.identificationDone sums) s = .next t ∧ t.gov.brg.idDone = true
      ∧ ∀ p < s.build.phases, sliceLost s.build s.gov p = false → t.gov.rd (F.PH_ID_ID_V p) = idVolt (sums.getD p 0)
          ∧ t.gov.rd (F.PH_ID_RESULT p) = (classifyId (idVolt (sums.getD p 0))).1
          ∧ t.gov.rd (F.PH_ID_CODE p) = (classifyId (idVolt (sums.getD p 0))).2)
  ∧ (∀ (s : State) (n s1 s2 : Nat), s.gov.live = true → n < s.build.rails → s.gov.stage = sDISCOVER →
    ∃ t, exec (.senseLineCheckDone n s1 s2) s = .next t
      ∧ (t.gov.rail n).senseBad = ((s.gov.rail n).sliceFail || decide (s1 + 640 < s2))
      ∧ (t.gov.rail n).vpre = (if 1600 < s1 then (2 * s1 + 16) / 32 else 0))
  ∧ (∀ s : State, s.gov.live = true → s.gov.stage = sDISCOVER → s.gov.brg.idDone = true →
      (s.gov.flag F.BRG_CTL_AUTO && s.gov.flag F.BRG_STAT_CFG_RETAINED) = false →
    ∃ t, exec .discoverComplete s = .next t ∧ t.gov.stage = sWAITCFG)
  ∧ (∀ s : State, s.gov.live = true → s.gov.stage = sDISCOVER → s.gov.brg.idDone = true →
      s.gov.flag F.BRG_CTL_AUTO = true → s.gov.flag F.BRG_STAT_CFG_RETAINED = true →
      s.gov.flag F.FT_STAT_TRIPPED = false → s.gov.flag F.FT_STAT_LATCHED = false →
      startCheck s.build s.gov = none →
    ∃ t, exec .discoverComplete s = .next t ∧ t.gov.stage = sSEQUP ∧ t.gov.brg.startAt = some s.gov.gtime)

/-- R109: a START write in Wait-cfg or Off, of a configuration that passes validation while Firethorn is neither tripped
nor latched, enters Seq-up. R125: a STOP write in Ready with nothing outstanding lowers GOV_READY and leaves Ready. -/
def Obligations.StartAndStop : Prop :=
  (∀ (s : State) (port : Nat), s.gov.live = true → (s.gov.stage = sWAITCFG ∨ s.gov.stage = sOFF) →
      s.gov.flag F.FT_STAT_TRIPPED = false → s.gov.flag F.FT_STAT_LATCHED = false →
      startCheck s.build s.gov = none →
    ∃ t, exec (.brgCtlStart port) s = .next t ∧ t.gov.stage = sSEQUP ∧ t.gov.brg.startAt = some s.gov.gtime)
  ∧ (∀ (s : State) (port : Nat), s.gov.live = true → s.gov.stage = sREADY →
      (∀ e ∈ s.gov.probes, e.2.inPulse = false) →
    ∃ t, exec (.brgCtlStop port) s = .next t ∧ t.gov.brg.govReady = false ∧ t.gov.brg.group = none
      ∧ t.gov.brg.wasReady = true)

/-- R108, R110, R206: a conversion of VIN in its window is stored and keeps the time since which VIN has been in; 1 ms
of it lets START go on; without it VIN_TO ends in Off with ERR = VIN; from Ready, VIN out of its window for VIN_DWELL
lowers GOV_READY. -/
def Obligations.VinRules : Prop :=
  (∀ (s : State) (nV : Int), s.gov.live = true → s.gov.quiet → sDISCOVER ≤ s.gov.stage →
      (s.gov.rail 0).sliceFail = false → s.gov.vinInWindow (vinCode nV) = true →
      s.gov.rd F.VIN_PROT_VIN_UVLO ≤ vinCode nV →
    ∃ t, exec (.vinConversion nV) s = .next t ∧ t.gov.rd F.VIN_PROT_VIN = vinCode nV
      ∧ t.gov.brg.vinIn = some (s.gov.brg.vinIn.getD s.gov.gtime) ∧ t.gov.brg.vinOutSince = none
      ∧ t.gov.brg.uvloCnt = 0 ∧ t.gov.stage = s.gov.stage)
  ∧ (∀ (s : State) (t0 : Nat), s.gov.live = true → s.gov.brg.vinIn = some t0 →
    ∃ t, exec .vinWindowSettled s = .next t ∧ t.gov.brg.vinSettled = true
      ∧ t.gov.brg.vinOk = (s.gov.brg.vinOk || s.gov.brg.startAt.isSome)
      ∧ t.gov.gtime = max s.gov.gtime (t0 + 1000000))
  ∧ (∀ (s : State) (t0 : Nat), s.gov.live = true → s.gov.quiet → s.gov.brg.startAt = some t0 →
      s.gov.stage = sSEQUP → s.gov.brg.vinOk = false → s.gov.rd F.BRG_TIME_VIN_TO ≠ 0 →
    ∃ t, exec .vinToExpiry s = .next t ∧ t.gov.stage = sOFF ∧ t.gov.rd F.BRG_STAT_ERR = 2
      ∧ t.gov.brg.startAt = none)
  ∧ (∀ (s : State) (t0 : Nat), s.gov.live = true → s.gov.brg.vinOutSince = some t0 →
      s.gov.stage = sREADY →
    ∃ t, exec .vinWindowFault s = .next t ∧ t.gov.brg.govReady = false ∧ t.gov.brg.group = none
      ∧ t.gov.brg.wasReady = true)

/-- R112, R113, R115, R116: a group starts with each rail's DLY; a rail's DLY ends in its start in RAMP; 2 µs at mid
level end in switching; a rail not good within PG_TO of the end of the ramp it follows comes down. -/
def Obligations.SequencingUp : Prop :=
  (∀ (s : State) (q : Nat), s.build.ok = true → s.gov.live = true → s.gov.stage = sSEQUP → s.gov.brg.vinOk = true →
      startedGood s.build s.gov = true → nextGroup s.build s.gov s.gov.brg.group = some q →
      (groupRails s.build s.gov q).all (fun n => (s.gov.rail n).senseDone) = true →
      (∀ n ∈ groupRails s.build s.gov q, s.gov.tracking n = true ∨ s.gov.rd (F.RAIL_SEQ_DLY n) ≠ 0) →
    ∃ t, exec .groupStart s = .next t ∧ t.gov.brg.group = some q
      ∧ ∀ n ∈ groupRails s.build s.gov q, s.gov.tracking n = false →
          (t.gov.rail n).dlyAt = some (s.gov.gtime + 1000 * s.gov.rd (F.RAIL_SEQ_DLY n)))
  ∧ (∀ (s : State) (n t0 : Nat), s.build.ok = true → s.gov.live = true → s.gov.stage = sSEQUP → n < s.build.rails →
      (s.gov.rail n).dlyAt = some t0 → s.gov.nU n ≠ 0 → (s.gov.rail n).sliceFail = false →
      (∀ m ∈ enabledRails s.build s.gov, s.gov.tracking m = true → s.gov.rd (F.RAIL_SEQ_SRC m) ≠ n) →
    ∃ t, exec (.railDlyExpiry n) s = .next t ∧ (t.gov.rail n).started = true ∧ (t.gov.rail n).dlyAt = none
      ∧ t.gov.mode n = mRAMP ∧ (t.gov.rail n).midAt = some (max s.gov.gtime t0))
  ∧ (∀ (s : State) (n t0 : Nat), s.gov.live = true → n < s.build.rails → (s.gov.rail n).midAt = some t0 →
    ∃ t, exec (.penMidLevelEnd n) s = .next t ∧ (t.gov.rail n).switching = true ∧ (t.gov.rail n).midAt = none
      ∧ t.gov.gtime = max s.gov.gtime (t0 + 2000))
  ∧ (∀ (s : State) (n t0 : Nat), s.gov.live = true → s.gov.stage = sSEQUP → n < s.build.rails →
      s.gov.rampEnds n = some t0 → (s.gov.rail n).good = false → (s.gov.rail n).retry = false →
      s.gov.rd (F.RAIL_SEQ_EN n) = 1 → s.gov.mode n ≠ mFAULT →
    ∃ t, exec (.pgTimeoutExpiry n) s = .next t ∧ (t.gov.rail n).started = false ∧ (t.gov.rail n).switching = false
      ∧ t.gov.brg.group = none ∧ t.gov.gtime = max s.gov.gtime (t0 + 1000 * s.gov.rd (F.RAIL_SEQ_PG_TO n)))

/-- R119, R121: a probe repetition opens the loop after measuring V0 and I0, with D0 plus or minus PROBE_DD by turns and
the opposite for the second half of the pulse; its pulse's end counts the repetition and closes the loop with D0; after
eight the rail's probe is over. -/
def Obligations.ProbeSequence : Prop :=
  (∀ (s : State) (n : Nat) (v0 i0 : Int) (p : Probe), s.gov.live = true → n < s.build.rails →
      mfind s.gov.probes n = some p → p.inPulse = false → p.reps < 8 → s.gov.mode n = mCLOSED →
      (s.gov.rail n).hold = false →
    ∃ t p', exec (.probeRepetitionStart n v0 i0) s = .next t ∧ mfind t.gov.probes n = some p' ∧ p'.inPulse = true
      ∧ p'.v0 = v0 ∧ p'.i0 = i0 ∧ p'.d0 = s.gov.rd (F.RAIL_STAT_DUTY n) ∧ p'.tp = t.gov.gtime
      ∧ p'.reps = p.reps ∧ t.gov.mode n = mOPEN
      ∧ t.gov.rd (F.RAIL_STAT_DUTY n) = (clampI 0 65535 ((p'.d0 : Int)
          + (if p.reps % 2 = 0 then 1 else -1) * s.gov.rd (F.RAIL_PLAUS_PROBE_DD n))).toNat
      ∧ p'.d2 = (clampI 0 65535 ((p'.d0 : Int)
          - (if p.reps % 2 = 0 then 1 else -1) * s.gov.rd (F.RAIL_PLAUS_PROBE_DD n))).toNat
      ∧ t.gov.gtime = max s.gov.gtime (p.t0 + 128000 * p.reps))
  ∧ (∀ (s : State) (n : Nat) (samples : List (Int × Int)) (p : Probe), s.gov.live = true →
      ({ s.gov with probes := [] } : Gov).quiet → (∀ e ∈ s.gov.probes, e.2.cal = true → s.gov.railIdle e.1 = false) →
      mfind s.gov.probes n = some p → p.inPulse = true → p.stopPend = false → s.gov.mode n = mOPEN →
    ∃ t p', exec (.probePulseEnd n samples) s = .next t ∧ mfind t.gov.probes n = some p' ∧ p'.inPulse = false
      ∧ p'.reps = p.reps + 1 ∧ p'.kept + p'.aborts = p.kept + p.aborts + 1
      ∧ (t.gov.rail n).close = some (p.d0 : Int))
  ∧ (∀ (s : State) (n : Nat) (p : Probe), s.gov.live = true → mfind s.gov.probes n = some p → p.inPulse = false →
      p.reps = 8 → p.cal = false →
    ∃ t, exec (.probeComplete n) s = .next t ∧ (t.gov.rail n).probed = true
      ∧ t.gov.gtime = max s.gov.gtime (p.t0 + 1024000))

/-- R122, R123: HR_WAIT's end lets an unaligned device go on; Ready writes the tile enables, and after the satellites'
wait the hubs open and GOV_READY rises. -/
def Obligations.LinksToReady : Prop :=
  (∀ s : State, s.gov.live = true → s.gov.stage = sLINKS → s.gov.flag F.GTIME_STAT_ALIGNED = false →
      s.gov.flag F.BRG_STAT_UNALIGNED = false →
    ∃ t, exec .hrWaitExpiry s = .next t ∧ t.gov.rd F.BRG_STAT_UNALIGNED = 1
      ∧ t.gov.gtime = max s.gov.gtime (s.gov.brg.linksAt + 1000000 * s.gov.rd F.BRG_TIME_HR_WAIT))
  ∧ (∀ s : State, s.gov.live = true → s.gov.stage = sLINKS →
      (s.gov.flag F.GTIME_STAT_ALIGNED = true ∨ s.gov.flag F.BRG_STAT_UNALIGNED = true) →
    ∃ t, exec .readyEntry s = .next t ∧ t.gov.stage = sREADY ∧ t.gov.brg.readyWait = some s.gov.gtime
      ∧ t.gov.brg.everReady = true)
  ∧ (∀ (s : State) (t0 : Nat), s.gov.live = true → s.gov.stage = sREADY → s.gov.brg.readyWait = some t0 →
    ∃ t, exec .satelliteEnableWaitEnd s = .next t ∧ t.gov.brg.govReady = true ∧ t.gov.brg.readyWait = none
      ∧ t.gov.dm.isOpen = true)

/-- R125: the drain ends with the last grant or PD_DRAIN µs after it began: what is still outstanding is discarded, every
ENMASK bit is cleared and the rails come down; a rail coming down is off, its PENs low, at a sample below 50 mV or 1 ms
after the end of the ramp it follows. -/
def Obligations.PowerDown : Prop :=
  (∀ (s : State) (t0 : Nat), s.build.ok = true → s.gov.live = true → s.gov.quiet → s.gov.stage = sSEQDOWN → s.gov.brg.drainAt = some t0 →
      (∀ n, (s.gov.rail n).commitAt = none) →
    ∃ t, exec .pdDrainExpiry s = .next t ∧ t.gov.brg.drainAt = none
      ∧ t.gov.gtime = (if s.gov.grantsOut = 0 then s.gov.gtime
          else max s.gov.gtime (t0 + 1000 * s.gov.rd F.BRG_TIME_PD_DRAIN))
      ∧ (∀ h, (t.gov.grant h).st ≠ 2) ∧ (∀ d < s.build.dies, t.gov.enmask d = 0)
      ∧ (t.gov.stage = sSEQDOWN ∨ t.gov.stage = sOFF)
      ∧ (∀ n < s.build.rails, t.gov.mode n = mOFF ∨ t.gov.mode n = mDOWN ∨ t.gov.mode n = s.gov.mode n))
  ∧ (∀ (s : State) (n : Nat) (nV : Int), s.build.ok = true → s.gov.live = true → s.gov.quiet → n < s.build.rails → s.gov.mode n = mDOWN →
      (∀ m, (s.gov.rail m).commitAt = none) → voltCode nV < 100 → (s.gov.rail n).sliceFail = false →
    ∃ t, exec (.railOff n nV) s = .next t ∧ t.gov.mode n = mOFF ∧ (t.gov.rail n).started = false
      ∧ (t.gov.rail n).switching = false ∧ t.gov.rd (F.RAIL_STAT_DUTY n) = 0
      ∧ (∀ p ∈ (s.gov.rail n).block, (t.gov.ph p).pen = false) ∧ t.gov.gtime = s.gov.gtime)
  ∧ (∀ (s : State) (n t0 : Nat) (nV : Int), s.build.ok = true → s.gov.live = true → s.gov.quiet → n < s.build.rails → s.gov.mode n = mDOWN →
      (∀ m, (s.gov.rail m).commitAt = none) → (100 ≤ voltCode nV ∨ (s.gov.rail n).sliceFail = true) →
      s.gov.downEnd n = some t0 →
    ∃ t, exec (.railOff n nV) s = .next t ∧ t.gov.mode n = mOFF ∧ (t.gov.rail n).started = false
      ∧ (t.gov.rail n).switching = false ∧ t.gov.rd (F.RAIL_STAT_DUTY n) = 0
      ∧ (∀ p ∈ (s.gov.rail n).block, (t.gov.ph p).pen = false) ∧ t.gov.gtime = max s.gov.gtime (t0 + 1000000))
/-! ## References, clocks and time -/

/-- R82, R83, R86, R87: a source that completes its good cycles is ready from then on, the XO not before its start delay has
elapsed since it was last not ready; a source other than the current one
that stops is no longer ready; the loss of the current one is holdover, recorded in LOST, and AUTO then switches to
HR_RCK[PREF] where that is ready. -/
def Obligations.ReferenceSources : Prop :=
  (∀ (s : State) (j : Nat), s.gov.live = true → j < 5 → s.gov.refReady j = false →
    ∃ t, exec (.refSourceReady j) s = .next t ∧ t.gov.refReady j = true
      ∧ t.gov.gtime = (match (if j = 4 then s.gov.clk.xoDownAt else none) with
          | none => s.gov.gtime
          | some u => max s.gov.gtime (u + xoNs (xoDelayCycles (s.gov.rd F.XO_CTL_XO_DLY))))
      ∧ mget 0 t.gov.clk.readySince j = t.gov.gtime ∧ (∀ i < 5, i ≠ j → t.gov.refReady i = s.gov.refReady i))
  ∧ (∀ (s : State) (j : Nat), s.gov.live = true → j < 5 → s.gov.refReady j = true → j ≠ s.gov.rd F.REF_STAT_CUR →
    ∃ t, exec (.refSourceUnready j) s = .next t ∧ t.gov.refReady j = false
      ∧ t.gov.rd F.REF_STAT_CUR = s.gov.rd F.REF_STAT_CUR ∧ t.gov.rd F.REF_STAT_HOLDOVER = s.gov.rd F.REF_STAT_HOLDOVER)
  ∧ (∀ s : State, s.gov.live = true → s.gov.rd F.REF_STAT_CUR < 5 → s.gov.refReady (s.gov.rd F.REF_STAT_CUR) = true →
    ∃ t, exec .referenceLost s = .next t ∧ t.gov.rd F.REF_STAT_HOLDOVER = 1 ∧ t.gov.rd F.REF_STAT_LOST = 1
      ∧ t.gov.refReady (s.gov.rd F.REF_STAT_CUR) = false
      ∧ (s.gov.flag F.REFSEL_AUTO = true → s.gov.flag F.REF_STAT_SWITCHING = false → s.gov.rd F.REFSEL_PREF < 4 →
          s.gov.refReady (s.gov.rd F.REFSEL_PREF) = true → s.gov.rd F.REFSEL_PREF ≠ s.gov.rd F.REF_STAT_CUR →
          t.gov.rd F.REFSEL_SRC = s.gov.rd F.REFSEL_PREF ∧ t.gov.rd F.REF_STAT_SWITCHING = 1)
      ∧ (s.gov.flag F.REFSEL_AUTO = false → t.gov.rd F.REFSEL_SRC = s.gov.rd F.REFSEL_SRC))

/-- R84, R85, R86, R87: a write of REFSEL that names a ready source with AUTO clear starts a switch; the switch makes
SRC the current source, a forced one sets FORCED as well; AUTO switches back to the preferred source after 100 ms; the
lock to the source of a switch completed since the loss ends holdover, and nothing else does. Any other write of REFSEL is
refused. -/
def Obligations.ReferenceSwitch : Prop :=
  (∀ (s : State) (port w : Nat), s.gov.live = true → s.gov.flag F.REFSEL_AUTO = false → bits w 0 3 < 5 → s.gov.refReady (bits w 0 3) = true →
      s.gov.flag F.REF_STAT_SWITCHING = false →
    ∃ t, exec (.refselWrite port w) s = .next t ∧ t.gov.rd F.REFSEL_SRC = bits w 0 3
      ∧ t.gov.rd F.REFSEL_AUTO = bits w 3 1 ∧ t.gov.rd F.REFSEL_PREF = bits w 4 2
      ∧ t.gov.rd F.REF_STAT_SWITCHING = 1 ∧ t.gov.rd F.REF_STAT_CUR = s.gov.rd F.REF_STAT_CUR)
  ∧ (∀ (s : State) (port w : Nat), s.gov.live = true →
      s.gov.refReady (bits w 0 3) = false ∨ s.gov.flag F.REFSEL_AUTO = true ∨ 5 ≤ bits w 0 3
        ∨ s.gov.flag F.REF_STAT_SWITCHING = true →
    ∃ t, exec (.refselWrite port w) s = .next t ∧ t.gov.rd F.REF_STAT_REFUSED = 1
      ∧ t.gov.rd F.REFSEL_SRC = s.gov.rd F.REFSEL_SRC ∧ t.gov.rd F.REFSEL_AUTO = s.gov.rd F.REFSEL_AUTO
      ∧ t.gov.rd F.REF_STAT_SWITCHING = s.gov.rd F.REF_STAT_SWITCHING)
  ∧ (∀ s : State, s.gov.live = true → s.gov.flag F.REF_STAT_SWITCHING = true → s.gov.rd F.REFSEL_SRC < 5 →
      s.gov.refReady (s.gov.rd F.REFSEL_SRC) = true →
    ∃ t, exec .refSwitchComplete s = .next t ∧ t.gov.rd F.REF_STAT_CUR = s.gov.rd F.REFSEL_SRC
      ∧ t.gov.rd F.REF_STAT_SWITCHING = 0 ∧ t.gov.rd F.REF_STAT_FORCED = s.gov.rd F.REF_STAT_FORCED)
  ∧ (∀ s : State, s.gov.live = true → s.gov.flag F.REF_STAT_SWITCHING = true → s.gov.rd F.REFSEL_SRC < 5 →
      s.gov.refReady (s.gov.rd F.REFSEL_SRC) = true →
    ∃ t, exec .forcedSwitch s = .next t ∧ t.gov.rd F.REF_STAT_CUR = s.gov.rd F.REFSEL_SRC
      ∧ t.gov.rd F.REF_STAT_SWITCHING = 0 ∧ t.gov.rd F.REF_STAT_FORCED = 1)
  ∧ (∀ s : State, s.gov.live = true → s.gov.flag F.REFSEL_AUTO = true → s.gov.rd F.REFSEL_PREF < 4 →
      s.gov.refReady (s.gov.rd F.REFSEL_PREF) = true → s.gov.rd F.REFSEL_PREF ≠ s.gov.rd F.REF_STAT_CUR →
      s.gov.flag F.REF_STAT_SWITCHING = false →
    ∃ t, exec .switchBack s = .next t ∧ t.gov.rd F.REFSEL_SRC = s.gov.rd F.REFSEL_PREF
      ∧ t.gov.rd F.REF_STAT_SWITCHING = 1
      ∧ t.gov.gtime = max s.gov.gtime (mget 0 s.gov.clk.readySince (s.gov.rd F.REFSEL_PREF) + 100000000))
  ∧ (∀ s : State, s.gov.live = true → s.gov.flag F.REF_STAT_HOLDOVER = true → s.gov.flag F.REF_STAT_SWITCHING = false →
      s.gov.refReady (s.gov.rd F.REF_STAT_CUR) = true → s.gov.clk.switched = true →
    ∃ t, exec .holdoverLock s = .next t ∧ t.gov.rd F.REF_STAT_HOLDOVER = 0
      ∧ t.gov.rd F.REF_STAT_LOST = s.gov.rd F.REF_STAT_LOST)
  ∧ (∀ s : State, s.gov.clk.switched = false →
    ∃ t, exec .holdoverLock s = .next t ∧ t.gov.rd F.REF_STAT_HOLDOVER = s.gov.rd F.REF_STAT_HOLDOVER)

/-- R91, R93, R97, R69, R174, R175: an idle block's gate closes; GOV_CLKOUT takes the new setting where its source runs;
a 32-bit read of GTIME_LO answers bits 31:0 and latches bits 63:32 for the port; VSEL's code is taken; a PWM_SYNC edge
within 5 % of the expected interval counts, another starts the count again; a lost sync clears SYNC_LOCK, sets SYNC_LOST
and slews the period back over 64 periods. -/
def Obligations.ClocksAndSync : Prop :=
  (∀ (s : State) (k : Nat), s.gov.live = true → k < 12 → bit (s.gov.rd F.CLKGATE_CTL_DIS) k = false →
      s.gov.hasWork k = false →
    ∃ t, exec (.clockGateClose k false) s = .next t ∧ bit t.gov.bus.gates k = true)
  ∧ (∀ (s : State) (port w : Nat) (newRuns : Bool), s.gov.live = true →
    ∃ t, exec (.clkoutCtlWrite port w newRuns) s = .next t ∧ t.gov.rd F.CLKOUT_CTL_SRC = bits w 0 4
      ∧ t.gov.rd F.CLKOUT_CTL_SLICE = bits w 4 4 ∧ t.gov.rd F.CLKOUT_CTL_DIV = bits w 8 8
      ∧ t.gov.rd F.CLKOUT_CTL_EN = bits w 16 1
      ∧ t.gov.clk.clkout = (if newRuns = true ∧ bit w 16 = true ∧ bits w 0 4 < 12 then
          some (bits w 0 4, bits w 4 4, bits w 8 8 + 1) else none))
  ∧ (∀ (s : State) (port : Nat), s.gov.live = true →
    ∃ t, exec (.gtimeLoRead port) s = .next t ∧ mget {} t.gov.io.hrs port = { data := s.gov.gtime % 2 ^ 32 }
      ∧ mget 0 t.gov.clk.hiLatch port = bits s.gov.gtime 32 32
      ∧ (∀ p ≠ port, mget 0 t.gov.clk.hiLatch p = mget 0 s.gov.clk.hiLatch p) ∧ t.gov.gtime = s.gov.gtime)
  ∧ (∀ (s : State) (code : Nat), s.gov.live = true →
    ∃ t, exec (.vselCodeValid code) s = .next t ∧ t.gov.clk.vsel = code % 8
      ∧ ∀ n < s.build.rails, s.gov.stage = sREADY → s.gov.running n = true →
          (s.gov.rail n).vset < s.gov.rd (F.RAIL_OPT_VSET n (code % 8)) → (s.gov.rail n).vchg = none →
          (t.gov.rail n).vchg
            = some { opt := code % 8, v := s.gov.rd (F.RAIL_OPT_VSET n (code % 8)), atT := s.gov.gtime })
  ∧ (∀ (s : State) (ns n : Nat), s.build.ok = true → s.gov.live = true → n < s.build.rails →
      s.gov.flag (F.RAIL_CTL_SYNC_EN n) = true → (s.gov.rail n).started = true → 0 < (s.gov.rail n).per →
    ∃ t, exec (.pwmSyncEdge ns) s = .next t ∧ t.gov.gtime = s.gov.gtime + ns
      ∧ (t.gov.rail n).syncEdge = some (s.gov.gtime + ns)
      ∧ (t.gov.rail n).syncGood = (match (s.gov.rail n).syncEdge with
          | none => 0
          | some t0 =>
            if 95 * (s.gov.rail n).per ≤ 1600 * (s.gov.gtime + ns - t0) * 2 ^ s.gov.rd (F.RAIL_CTL_SYNC_DIV n)
              ∧ 1600 * (s.gov.gtime + ns - t0) * 2 ^ s.gov.rd (F.RAIL_CTL_SYNC_DIV n) ≤ 105 * (s.gov.rail n).per then min 16 ((s.gov.rail n).syncGood + 1)
            else 0))
  ∧ (∀ (s : State) (n t0 : Nat), s.gov.live = true → n < s.build.rails → s.gov.flag (F.RAIL_CTL_SYNC_EN n) = true →
      (s.gov.rail n).syncEdge = some t0 → s.gov.flag (F.RAIL_STAT_SYNC_LOCK n) = true →
    ∃ t, exec (.syncLost n) s = .next t ∧ t.gov.rd (F.RAIL_STAT_SYNC_LOCK n) = 0
      ∧ t.gov.rd (F.RAIL_STAT_SYNC_LOST n) = 1 ∧ (t.gov.rail n).slewLeft = 64
      ∧ (t.gov.rail n).slewFrom = (s.gov.rail n).perCur ∧ (t.gov.rail n).syncEdge = none)
/-! ## Springtail -/

/-- R49, R132, R133 to R138: a satellite's supply comes up with its counts at 0 and a loss clears it; its droop level
follows its supply against its thresholds; an edge of the tile clock counts itself and its stretch, applies the header
that waits whole and lets TCLK_EN change; with the clock stopped TCLK_EN changes at once; the loss of the ring takes the
enable away until a header brings it again. -/
def Obligations.SatelliteClock : Prop :=
  (∀ (s : State) (u : Nat), s.build.tile u = true → (s.gov.sat u).supply = false →
    ∃ t, exec (.satelliteSupplyUp u) s = .next t ∧ t.gov.sat u = { supply := true })
  ∧ (∀ (s : State) (u : Nat), s.build.tile u = true →
    ∃ t, exec (.satelliteSupplyLoss u) s = .next t ∧ t.gov.sat u = {})
  ∧ (∀ (s : State) (u : Nat) (nV : Int), s.build.tile u = true → (s.gov.sat u).supply = true →
    ∃ t, exec (.droopLevelChange u nV) s = .next t ∧ (t.gov.sat u).vs = some nV
      ∧ (t.gov.sat u).level
          = (if below nV ((s.gov.sat u).thr (s.gov.sat u).set.l2 0) = true then 2
             else if (s.gov.sat u).level = 2
                 ∧ below nV ((s.gov.sat u).thr (s.gov.sat u).set.l2 (s.gov.sat u).set.hys) = true then 2
             else if below nV ((s.gov.sat u).thr (s.gov.sat u).set.l1 0) = true then 1
             else if 1 ≤ (s.gov.sat u).level
                 ∧ below nV ((s.gov.sat u).thr (s.gov.sat u).set.l1 (s.gov.sat u).set.hys) = true then 1
             else 0)
      ∧ (t.gov.sat u).dmax = max (s.gov.satNow u).dmax (t.gov.sat u).level)
  ∧ (∀ (s : State) (u : Nat), s.build.tile u = true → (s.gov.sat u).supply = true →
    ∃ t, exec (.tileClockEdge u) s = .next t ∧ (t.gov.sat u).tcyc = ((s.gov.sat u).tcyc + 1) % 2 ^ 48
      ∧ (t.gov.sat u).tstr = ((s.gov.sat u).tstr + max (t.gov.sat u).floor (t.gov.sat u).droopActs) % 2 ^ 32
      ∧ (t.gov.sat u).set = ((s.gov.sat u).pend.map (fun p => p.set)).getD (s.gov.sat u).set
      ∧ (t.gov.sat u).ofs = ((s.gov.sat u).pend.bind (fun p => p.ofs)).getD (s.gov.sat u).ofs
      ∧ (t.gov.sat u).pend = none ∧ (t.gov.sat u).stopAt = none
      ∧ (t.gov.sat u).en = ((s.gov.sat u).ringOk
          && ((s.gov.sat u).pend.bind (fun p => p.en)).getD (s.gov.sat u).enBit))
  ∧ (∀ (s : State) (u : Nat), s.build.tile u = true → (s.gov.sat u).supply = true → (s.gov.sat u).stopAt = none →
    ∃ t, exec (.tileClockStop u) s = .next t ∧ (t.gov.sat u).stopAt = some s.gov.gtime
      ∧ (t.gov.sat u).en = ((s.gov.sat u).ringOk
          && ((s.gov.sat u).pend.bind (fun p => p.en)).getD (s.gov.sat u).enBit))
  ∧ (∀ (s : State) (u : Nat), s.build.tile u = true → (s.gov.sat u).supply = true →
    ∃ t, exec (.ringLoss u) s = .next t ∧ (t.gov.sat u).ringOk = false ∧ (t.gov.sat u).enBit = false
      ∧ ((s.gov.sat u).stopAt.isSome = true → (t.gov.sat u).en = false)
      ∧ ((s.gov.sat u).stopAt = none → (t.gov.sat u).en = (s.gov.sat u).en))

/-- R139, R140, R145: each ring sends a frame whose header carries the next FNUM, the settings, one group's ENMASK and
one tile's OFS, and with the report slots of 16 tiles; a header waits for the next edge where its CRC holds, and a frame
that holds the tile's slot latches its report; a frame that returns whole counts toward RING_OK, another sets
RING_ERR. -/
def Obligations.RingFrames : Prop :=
  (∀ (s : State) (d : Nat), s.gov.live = true → d < s.build.dies → s.gov.ringTest d = false →
    ∃ t h, exec .ringFrameSend s = .next t ∧ (t.gov.ring d).hdr = some h ∧ h.fnum = (s.gov.ring d).fnum
      ∧ h.enm = bits (s.gov.enmask d) ((s.gov.ring d).fnum % 4 * 16) 16
      ∧ h.ofs = s.gov.rd (F.ST_TILE_OFS (64 * d + (s.gov.ring d).fnum % 64))
      ∧ (∃ q, h.set = { s.gov.stSet s.build d with hseq := q })
      ∧ (t.gov.ring d).fnum = ((s.gov.ring d).fnum + 1) % 256
      ∧ (t.gov.ring d).out = (s.gov.ring d).out ++ [(s.gov.ring d).fnum]
      ∧ (t.gov.ring d).due = Nat.lor (s.gov.ring d).due (slotBits (s.gov.ring d).fnum))
  ∧ (∀ (s : State) (u err : Nat) (h : StHdr), s.gov.live = true → s.build.tile u = true →
      (s.gov.sat u).supply = true → (s.gov.ring (u / 64)).hdr = some h →
      hdrOk (Nat.xor h.word (err % 2 ^ 128)) = true →
    ∃ t p, exec (.headerReceive u err) s = .next t ∧ (t.gov.sat u).ringOk = true ∧ (t.gov.sat u).pend = some p
      ∧ p.set = hdrSet (Nat.xor h.word (err % 2 ^ 128)) h.set.noRail
      ∧ (bits (Nat.xor h.word (err % 2 ^ 128)) 0 8 % 4 = u % 64 / 16 →
          p.en = some (bit (Nat.xor h.word (err % 2 ^ 128)) (16 + u % 64 % 16)))
      ∧ (bits (Nat.xor h.word (err % 2 ^ 128)) 0 8 % 64 = u % 64 →
          p.ofs = some (bits (Nat.xor h.word (err % 2 ^ 128)) 88 8))
      ∧ (t.gov.sat u).set = (s.gov.sat u).set ∧ (t.gov.sat u).ofs = (s.gov.sat u).ofs
      ∧ (t.gov.sat u).level = (s.gov.sat u).level
      ∧ (h.fnum % 4 = u % 64 / 16 → (t.gov.sat u).latch = some (s.gov.gtime + 14 * (u % 64 % 16))))
  ∧ (∀ (s : State) (u err : Nat) (h : StHdr), s.gov.live = true → s.build.tile u = true →
      (s.gov.sat u).supply = true → (s.gov.ring (u / 64)).hdr = some h →
      hdrOk (Nat.xor h.word (err % 2 ^ 128)) = false →
    ∃ t, exec (.headerReceive u err) s = .next t ∧ (t.gov.sat u).ringOk = (s.gov.sat u).ringOk
      ∧ (t.gov.sat u).pend = (s.gov.sat u).pend ∧ (t.gov.sat u).set = (s.gov.sat u).set
      ∧ (t.gov.sat u).ofs = (s.gov.sat u).ofs ∧ (t.gov.sat u).en = (s.gov.sat u).en
      ∧ (t.gov.sat u).enBit = (s.gov.sat u).enBit)
  ∧ (∀ (s : State) (d f : Nat) (rest : List Nat), s.build.ok = true → s.gov.live = true → d < s.build.dies →
      (s.gov.ring d).out = f :: rest →
    ∃ t, exec (.frameReturnCheck d true true f) s = .next t
      ∧ (f < 256 → (t.gov.ring d).out = rest ∧ (t.gov.ring d).okRun = min 4 ((s.gov.ring d).okRun + 1)
          ∧ bit (t.gov.rd F.ST_STAT_RING_OK) d = decide (3 ≤ (s.gov.ring d).okRun)
          ∧ t.gov.rd F.ST_STAT_RING_ERR = s.gov.rd F.ST_STAT_RING_ERR))
  ∧ (∀ (s : State) (d f fnum : Nat) (rest : List Nat) (arrived crcOk : Bool), s.build.ok = true → s.gov.live = true →
      d < s.build.dies → (s.gov.ring d).out = f :: rest →
      (arrived && crcOk && decide (fnum % 256 = f)) = false →
    ∃ t, exec (.frameReturnCheck d arrived crcOk fnum) s = .next t ∧ (t.gov.ring d).out = rest
      ∧ (t.gov.ring d).okRun = 0 ∧ bit (t.gov.rd F.ST_STAT_RING_OK) d = false
      ∧ bit (t.gov.rd F.ST_STAT_RING_ERR) d = true)

/-- R141, R142, R144: a report holds the counts of its latch; one whose parity and index hold updates the tile's record and flags; a missing or damaged one
counts as lost; NOREP is set 8 rotations after the last report, and its service cause 1 ms later. -/
def Obligations.TileReports : Prop :=
  (∀ (x : Sat) (i now l : Nat), x.latch = some l → l ≤ now →
      (x.upTo i now).slot = some ((x.countStop l).report i) ∧ (x.upTo i now).latch = none)
  ∧ (∀ (s : State) (u hops err v w : Nat), s.build.ok = true → s.gov.live = true → s.build.tile u = true →
      bit (s.gov.ring (u / 64)).due (u % 64) = true → (s.gov.satNow u).slot = some v → w = Nat.xor v (err % 2 ^ 56) →
      parity56 w = 0 → bits w 0 6 = u % 64 →
    ∃ t, exec (.reportReceived u hops err true) s = .next t
      ∧ (t.gov.trec u).valid = true ∧ (t.gov.trec u).lostRun = 0 ∧ (t.gov.trec u).lastRep = s.gov.gtime
      ∧ (t.gov.trec u).cap = s.gov.gtime - 4 * hops ∧ bit (t.gov.ring (u / 64)).due (u % 64) = false
      ∧ ((s.gov.trec u).valid = true →
          (t.gov.trec u).tcyc = ((s.gov.trec u).tcyc + lowDiff 16 (bits w 12 16) (s.gov.trec u).lowC) % 2 ^ 48)
      ∧ t.gov.rd (F.ST_TILE_EN u) = bits w 6 1 ∧ t.gov.rd (F.ST_TILE_DLVL u) = bits w 7 2
      ∧ t.gov.rd (F.ST_TILE_HACK u) = bits w 9 2 ∧ t.gov.rd (F.ST_TILE_NOREP u) = 0)
  ∧ (∀ (s : State) (u hops err : Nat) (present : Bool), s.gov.live = true → s.build.tile u = true →
      bit (s.gov.ring (u / 64)).due (u % 64) = true →
      (present = false ∨ (s.gov.satNow u).slot = none
        ∨ ∃ v, (s.gov.satNow u).slot = some v ∧ (parity56 (Nat.xor v (err % 2 ^ 56)) ≠ 0
            ∨ bits (Nat.xor v (err % 2 ^ 56)) 0 6 ≠ u % 64)) →
    ∃ t, exec (.reportReceived u hops err present) s = .next t
      ∧ (t.gov.trec u).lost = ((s.gov.trec u).lost + 1) % 2 ^ 32
      ∧ (t.gov.trec u).lostRun = (s.gov.trec u).lostRun + 1
      ∧ t.gov.rd (F.ERR_CNT_COUNT 2) = (s.gov.rd (F.ERR_CNT_COUNT 2) + 1) % 2 ^ 48)
  ∧ (∀ (s : State) (u : Nat), s.build.ok = true → s.gov.live = true → s.build.tile u = true →
      s.gov.flag (F.ST_TILE_NOREP u) = false →
    ∃ t, exec (.norepSet u) s = .next t ∧ t.gov.rd (F.ST_TILE_NOREP u) = 1
      ∧ t.gov.gtime = max s.gov.gtime ((s.gov.trec u).lastRep + 8192) ∧ (t.gov.trec u).norepAt = t.gov.gtime)
  ∧ (∀ (s : State) (u : Nat), s.gov.live = true → s.build.tile u = true → s.gov.flag (F.ST_TILE_NOREP u) = true →
      (s.gov.trec u).norepTold = false →
    ∃ t, exec (.norepService u) s = .next t ∧ (t.gov.trec u).norepTold = true
      ∧ bit (t.gov.rd F.SVC_CAUSE_CAUSE) 6 = true
      ∧ t.gov.gtime = max s.gov.gtime ((s.gov.trec u).norepAt + 1000000))
/-! ## Rails and phases -/

/-- R153, R155, R158, R159, R160, R162, R192: a boundary starts the next period; an update instant with no sample within 15.625 ns of it counts a
miss; a pass of a CLOSED rail without feed-forward measures VS and sets the duty that the cascade and the limits give; a
sample in BURST wakes the phase or ends a burst. -/
def Obligations.RailPasses : Prop :=
  (∀ (s : State) (n : Nat), s.gov.live = true → n < s.build.rails → 0 < (s.gov.rail n).perCur →
      (s.gov.rail n).started = true → s.gov.mode n ≠ mFAULT →
    ∃ t, exec (.periodBoundary n) s = .next t ∧ (t.gov.rail n).bnd = (s.gov.rail n).bnd + (s.gov.rail n).perCur
      ∧ (t.gov.rail n).jIdx = 0
      ∧ t.gov.gtime = max s.gov.gtime (((s.gov.rail n).bnd + (s.gov.rail n).perCur + 15) / 16)
      ∧ ((s.gov.rail n).slewLeft = 0 → (t.gov.rail n).perCur = (s.gov.rail n).perCur))
  ∧ (∀ (s : State) (n : Nat) (sample : Option Sample), s.gov.live = true → s.gov.quiet → n < s.build.rails →
      (s.gov.rail n).started = true → s.gov.mode n ≠ mFAULT →
      0 < (s.gov.rail n).perCur → (s.gov.rail n).jIdx < (s.gov.rail n).k → (s.gov.rail n).sliceFail = false →
      (∀ x, sample = some x → x.ofs < -250 ∨ 250 < x.ofs) →
    ∃ t, exec (.loopPass n sample) s = .next t ∧ (t.gov.rail n).jIdx = (s.gov.rail n).jIdx + 1
      ∧ t.gov.rd (F.RAIL_MEAS_MISS n) = min (s.gov.rd (F.RAIL_MEAS_MISS n) + 1) 255
      ∧ t.gov.gtime = max s.gov.gtime (((s.gov.rail n).instant (s.gov.rail n).jIdx + 15) / 16))
  ∧ (∀ (s : State) (n : Nat) (nV ofs : Int), s.build.ok = true → s.gov.live = true → s.gov.quiet →
      n < s.build.rails → -250 ≤ ofs → ofs ≤ 250 →
      (s.gov.rail n).started = true → 0 < (s.gov.rail n).perCur → (s.gov.rail n).jIdx < (s.gov.rail n).k →
      (s.gov.rail n).sliceFail = false → s.gov.stage = sREADY → s.gov.mode n = mCLOSED →
      s.gov.flag (F.RAIL_CTL_OPEN n) = false → (s.gov.rail n).hold = false → (s.gov.rail n).ovCnt < 3 →
      (s.gov.rail n).switching = true → (s.gov.rail n).good = true → (s.gov.rail n).retry = false →
      (s.gov.rail n).close = none →
      s.gov.flag (F.RAIL_FF_FF_EN n) = false → s.gov.flag (F.RAIL_STAT_FF_ACT n) = false →
      s.gov.rd (F.RAIL_CTL_DMAX n) < 2 ^ 16 → (∀ p ∈ (s.gov.rail n).block, p < 96) →
    ∃ t, exec (.loopPass n (some ⟨nV, ofs⟩)) s = .next t ∧ t.gov.rd (F.RAIL_MEAS_VS n) = voltCode nV
      ∧ t.gov.rd (F.RAIL_STAT_DUTY n)
          = (dutyOf (cascade s.gov n (s.gov.rd (F.RAIL_STAT_CSET_ACT n)) (s.gov.rail n).secs 0
              ((((s.gov.rail n).vset : Int) - voltCode nV) * 8) 0).ylast 0
              (s.gov.rd (F.RAIL_CTL_DMIN n)) (s.gov.rd (F.RAIL_CTL_DMAX n))).d.toNat)
  ∧ (∀ (s : State) (n : Nat) (nV ofs : Int), s.build.ok = true → s.gov.live = true → n < s.build.rails →
      -250 ≤ ofs → ofs ≤ 250 →
      (s.gov.rail n).started = true → 0 < (s.gov.rail n).perCur → (s.gov.rail n).jIdx < (s.gov.rail n).k →
      (s.gov.rail n).sliceFail = false → s.gov.mode n = mBURST → (s.gov.rail n).hold = false → (s.gov.rail n).ovCnt < 3 →
    ∃ t, exec (.burstSample n ⟨nV, ofs⟩) s = .next t ∧ (t.gov.rail n).jIdx = (s.gov.rail n).jIdx + 1
      ∧ ((s.gov.rail n).bursting = 0 →
          (t.gov.rail n).wake = ((s.gov.rail n).wake
            || decide (voltCode nV + s.gov.lf n (F.RAIL_BURST_BLO n) < (s.gov.rail n).vset)))
      ∧ (0 < (s.gov.rail n).bursting → (s.gov.rail n).vset + s.gov.lf n (F.RAIL_BURST_BHI n) < voltCode nV →
          (t.gov.rail n).bursting = 0))

/-- R183, R184, R185, R187, R198, R201, R40: an IMON conversion takes the next channel of the round and keeps the trimmed
current; IMB that stands for 1 s is a service cause; a limit cut ends the pulse and is counted; the shutdown delays lower
PEN and release PWM; a fault pulse is recognised from 40 ns and never below 20 ns, and retires a phase whose PEN is
high and is only reported on another. -/
def Obligations.PhaseRows : Prop :=
  (∀ (s : State) (n c p : Nat) (nV : Int) (l : List Nat), s.gov.live = true → n < s.build.rails → c < 2 →
      (s.gov.rail n).sliceFail = false →
      l = (s.gov.rail n).block.filter (fun p => (p - (s.gov.rail n).first) % 2 == c) →
      (s.gov.conv n c).pos < l.length → p = l.getD (s.gov.conv n c).pos 0 → (s.gov.ph p).pen = true →
      (s.gov.ph p).win.length < 15 →
    ∃ t, exec (.imonConversion n c nV) s = .next t
      ∧ (t.gov.ph p).last = imonCurrent (imonCode nV) (s.gov.rd (F.CAL_IMON_GAIN p)) (s.gov.rd (F.CAL_IMON_OFS p))
      ∧ (t.gov.ph p).win = (s.gov.ph p).win ++ [(t.gov.ph p).last]
      ∧ (t.gov.conv n c).pos = (if (s.gov.conv n c).pos + 1 < l.length then (s.gov.conv n c).pos + 1 else 0)
      ∧ (t.gov.conv n c).lfsr
          = (if (s.gov.conv n c).pos = 0 then lfsrStep (s.gov.conv n c).lfsr else (s.gov.conv n c).lfsr))
  ∧ (∀ (s : State) (p t0 : Nat), s.gov.live = true → (s.gov.ph p).imbAt = some t0 →
      s.gov.flag (F.PH_STAT_IMB p) = true →
    ∃ t, exec (.imbServiceTimeout p) s = .next t ∧ bit (t.gov.rd F.SVC_CAUSE_CAUSE) 2 = true
      ∧ t.gov.gtime = max s.gov.gtime (t0 + 1000000000))
  ∧ (∀ (s : State) (p n age r0 : Nat) (nV : Int), s.gov.live = true → p < 96 → n < 16 →
      railOf s.build s.gov p = some n →
      (if (s.gov.phaseAt n p (16 * s.gov.gtime)).pwm = .high then some (s.gov.phaseAt n p (16 * s.gov.gtime)).rise
        else (s.gov.phaseAt n p (16 * s.gov.gtime)).next) = some r0 →
      (s.gov.phaseAt n p (r0 + 16 * age)).pen = true → (s.gov.phaseAt n p (r0 + 16 * age)).pwm = .high →
      (s.gov.phaseAt n p (r0 + 16 * age)).rise = r0 → 24 ≤ age → s.gov.limThreshold n < nV →
    ∃ t, exec (.limitCut p age nV) s = .next t ∧ (t.gov.ph p).pwm = .low ∧ (t.gov.rail n).limited = true
      ∧ (t.gov.ph p).next = (s.gov.phaseAt n p (r0 + 16 * age)).next
      ∧ t.gov.gtime = max s.gov.gtime ((r0 + 16 * age + 15) / 16)
      ∧ (t.gov.rail n).cutPass = true ∧ t.gov.rd (F.PH_STAT_LIM_SEEN p) = 1 ∧ t.gov.rd (F.RAIL_PSTAT_LIM_SEEN n) = 1
      ∧ t.gov.rd (F.PH_STAT_CUTS p) = min (s.gov.rd (F.PH_STAT_CUTS p) + 1) 255)
  ∧ (∀ (s : State) (p : Nat), s.gov.live = true → p < s.build.phases → (s.gov.shutting p).shut ≠ 0 →
    ∃ t, exec (.phaseShutdownDelay p) s = .next t ∧ t.gov.gtime = max s.gov.gtime ((s.gov.shutting p).shutAt + 1000)
      ∧ ((s.gov.shutting p).shut = 2 → (t.gov.ph p).pen = false ∧ (t.gov.ph p).shut = 1
          ∧ (t.gov.ph p).pwm = (s.gov.shutting p).pwm)
      ∧ ((s.gov.shutting p).shut ≠ 2 → (t.gov.ph p).pwm = .hiZ ∧ (t.gov.ph p).shut = 0))
  ∧ (∀ (s : State) (p n ns : Nat), s.gov.live = true → p < s.build.phases → s.gov.faultSeen ns = true →
      (s.gov.ph p).pen = true →
      railOf s.build s.gov p = some n →
    ∃ t, exec (.pfaultRecognised p ns) s = .next t ∧ (t.gov.ph p).usable = false ∧ (t.gov.ph p).pen = false
      ∧ (t.gov.ph p).pwm = .hiZ)
  ∧ (∀ (s : State) (p ns : Nat), s.gov.live = true → s.gov.quiet → s.gov.faultSeen ns = false →
    ∃ t, exec (.pfaultRecognised p ns) s = .next t ∧ t.gov.regs = s.gov.regs ∧ t.gov.phs = s.gov.phs
      ∧ t.gov.rails = s.gov.rails)
  ∧ (∀ (s : State) (ns : Nat), (ns < 20 → s.gov.faultSeen ns = false) ∧ (40 ≤ ns → s.gov.faultSeen ns = true))
  ∧ (∀ (s : State) (p ns : Nat), s.gov.live = true → s.gov.quiet → p < s.build.phases → s.gov.faultSeen ns = true →
      (s.gov.ph p).pen = false →
    ∃ t, exec (.pfaultRecognised p ns) s = .next t ∧ t.gov.rd (F.PH_STAT_PFLT p) = 1 ∧ t.gov.phs = s.gov.phs
      ∧ t.gov.rails = s.gov.rails)
  ∧ (∀ (s : State) (p : Nat) (low : Bool), s.gov.live = true → p < s.build.phases → (s.gov.ph p).pen = false →
    ∃ t, exec (.pfaultNLevel p low) s = .next t ∧ t.gov.rd (F.PH_STAT_PFLT p) = b2n low ∧ t.gov.phs = s.gov.phs)

/-- R195, R197, R202, R203, R205: HICCUP_OFF's end measures the rail, and its next boundary starts the retry in RAMP; HR returns to 0 and grace ends at their time; a
slice without frames is failed and its rail, where it has started and is not off, is in FAULT with cause SLICE; the end of an over-voltage's
clamp releases the phases. -/
def Obligations.RailFaults : Prop :=
  (∀ (s : State) (n t0 : Nat) (nV : Int), s.build.ok = true → s.gov.live = true → n < s.build.rails →
      s.gov.mode n = mHICCUP → (s.gov.rail n).penFell = some t0 → (s.gov.rail n).sliceFail = false →
    ∃ t, exec (.hiccupRetry n nV) s = .next t ∧ t.gov.mode n = mHICCUP ∧ (t.gov.rail n).penFell = none
      ∧ (t.gov.rail n).retryV = some (if 100 < voltCode nV then voltCode nV else 0)
      ∧ t.gov.gtime = max s.gov.gtime (t0 + 1000 * s.gov.lf n (F.RAIL_PROT_HICCUP_OFF n)))
  ∧ (∀ (s : State) (n v : Nat), s.build.ok = true → s.gov.live = true → s.gov.quiet → s.gov.stage = sREADY →
      n < s.build.rails → s.gov.mode n = mHICCUP → (s.gov.rail n).started = true → 0 < (s.gov.rail n).perCur →
      (s.gov.rail n).retryV = some v → (s.gov.rail n).retry = false → s.gov.brg.vinSettled = true →
      (s.gov.rail n).commitAt = none → (s.gov.rail n).csetReq = none → (s.gov.rail n).vchg = none →
      (s.gov.rail n).limited = false → (s.gov.rail n).downPend = false →
    ∃ t, exec (.periodBoundary n) s = .next t ∧ t.gov.mode n = mRAMP ∧ (t.gov.rail n).retry = true
      ∧ (t.gov.rail n).vpre = v ∧ (t.gov.rail n).midAt = some t.gov.gtime ∧ (t.gov.rail n).retryV = none)
  ∧ (∀ (s : State) (n t0 : Nat), s.gov.live = true → n < s.build.rails → s.gov.running n = true →
      (s.gov.rail n).steadyAt = some t0 →
    ∃ t, exec (.hrResetTimeout n) s = .next t ∧ t.gov.rd (F.RAIL_PSTAT_HR n) = 0
      ∧ t.gov.gtime = max s.gov.gtime (t0 + 100000000))
  ∧ (∀ (s : State) (n t0 : Nat), s.gov.live = true → n < s.build.rails → (s.gov.rail n).graceAt = some t0 →
    ∃ t, exec (.graceEnd n) s = .next t ∧ t.gov.rd (F.RAIL_PSTAT_GRACE n) = 0 ∧ (t.gov.rail n).graceAt = none
      ∧ t.gov.gtime = max s.gov.gtime (t0 + 1000 * s.gov.lf n (F.RAIL_LIM_GRACE n)))
  ∧ (∀ (s : State) (n : Nat), s.gov.live = true → n < s.build.rails → (s.gov.rail n).sliceFail = false →
    ∃ t, exec (.sliceLinkFail n) s = .next t ∧ (t.gov.rail n).sliceFail = true)
  ∧ (∀ (s : State) (n : Nat), s.build.ok = true → s.gov.live = true → s.gov.quiet → s.gov.dm.grants = [] →
      n < s.build.rails → n ≠ 0 → (s.gov.rail n).sliceFail = false → (s.gov.rail n).started = true →
      s.gov.mode n ≠ mFAULT → (s.gov.rail n).commitAt = none →
    ∃ t, exec (.sliceLinkFail n) s = .next t ∧ t.gov.mode n = mFAULT ∧ t.gov.rd (F.RAIL_PSTAT_FCAUSE n) = 2
      ∧ bit (t.gov.rd F.SVC_CAUSE_CAUSE) 3 = true
      ∧ ∀ p ∈ (s.gov.rail n).block, (s.gov.ph p).pen = true → (s.gov.ph p).shut = 0 → (t.gov.ph p).pwm = .mid)
  ∧ (∀ (s : State) (n t0 : Nat) (nV : Int), s.gov.live = true → n < s.build.rails → (s.gov.rail n).clampAt = some t0 →
    ∃ t, exec (.ovClampEnd n nV) s = .next t ∧ (t.gov.rail n).clampAt = none
      ∧ (∀ p ∈ (s.gov.rail n).block, (s.gov.ph p).pen = true →
          (t.gov.ph p).pen = false ∧ (t.gov.ph p).pwm = .mid ∧ (t.gov.ph p).shut = 1)
      ∧ t.gov.gtime = (if voltCode nV < 100 ∧ (s.gov.rail n).sliceFail = false then s.gov.gtime else max s.gov.gtime (t0 + 1000000)))

/-- R151, R152, R166, R168, R169, R173, R497: with no stage open, writes of a rail's registers are taken where their own
rules allow it: the period and the phase block, held for START; the coefficient set, a request in Ready; OPEN, from Ready on; an
operating point; a coefficient word of a set not in use, refused otherwise; an IMON trim, which discards the window and a
probe repetition in progress on the phase's rail (R502). -/
def Obligations.RailWrites : Prop :=
  (∀ (s : State) (n port w : Nat), s.build.ok = true → s.gov.live = true → s.gov.noStage → n < s.build.rails →
      8000 ≤ bits w 0 16 → bits w 0 16 ≤ 53333 → 4000 * (bits w 16 4 + 1) ≤ bits w 0 16 →
      bits w 32 16 * (bits w 16 4 + 1) < bits w 0 16 → bits w 27 5 ≤ 24 →
      bits w 20 7 + bits w 27 5 ≤ s.build.phases →
      (∀ m < s.build.rails, m ≠ n → bits w 20 7 + bits w 27 5 ≤ s.gov.rd (F.RAIL_CFG_FIRST m)
        ∨ s.gov.rd (F.RAIL_CFG_FIRST m) + s.gov.rd (F.RAIL_CFG_COUNT m) ≤ bits w 20 7
        ∨ s.gov.rd (F.RAIL_CFG_COUNT m) = 0 ∨ bits w 27 5 = 0) →
    ∃ t, exec (.railCfgWrite n port w) s = .next t ∧ t.gov.rd (F.RAIL_CFG_PER n) = bits w 0 16
      ∧ t.gov.rd (F.RAIL_CFG_RATE n) = bits w 16 4 ∧ t.gov.rd (F.RAIL_CFG_FIRST n) = bits w 20 7
      ∧ t.gov.rd (F.RAIL_CFG_COUNT n) = bits w 27 5 ∧ t.gov.rd (F.RAIL_CFG_SOFS n) = bits w 32 16
      ∧ t.gov.rd (F.RAIL_STAT_CFG_PEND n) = 1 ∧ (t.gov.rail n).per = (s.gov.rail n).per)
  ∧ (∀ (s : State) (n port w : Nat), s.build.ok = true → s.gov.live = true → s.gov.noStage → n < s.build.rails →
      (bits w 0 16 < 8000 ∨ 53333 < bits w 0 16) →
    ∃ t, exec (.railCfgWrite n port w) s = .next t ∧ t.gov.rd (F.RAIL_CFG_PER n) = s.gov.rd (F.RAIL_CFG_PER n)
      ∧ t.gov.rd (F.RAIL_STAT_REFUSED n) = 1)
  ∧ (∀ (s : State) (n port c : Nat), s.build.ok = true → s.gov.live = true → s.gov.noStage → n < s.build.rails →
      s.gov.flag (F.RAIL_STAT_PEND n) = false →
    ∃ t, exec (.railCtlCsetWrite n port c) s = .next t ∧ t.gov.rd (F.RAIL_CTL_CSET n) = c % 4
      ∧ (s.gov.stage = sREADY → s.gov.running n = true → c % 4 ≠ s.gov.rd (F.RAIL_STAT_CSET_ACT n) →
          (t.gov.rail n).csetReq = some (c % 4)))
  ∧ (∀ (s : State) (n port : Nat) (v : Bool), s.build.ok = true → s.gov.live = true → n < s.build.rails →
      s.gov.flag (F.RAIL_STAT_PEND n) = false → (s.gov.stage = sREADY ∨ v = false) →
    ∃ t, exec (.railCtlOpenWrite n port v) s = .next t ∧ t.gov.rd (F.RAIL_CTL_OPEN n) = b2n v
      ∧ t.gov.rd (F.RAIL_CTL_CSET n) = s.gov.rd (F.RAIL_CTL_CSET n))
  ∧ (∀ (s : State) (n port : Nat), s.build.ok = true → s.gov.live = true → n < s.build.rails →
      s.gov.flag (F.RAIL_STAT_PEND n) = false → s.gov.stage ≠ sREADY →
    ∃ t, exec (.railCtlOpenWrite n port true) s = .next t ∧ t.gov.rd (F.RAIL_STAT_REFUSED n) = 1
      ∧ t.gov.rd (F.RAIL_CTL_OPEN n) = s.gov.rd (F.RAIL_CTL_OPEN n))
  ∧ (∀ (s : State) (n k port w : Nat), s.build.ok = true → s.gov.live = true → s.gov.noStage → n < s.build.rails →
      k < 8 →
    ∃ t, exec (.railOptWrite n k port w) s = .next t ∧ t.gov.rd (F.RAIL_OPT_VSET n k) = bits w 0 12)
  ∧ (∀ (s : State) (n c i port w : Nat), s.build.ok = true → s.gov.live = true → s.gov.noStage → n < s.build.rails →
      c < 4 → i < 4 → (s.gov.rd (F.RAIL_STAT_CSET_ACT n) ≠ c ∨ s.gov.mode n = mOFF ∨ s.gov.mode n = mOPEN) →
    ∃ t, exec (.railCoefWrite port (0x5000 + 256 * n + 64 * c + 16 * i) w) s = .next t
      ∧ t.gov.rd (F.RAIL_COEF_LO_B0 n c i) = bits w 0 16 ∧ t.gov.rd (F.RAIL_COEF_LO_B1 n c i) = bits w 16 16
      ∧ t.gov.rd (F.RAIL_COEF_LO_B2 n c i) = bits w 32 16 ∧ t.gov.rd (F.RAIL_COEF_LO_A1 n c i) = bits w 48 16)
  ∧ (∀ (s : State) (n c i port w : Nat), s.build.ok = true → s.gov.live = true → s.gov.noStage → n < s.build.rails →
      c < 4 → i < 4 → s.gov.rd (F.RAIL_STAT_CSET_ACT n) = c → s.gov.mode n = mCLOSED →
    ∃ t, exec (.railCoefWrite port (0x5000 + 256 * n + 64 * c + 16 * i) w) s = .next t
      ∧ t.gov.rd (F.RAIL_COEF_LO_B0 n c i) = s.gov.rd (F.RAIL_COEF_LO_B0 n c i)
      ∧ t.gov.rd (F.RAIL_STAT_REFUSED n) = 1)
  ∧ (∀ (s : State) (p port w : Nat), s.build.ok = true → s.gov.live = true → s.gov.noStage → s.gov.quiet →
      p < s.build.phases → (∀ n x, railOf s.build s.gov p = some n → mfind s.gov.probes n = some x → x.inPulse = false) →
    ∃ t, exec (.calImonWrite p port w) s = .next t ∧ t.gov.rd (F.CAL_IMON_GAIN p) = bits w 0 16
      ∧ t.gov.rd (F.CAL_IMON_OFS p) = bits w 16 12 ∧ (t.gov.ph p).spoiled = true ∧ t.gov.probes = s.gov.probes)
  ∧ (∀ (s : State) (p port w n : Nat) (x : Probe), s.build.ok = true → s.gov.live = true → s.gov.noStage → s.gov.quiet →
      p < s.build.phases → railOf s.build s.gov p = some n → mfind s.gov.probes n = some x → x.inPulse = true →
      x.stopPend = false → s.gov.mode n = mOPEN →
    ∃ t, exec (.calImonWrite p port w) s = .next t
      ∧ mfind t.gov.probes n = some { x with reps := x.reps + 1, aborts := x.aborts + 1, inPulse := false }
      ∧ t.gov.mode n = mCLOSED ∧ t.gov.rd (F.RAIL_STAT_DUTY n) = x.d0 % 65536)
/-! ## Announced demand and grants -/

/-- R51, R52, R216, R217, R221, R222, R223, R224, R226: an announcement and a completion are accepted at a ready hub, the
completion's slot counting until its cycle is over; the lane refuses an announcement whose signature is not loaded, grants
one of class 0, and grants or holds another by the test of every scope, unless a due held entry of no greater class comes
first; a held entry is tested again, and blocks after AGE; a completion at the core frees its entry. -/
def Obligations.GrantDecisions : Prop :=
  (∀ (s : State) (req sig ctx cgen cls slot pmode pg : Nat) (x : Hub), req < s.build.requesters →
      x = (s.gov.hubSync (s.build.hubOf req)).hub (s.build.hubOf req) → s.gov.live = true → s.gov.dm.isOpen = true →
      s.gov.reqOff req = false → s.gov.reqCount req + s.gov.freedNow req < 32 → (mget [] x.q (cls % 4)).length < 16 →
    ∃ t, exec (.announcementAccept req sig ctx cgen cls slot pmode pg) s = .next t
      ∧ t.gov.reqCount req = s.gov.reqCount req + 1
      ∧ mget [] (t.gov.hub (s.build.hubOf req)).q (cls % 4) = mget [] x.q (cls % 4)
          ++ [{ req := req, sig := sig % 4096, ctx := ctx % 4096, cgen := cgen % 256, cls := cls % 4, slot := slot % 32,
                pmode := pmode % 4, page := pg % 2 ^ 20 }])
  ∧ (∀ (s : State) (req h kind : Nat) (x : Hub), req < s.build.requesters →
      x = (s.gov.hubSync (s.build.hubOf req)).hub (s.build.hubOf req) → s.gov.live = true →
      s.gov.reqOff req = false → x.cq.length < 16 →
    ∃ t, exec (.completionAccept req h kind) s = .next t ∧ t.gov.reqCount req = s.gov.reqCount req - 1
      ∧ t.gov.freedNow req = s.gov.freedNow req + 1
      ∧ (t.gov.hub (s.build.hubOf req)).cq = x.cq ++ [{ req := req, handle := h % 32768, kind := kind % 4 }])
  ∧ (∀ (s : State) (d : Nat) (a : Ann) (r : List Ann), s.gov.live = true → s.gov.quiet → d < s.build.dies →
      ((s.gov.hubSync d).hub d).link = a :: r → mfind s.gov.dm.sigs a.sig = none →
      (∀ h, s.gov.nextDue s.build d = some h → a.cls = 0 ∨ a.cls < (s.gov.grant h).cls) →
    ∃ t, exec (.laneDecision d) s = .next t ∧ mget {} t.gov.dm.gnt a.req = { slot := a.slot, code := 1, handle := 0 }
      ∧ t.gov.reqCount a.req = s.gov.reqCount a.req - 1 ∧ t.gov.dm.grants = s.gov.dm.grants
      ∧ (t.gov.hub d).link = r)
  ∧ (∀ (s : State) (d h : Nat) (a : Ann) (r : List Ann) (sg : Sig), s.gov.live = true → s.gov.quiet → d < s.build.dies →
      ((s.gov.hubSync d).hub d).link = a :: r → mfind s.gov.dm.sigs a.sig = some sg → sg.railA < 16 → sg.railB < 16 →
      (s.gov.ctx a.ctx).st = 1 → a.cgen = (s.gov.ctx a.ctx).cgen → a.pmode ≠ 3 →
      (∀ e ∈ s.gov.dm.grants, e.2.st ≠ 0 → e.2.req = a.req → e.2.slot ≠ a.slot) → s.gov.railDead sg = false →
      s.gov.freeHandle = some h → (∀ e ∈ s.gov.probes, e.2.stopPend = false) →
      (∀ k, s.gov.nextDue s.build d = some k → a.cls = 0 ∨ a.cls < (s.gov.grant k).cls) →
    ∃ t, exec (.laneDecision d) s = .next t
      ∧ (t.gov.grant h).req = a.req ∧ (t.gov.grant h).ctx = a.ctx ∧ (t.gov.grant h).slot = a.slot
      ∧ (t.gov.grant h).cls = max a.cls (s.gov.ctx a.ctx).cmin ∧ (t.gov.grant h).dec = sg
      ∧ (max a.cls (s.gov.ctx a.ctx).cmin = 0 →
          (t.gov.grant h).st = 2 ∧ mget {} t.gov.dm.gnt a.req = { slot := a.slot, code := 0, handle := h })
      ∧ (max a.cls (s.gov.ctx a.ctx).cmin ≠ 0 →
          (t.gov.grant h).st
            = (if (s.gov.scopes s.build sg (s.gov.ctx a.ctx).part (s.gov.sigPwr sg)).all (fun c =>
                    decide (c.d + c.inc ≤ classE c.b (s.gov.rd F.DMD_MOD_RSV)
                      (s.gov.rd (F.ST_THR_TLVL (s.build.hubOf a.req)))))
                  && !s.gov.blockedBy (max a.cls (s.gov.ctx a.ctx).cmin) none
                      (s.gov.scopeCodes sg (s.gov.ctx a.ctx).part)
               then 2 else 1)))
  ∧ (∀ (s : State) (d h : Nat) (x : Grant), s.gov.live = true → s.gov.quiet → d < s.build.dies →
      s.gov.nextDue s.build d = some h → x = s.gov.grant h → s.gov.railDead x.dec = false → x.cls ≠ 0 →
      (∀ a r, ((s.gov.hubSync d).hub d).link = a :: r → a.cls ≠ 0 ∧ x.cls ≤ a.cls) →
    ∃ t, exec (.heldRetest d) s = .next t ∧ (t.gov.grant h).due = false
      ∧ (t.gov.grant h).st
          = (if (s.gov.scopes s.build x.dec x.part (s.gov.sigPwr x.dec)).all (fun c =>
                  decide (c.d + c.inc ≤ classE c.b (s.gov.rd F.DMD_MOD_RSV)
                    (s.gov.rd (F.ST_THR_TLVL (s.build.hubOf x.req)))))
                && !s.gov.blockedBy x.cls (some x.age) (s.gov.scopeCodes x.dec x.part)
             then 2 else 1))
  ∧ (∀ (s : State) (h : Nat), s.gov.live = true → (s.gov.grant h).st = 1 → (s.gov.grant h).blocking = false →
      s.gov.rd F.DMD_CTL_AGE ≠ 0 →
    ∃ t, exec (.entryBlocking h) s = .next t ∧ (t.gov.grant h).blocking = true
      ∧ t.gov.gtime = max s.gov.gtime ((s.gov.grant h).heldAt + 1000 * s.gov.rd F.DMD_CTL_AGE))
  ∧ (∀ (s : State) (d : Nat) (c : Done) (r : List Done), s.gov.live = true → s.gov.quiet → d < s.build.dies →
      ((s.gov.hubSync d).hub d).clink = c :: r → (s.gov.grant c.handle).st = 2 →
      (s.gov.grant c.handle).req = c.req →
    ∃ t, exec (.completionAtCore d) s = .next t ∧ (t.gov.grant c.handle).st = 0
      ∧ t.gov.dm.backlog = s.gov.dm.backlog ++ (s.gov.grant c.handle).dec.rails.flatMap (fun e =>
          endDeltas e.1 (s.gov.grant c.handle).gslot s.gov.slotNow (s.gov.grant c.handle).cls 0 0 e.2)
      ∧ t.gov.rd (F.DMD_CNT_COUNT (if c.kind = 1 then 4 else 3))
          = (s.gov.rd (F.DMD_CNT_COUNT (if c.kind = 1 then 4 else 3)) + 1) % 2 ^ 48)

/-- R227, R229, R230, R231: at a slot boundary every level takes the difference of the slot and a snapshot is made; a scan
gives HNOW and validity of every rail; a delta of the backlog enters the ring where its slot lies ahead, the level where it
does not. -/
def Obligations.DemandHorizon : Prop :=
  (∀ s : State, s.build.ok = true → s.gov.live = true → s.gov.dm.slot + 1 < 2 ^ 32 →
      (s.gov.gtime / 250 = s.gov.dm.slot ∨ s.gov.gtime / 250 = s.gov.dm.slot + 1) →
    ∃ t, exec .slotBoundary s = .next t ∧ t.gov.dm.slot = s.gov.dm.slot + 1
      ∧ t.gov.gtime = max s.gov.gtime (250 * (s.gov.dm.slot + 1)) ∧ t.gov.dm.snapNew = true
      ∧ t.gov.dm.snapSlot = s.gov.dm.slot + 1 ∧ t.gov.dm.snapL = t.gov.dm.lvl
      ∧ ∀ n < s.build.rails,
          t.gov.lvl n = wrap24 (s.gov.lvl n + s.gov.ringD n ((s.gov.dm.slot + 1) % 64))
          ∧ t.gov.ringD n ((s.gov.dm.slot + 1) % 64) = 0)
  ∧ (∀ s : State, s.build.ok = true → s.gov.live = true → s.gov.dm.snapNew = true →
    ∃ t, exec .horizonScanResult s = .next t ∧ t.gov.dm.snapNew = false ∧ t.gov.dm.hSlot = s.gov.dm.snapSlot
      ∧ t.gov.gtime = max s.gov.gtime (250 * s.gov.dm.snapSlot + 32)
      ∧ ∀ n < s.build.rails, t.gov.rd (F.DMD_RSTAT_HNOW n) = clampH (mget 0 s.gov.dm.snapL n)
          ∧ t.gov.flag (F.DMD_RSTAT_VALID n) = (s.gov.rd F.DMD_CTL_HZ_EN == 1 && s.gov.dm.isOpen
              && decide (s.gov.dm.backlog.length < 2048))
          ∧ (t.gov.flag (F.DMD_RSTAT_VALID n) = false → t.gov.rd (F.DMD_RSTAT_NF n) = 31))
  ∧ (∀ (s : State) (x : Delta), s.gov.live = true → nextDelta s.gov.dm.backlog = some x →
    ∃ t, exec .deltaWrite s = .next t ∧ t.gov.dm.backlog = s.gov.dm.backlog.erase x
      ∧ (slotAfter x.slot s.gov.dm.slot = true →
          t.gov.ringD x.rail (x.slot % 64) = wrap24 (s.gov.ringD x.rail (x.slot % 64) + x.v)
            ∧ t.gov.dm.lvl = s.gov.dm.lvl)
      ∧ (slotAfter x.slot s.gov.dm.slot = false →
          t.gov.lvl x.rail = wrap24 (s.gov.lvl x.rail + x.v) ∧ t.gov.dm.ring = s.gov.dm.ring))
/-! ## The thermal model and Firethorn -/

/-- R240, R242, R247, R249, R254, R255: a tick at which an update is due steps every node that is not FIXED from the snapshot,
and holds FIXED ones at their boundary; with no model it computes the ceilings; a reading that is not faulted queues its
correction; an accepted model's decode makes it ready; a chatter window that closes records what it held back. -/
def Obligations.ThermalModel : Prop :=
  (∀ (s : State) (u st i : Nat) (x : ThNode), s.gov.live = true → s.gov.quiet → s.gov.th.load = none →
      mfind s.gov.th.nodes i = some x → u = max (s.gov.th.tick + 1) (s.gov.gtime / 6250) → st = thStride s.gov →
      s.gov.th.updTick / st < u / st → s.gov.th.firstUpd = false →
    ∃ t y, exec .thermalTick s = .next t ∧ mfind t.gov.th.nodes i = some y ∧ t.gov.th.updTick = u ∧ t.gov.th.tick = u
      ∧ t.gov.rd F.TH_UPDT_GTIME = 6250 * u % 2 ^ 64 ∧ t.gov.rd F.TH_UPD_M = min 16 (u - s.gov.th.updTick)
      ∧ t.gov.gtime = max s.gov.gtime (6250 * u)
      ∧ (x.cfg.fixed = true → y.te = x.bound ∧ y.s = x.bound * 65536)
      ∧ (x.cfg.fixed = false → y.pend = 0 ∧ y.t = thT y.s ∧ y.t ≤ y.te
          ∧ y.s = (thStep (fun j => if j = 512 then (thSnap x).t
                else ((mfind s.gov.th.nodes j).map (fun z => (thSnap z).t)).getD 0)
              (min 16 (u - s.gov.th.updTick)) { thSnap x with p := y.p }).1))
  ∧ (∀ (s : State) (u : Nat), s.build.ok = true → s.gov.live = true → s.gov.th.load = none → s.gov.th.nodes = [] →
      u = max (s.gov.th.tick + 1) (s.gov.gtime / 6250) →
    ∃ t, exec .thermalTick s = .next t ∧ t.gov.th.tick = u ∧ t.gov.gtime = max s.gov.gtime (6250 * u)
      ∧ ∀ d < s.build.dies, t.gov.rd (F.DMD_DIE_CEIL d) = s.gov.ceiling d % 2 ^ 16)
  ∧ (∀ (s : State) (k : Nat), s.gov.live = true → k < 4 * s.build.dies → s.gov.flag (F.FT_DSTAT_FLT k) = true →
    ∃ t, exec (.diodeReadingArrival k) s = .next t ∧ (t.gov.thDiode k).flt = true
      ∧ (t.gov.thDiode k).good = (s.gov.thDiode k).good ∧ t.gov.th.nodes = s.gov.th.nodes)
  ∧ (∀ (s : State) (k node : Nat) (y : ThNode) (c : Int), s.gov.live = true → k < 4 * s.build.dies →
      s.gov.flag (F.FT_DSTAT_FLT k) = false → s.gov.rd (F.TH_DIODE_EN k) = 1 → node = s.gov.rd (F.TH_DIODE_NODE k) →
      mfind s.gov.th.nodes node = some y → y.cfg.fixed = false →
      c = clampI (-(16 * s.gov.rd F.TH_CTL_RCLAMP)) (16 * s.gov.rd F.TH_CTL_RCLAMP)
            (sx 16 (s.gov.rd (F.FT_DSTAT_TEMP k)) - y.t) * s.gov.rd (F.TH_DIODE_KC k) →
    ∃ t z, exec (.diodeReadingArrival k) s = .next t ∧ mfind t.gov.th.nodes node = some z
      ∧ z.pend = y.pend + c + (if y.cfg.cgrp = some k then c else 0)
      ∧ (t.gov.thDiode k).good = some (sx 16 (s.gov.rd (F.FT_DSTAT_TEMP k)), s.gov.gtime))
  ∧ (∀ (s : State) (l : ThLoad), s.gov.live = true → s.gov.th.load = some l →
    ∃ t, exec .thLoadDecodeDone s = .next t ∧ t.gov.th.load = some { l with ready := true }
      ∧ t.gov.th.nodes = s.gov.th.nodes)
  ∧ (∀ (s : State) (i w : Nat) (x : ThNode), s.gov.live = true → mfind s.gov.th.nodes i = some x → x.winAt = some w →
    ∃ t y, exec (.chatterWindowClose i) s = .next t ∧ mfind t.gov.th.nodes i = some y ∧ y.winAt = none ∧ y.winLost = 0
      ∧ y.level = x.level ∧ t.gov.gtime = max s.gov.gtime (w + 1000000 * s.gov.rd F.TH_CTL_CHAT_WIN)
      ∧ (0 < x.winLost → s.gov.recr.queue.length < 256 →
          ∃ e ∈ t.gov.recr.queue, e.code = 0x4002 ∧ e.p0 = p32 (i + x.winLv * 2 ^ 12) ∧ e.p1 = p32 x.winLost))

/-- R257, R258, R259, R260, R262: a conversion stores its reading or its fault and the second in a row at or above TRIP trips;
the trip puts PWM at mid level, then PEN low, then PWM at high impedance; a scan's end counts the scan, excludes and restores
diodes, marks blind dies, and releases a trip whose conditions have held. -/
def Obligations.FirethornScan : Prop :=
  (∀ (s : State) (v dv1 dv2 : Int), s.gov.aon = true → s.gov.ft.pos < 4 * s.build.dies → s.gov.ft.pos < 32 →
      (1200000000 < v ∨ v < 100000000) →
    ∃ t, exec (.diodeConversion v dv1 dv2) s = .next t ∧ t.gov.rd (F.FT_DSTAT_FLT s.gov.ft.pos) = 1
      ∧ t.gov.rd (F.FT_DSTAT_TEMP s.gov.ft.pos) = s.gov.rd (F.FT_DSTAT_TEMP s.gov.ft.pos)
      ∧ t.gov.ft.pos = s.gov.ft.pos + 1 ∧ t.gov.ft.cyc = s.gov.ft.cyc + 320)
  ∧ (∀ (s : State) (v dv1 dv2 r : Int), s.gov.aon = true → s.gov.ft.pos < 4 * s.build.dies → s.gov.ft.pos < 32 →
      100000000 ≤ v → v ≤ 1200000000 →
      diodeReading dv1 dv2 (mget (0x083, 0) s.gov.ft.trims s.gov.ft.pos).1
        (mget (0x083, 0) s.gov.ft.trims s.gov.ft.pos).2 = some r →
    ∃ t, exec (.diodeConversion v dv1 dv2) s = .next t ∧ t.gov.rd (F.FT_DSTAT_FLT s.gov.ft.pos) = 0
      ∧ t.gov.rd (F.FT_DSTAT_TEMP s.gov.ft.pos) = ux 16 r ∧ t.gov.ft.pos = s.gov.ft.pos + 1
      ∧ ((s.gov.rd F.FT_ACT_TRIP : Int) ≤ r → 1 ≤ (s.gov.ftDiode s.gov.ft.pos).above →
          bit (s.gov.rd F.FT_STAT_EXCL) s.gov.ft.pos = false → s.gov.flag F.FT_STAT_TRIPPED = false →
          t.gov.rd F.FT_STAT_TRIPPED = 1 ∧ t.gov.ft.ovr = 1
          ∧ t.gov.rd F.FT_STAT_TRIPS_TOTAL = min (s.gov.rd F.FT_STAT_TRIPS_TOTAL + 1) 2047
          ∧ (∀ p, t.gov.pwmOut t.build p = .mid)))
  ∧ (∀ s : State, s.build.ok = true → s.gov.aon = true → s.gov.ft.pos = 32 →
    ∃ t, exec .scanEnd s = .next t ∧ t.gov.ft.pos = 0
      ∧ (∀ k < 4 * s.build.dies, t.gov.rd (F.FT_DSTAT_SCANS k) = (s.gov.rd (F.FT_DSTAT_SCANS k) + 1) % 2 ^ 32
          ∧ bit (t.gov.rd F.FT_STAT_EXCL) k
              = (if bit (s.gov.rd F.FT_STAT_EXCL) k then decide ((s.gov.ftDiode k).good < 4)
                 else decide (4 ≤ (s.gov.ftDiode k).bad)))
      ∧ (∀ d < s.build.dies, bit (t.gov.rd F.FT_STAT_BLIND) d
          = (List.range 4).all (fun i => bit (t.gov.rd F.FT_STAT_EXCL) (4 * d + i)))
      ∧ (s.gov.flag F.FT_STAT_TRIPPED = true → s.gov.flag F.FT_STAT_LATCHED = false →
          ftCoolScan s.build s.gov = true → 3 ≤ s.gov.ft.cool →
          s.gov.rd F.FT_ACT_MIN_OFF * 2 ^ 20 ≤ s.gov.ft.cyc - s.gov.ft.stamps.headD 0 →
          t.gov.rd F.FT_STAT_TRIPPED = 0 ∧ t.gov.ft.ovr = 0))
  ∧ (∀ s : State, s.gov.aon = true → s.gov.ft.ovr = 1 →
    ∃ t, exec .ftPenOverride s = .next t ∧ (∀ p, t.gov.penOut p = false) ∧ ∀ p, t.gov.pwmOut t.build p = .mid)
  ∧ (∀ s : State, s.gov.aon = true → s.gov.ft.ovr = 2 →
    ∃ t, exec .ftPwmHiz s = .next t ∧ (∀ p, t.gov.penOut p = false) ∧ ∀ p, t.gov.pwmOut t.build p = .hiZ)

/-- R261, R262, R265, R511: the core on a trip turns every rail off, closes the hubs and goes to Off, unless it is before
Seq-up; the release is recorded and with FT_AUTO clear leaves the stage; a write of FT_CFG or FT_DTRIM waits for Firethorn;
the first status after reset is taken once REC_START has been written. -/
def Obligations.FirethornAtCore : Prop :=
  (∀ s : State, s.gov.live = true → s.gov.quiet → s.gov.th.ftSeen = true → s.gov.flag F.FT_STAT_TRIPPED = true →
      s.gov.th.tripSeen = false →
    ∃ t, exec .ftTripStatusAtCore s = .next t ∧ t.gov.th.tripSeen = true ∧ t.gov.brg.govReady = false
      ∧ t.gov.dm.isOpen = false ∧ (∀ n < s.build.rails, (t.gov.rail n).started = false)
      ∧ t.gov.probes = [] ∧ t.gov.stage = (if s.gov.stage ≤ sWAITCFG then s.gov.stage % 2 ^ 4 else sOFF))
  ∧ (∀ s : State, s.gov.live = true → s.gov.th.ftSeen = true → s.gov.flag F.FT_STAT_TRIPPED = false →
      s.gov.th.tripSeen = true → s.gov.rd F.TH_CTL_FT_AUTO ≠ 1 →
    ∃ t, exec .ftReleaseAtCore s = .next t ∧ t.gov.th.tripSeen = false ∧ t.gov.stage = s.gov.stage
      ∧ (s.gov.recr.queue.length < 256 → ∃ e ∈ t.gov.recr.queue, e.code = 0x4011))
  ∧ (∀ (s : State) (port w : Nat), s.gov.live = true → s.gov.noStage → s.gov.flag F.FT_ACT_LOCK = false →
    ∃ t, exec (.ftCfgWrite port none w) s = .next t ∧ t.gov.rd F.FT_CFG_TRIP = bits w 0 16
      ∧ t.gov.rd F.FT_CFG_RESTART = bits w 16 16 ∧ t.gov.rd F.FT_CFG_MIN_OFF = bits w 32 10
      ∧ t.gov.rd F.FT_CFG_LOCK = bits w 42 1 ∧ t.gov.rd F.FT_STAT_PEND = 1
      ∧ t.gov.rd F.FT_ACT_TRIP = s.gov.rd F.FT_ACT_TRIP)
  ∧ (∀ (s : State) (port w k : Nat), s.build.ok = true → s.gov.live = true → s.gov.noStage →
      k < 4 * s.build.dies → s.gov.flag F.FT_ACT_LOCK = false →
    ∃ t, exec (.ftCfgWrite port (some k) w) s = .next t ∧ t.gov.rd (F.FT_DTRIM_IDEAL k) = bits w 0 12
      ∧ t.gov.rd (F.FT_DTRIM_OFS k) = bits w 16 12 ∧ t.gov.rd F.FT_STAT_PEND = 1)
  ∧ (∀ s : State, s.gov.live = true → s.gov.recr.started = true → s.gov.th.ftSeen = false →
    ∃ t, exec .ftStatusAfterReset s = .next t ∧ t.gov.th.ftSeen = true
      ∧ t.gov.th.tripSeen = (s.gov.th.tripSeen || s.gov.flag F.FT_STAT_TRIPPED))
/-! ## The Hedgerow cascade -/

/-- R272, R274, R275, R281, R122: every slot sends a frame on each link that exchanges frames, or counts a skip; a frame
whose CRC, type or reserved fields do not hold is counted; a valid one updates the link, an UP stores the child's demand and
floor, and a HELLO that every condition admits joins the child; a link that rises begins HELLO. -/
def Obligations.LinkFrames : Prop :=
  (∀ (s : State) (skip k : Nat), s.gov.live = true → k < 9 → s.gov.hrTalks k = true → bit skip k = false →
    ∃ t, exec (.hedgerowFrameSlot skip) s = .next t
      ∧ t.gov.hr.slot = max (s.gov.hr.slot + 1) (s.gov.gtime / 10000)
      ∧ t.gov.gtime = max s.gov.gtime (10000 * t.gov.hr.slot)
      ∧ (t.gov.hlink k).seq = ((s.gov.hlink k).seq + 1) % 65536
      ∧ (t.gov.hlink k).txT = (((t.gov.hlink k).seq, t.gov.gtime) :: (s.gov.hlink k).txT).take 8)
  ∧ (∀ (s : State) (skip k : Nat), s.gov.live = true → k < 9 → s.gov.hrTalks k = true → bit skip k = true →
    ∃ t, exec (.hedgerowFrameSlot skip) s = .next t ∧ t.gov.hlink k = s.gov.hlink k
      ∧ t.gov.rd (F.HR_LSTAT_SKIP k) = min (s.gov.rd (F.HR_LSTAT_SKIP k) + 1) (2 ^ (F.HR_LSTAT_SKIP k).len - 1))
  ∧ (∀ (s : State) (k w u : Nat), s.gov.live = true → k < 9 → s.gov.hrTalks k = true →
      crc32 ((leBytes 64 w).take 60) ≠ leAt (leBytes 64 w) 60 4 →
    ∃ t, exec (.frameReceive k w u) s = .next t ∧ t.gov.hr = s.gov.hr
      ∧ t.gov.rd (F.HR_LSTAT_BAD k) = min (s.gov.rd (F.HR_LSTAT_BAD k) + 1) (2 ^ (F.HR_LSTAT_BAD k).len - 1))
  ∧ (∀ (s : State) (k w u : Nat) (l : List Nat), s.gov.live = true → k < 9 → s.gov.hrTalks k = true →
      l = leBytes 64 w → crc32 (l.take 60) = leAt l 60 4 → frameFits k (leAt l 0 1) (s.gov.hlink k) = true →
      leAt l 1 1 = 1 → frameReserved l = false → (s.gov.hlink k).lastRxSeq ≠ some (leAt l 4 2) →
    ∃ t, exec (.frameReceive k w u) s = .next t ∧ (t.gov.hlink k).rxSeq = leAt l 2 2
      ∧ (t.gov.hlink k).lastRxSeq = some (leAt l 4 2) ∧ (t.gov.hlink k).rep = 1
      ∧ (t.gov.hlink k).pFlags = leAt l 6 2
      ∧ (leAt l 0 1 = 3 → t.gov.rd (F.HR_CREP_DEM k) = leAt l 24 4 % 2 ^ (F.HR_CREP_DEM k).len
          ∧ t.gov.rd (F.HR_CREP_FLOOR k) = leAt l 28 4 % 2 ^ (F.HR_CREP_FLOOR k).len)
      ∧ (leAt l 0 1 = 1 → 1 ≤ k → (s.gov.hlink k).join = false → helloDecide k l s.gov = 1 →
          (t.gov.hlink k).join = true ∧ t.gov.rd (F.HR_LSTAT_STATE k) = 2 ∧ t.gov.rd (F.HR_LSTAT_REASON k) = 1))
  ∧ (∀ (s : State) (k : Nat), k < 9 → (s.gov.hlink k).up = false →
    ∃ t, exec (.hrlUpRise k) s = .next t ∧ (t.gov.hlink k).up = true
      ∧ (s.gov.live = true → s.gov.hr.isOpen = true → (s.gov.hrRootDev && k == 0) = false →
          s.gov.rd (F.HR_LSTAT_STATE k) ≠ 4 → t.gov.rd (F.HR_LSTAT_STATE k) = 1))

/-- R275, R285, R286: a link whose HRL_UP falls is lost: the loss is counted, a joined child's charge is held, a device that
loses its parent becomes an orphan; a hold ends after HOLD and 50 µs, or at once where FORGET is written, and its charge is
released. R282, R283: the
root with a hall cap announces an epoch for the next multiple of PER, or at once for NOW, where none is pending; at its GTIME
it takes effect, a higher cap 64 ns later, and reaches admission; one divided before the device was admitted to its present
parent leaves its cap as it was (log 103). -/
def Obligations.LossesAndEpochs : Prop :=
  (∀ (s : State) (k : Nat), s.gov.live = true → k < 9 → s.gov.hrTalks k = true →
    ∃ t, exec (.linkLost k 1) s = .next t ∧ (t.gov.hlink k).up = false ∧ (t.gov.hlink k).join = false
      ∧ t.gov.rd (F.HR_LSTAT_LOSS k) = min (s.gov.rd (F.HR_LSTAT_LOSS k) + 1) (2 ^ (F.HR_LSTAT_LOSS k).len - 1)
      ∧ (1 ≤ k → (s.gov.hlink k).join = true →
          (t.gov.hlink k).hold = some s.gov.gtime ∧ t.gov.rd (F.HR_LSTAT_STATE k) = 4)
      ∧ (k = 0 → (s.gov.hlink 0).join = true →
          t.gov.rd F.HR_STAT_ORPHAN = 1 ∧ t.gov.rd F.HR_STAT_JOINED = 0))
  ∧ (∀ (s : State) (k t0 : Nat), s.gov.live = true → k < 9 → (s.gov.hlink k).hold = some t0 →
    ∃ t, exec (.holdEnd k) s = .next t ∧ (t.gov.hlink k).hold = none ∧ t.gov.rd (F.HR_CALLOC_CUR k) = 0
      ∧ t.gov.rd (F.HR_CALLOC_NEXT k) = 0
      ∧ (s.gov.rd (F.HR_LSTAT_STATE k) = 4 → t.gov.rd (F.HR_LSTAT_STATE k) = 5)
      ∧ t.gov.gtime = max s.gov.gtime (t0 + 1000 * s.gov.rd F.HR_CTL_HOLD + 50000))
  ∧ (∀ (s : State) (k port : Nat), s.gov.live = true → 1 ≤ k → k < 9 → (s.gov.hlink k).hold.isSome = true →
    ∃ t, exec (.hrLinkForget k port) s = .next t ∧ (t.gov.hlink k).hold = none ∧ t.gov.rd (F.HR_CALLOC_CUR k) = 0
      ∧ t.gov.rd (F.HR_CALLOC_NEXT k) = 0 ∧ t.gov.gtime = s.gov.gtime)
  ∧ (∀ s : State, s.gov.live = true → s.gov.hrRootDev = true → s.gov.rd F.HR_EPOCH_HALL_CAP ≠ 0 →
      s.gov.rd F.HR_EPOCH_PER ≠ 0 → s.gov.hrNextEpoch = none →
    ∃ t e, exec .epochAnnounce s = .next t ∧ t.gov.hrNextEpoch = some e ∧ e.num = (s.gov.hr.epRx + 1) % 65536
      ∧ e.bud = s.gov.rd F.HR_EPOCH_HALL_CAP
      ∧ e.time = (max s.gov.gtime (s.gov.hr.lastA + 1) + 1000 * s.gov.rd F.HR_EPOCH_LEAD
          + 1000 * s.gov.rd F.HR_EPOCH_PER - 1) / (1000 * s.gov.rd F.HR_EPOCH_PER) * (1000 * s.gov.rd F.HR_EPOCH_PER)
      ∧ t.gov.hr.epRx = e.num ∧ t.gov.rd F.HR_STAT_PENDING = 1 ∧ t.gov.rd F.HR_STAT_EP_NEXT = e.num)
  ∧ (∀ (s : State) (port : Nat), s.gov.live = true → s.gov.hrRootDev = true → s.gov.rd F.HR_EPOCH_HALL_CAP ≠ 0 →
      s.gov.hrNextEpoch = none →
    ∃ t e, exec (.hrEpochNowBit port) s = .next t ∧ t.gov.hrNextEpoch = some e
      ∧ e.num = (s.gov.hr.epRx + 1) % 65536 ∧ e.bud = s.gov.rd F.HR_EPOCH_HALL_CAP
      ∧ e.time = (s.gov.gtime / 10000 + 1) * 10000 + 1000 * s.gov.rd F.HR_EPOCH_LEAD
      ∧ t.gov.rd F.HR_STAT_PENDING = 1)
  ∧ (∀ (s : State) (e : Epoch), s.build.ok = true → s.gov.live = true → s.gov.hrNextEpoch = some e → e.num < 65536 →
    ∃ t, exec .epochApply s = .next t ∧ t.gov.gtime = max s.gov.gtime e.time
      ∧ (e.past = false → t.gov.rd F.HR_STAT_EP_CUR = e.num)
      ∧ (e.past = true → t.gov.rd F.HR_STAT_EP_CUR = s.gov.rd F.HR_STAT_EP_CUR
          ∧ t.gov.hr.inForce = s.gov.hr.inForce ∧ t.gov.hr.raise = s.gov.hr.raise)
      ∧ (e.past = false → e.leave = true → t.gov.hr.inForce = none ∧ t.gov.hr.raise = none)
      ∧ (e.past = false → e.leave = false → e.aSelf ≤ s.gov.rd F.DMD_MOD_CAP →
          t.gov.hr.inForce = some e.aSelf ∧ t.gov.hr.raise = none)
      ∧ (e.past = false → e.leave = false → s.gov.rd F.DMD_MOD_CAP < e.aSelf →
          t.gov.hr.inForce = s.gov.hr.inForce ∧ t.gov.hr.raise = some (t.gov.gtime + 64, e.aSelf)
          ∧ t.gov.rd F.DMD_MOD_CAP = s.gov.rd F.DMD_MOD_CAP))
  ∧ (∀ (s : State) (t0 a : Nat), s.build.ok = true → s.gov.live = true → s.gov.hr.raise = some (t0, a) →
    ∃ t, exec .raisedCapApply s = .next t ∧ t.gov.hr.inForce = some a ∧ t.gov.hr.raise = none
      ∧ t.gov.gtime = max s.gov.gtime t0
      ∧ t.gov.rd F.DMD_MOD_CAP = (if s.gov.hrRootDev = true ∧ s.gov.rd F.HR_EPOCH_HALL_CAP = 0 then
          s.gov.rd F.BUD_MODCAP_LOCAL else min a (s.gov.rd F.BUD_MODCAP_MAX)) % 2 ^ 16)

/-! ## Placement -/

/-- R315 to R319, R320, R322, R440: a COPY is issued for a DEFERRED page that no write grant names, another order as it waits;
a completion moves its page on, or has the order issued once more, or is a protocol error; an order outstanding beyond ORD_TO
sets TIMEOUT; the walk of the residency table leaves no lost entry counted and withholds every frame that nothing names. -/
def Obligations.PlacementOrders : Prop :=
  (∀ (s : State) (p f : Nat), s.gov.ordsOut < 4096 → (s.gov.page p).state = pDEFERRED → (s.gov.page p).dst = some f →
      s.gov.writeRefs p = 0 →
    ∃ t o, exec (.orderIssue 1 p) s = .next t ∧ (t.gov.page p).state = pMOVING ∧ (t.gov.page p).abort = false
      ∧ t.gov.pl.ords = s.gov.pl.ords ++ [o] ∧ o.id = s.gov.pl.nextId ∧ o.kind = 1 ∧ o.page = p ∧ o.issued = true
      ∧ o.src = (s.gov.page p).frame ∧ o.dst = f ∧ o.tIssue = s.gov.gtime
      ∧ t.gov.pl.nextId = (s.gov.pl.nextId + 1) % 65536 ∧ t.gov.pl.plo = some o)
  ∧ (∀ (s : State) (k p : Nat) (o : Ord), s.gov.ordsOut < 4096 → k ≠ 1 →
      s.gov.pl.ords.find? (fun o => o.kind == k && o.page == p && !o.issued) = some o →
    ∃ t o', exec (.orderIssue k p) s = .next t ∧ t.gov.pl.ords = s.gov.pl.ords.erase o ++ [o']
      ∧ o'.id = s.gov.pl.nextId ∧ o'.kind = o.kind ∧ o'.page = o.page ∧ o'.src = o.src ∧ o'.issued = true
      ∧ t.gov.pl.nextId = (s.gov.pl.nextId + 1) % 65536)
  ∧ (∀ (s : State) (id : Nat) (o : Ord), s.gov.quiet → s.gov.pl.ords.find? (fun o => o.issued && o.id == id) = some o →
      o.kind = 1 → o.wo = false → (s.gov.page o.page).state = pMOVING → (s.gov.page o.page).abort = false →
    ∃ t q, exec (.orderCompletion id 0) s = .next t ∧ (t.gov.page o.page).state = pOLDKEEP
      ∧ (t.gov.page o.page).tier = frTier o.dst ∧ (t.gov.page o.page).loc = frLoc o.dst
      ∧ (t.gov.page o.page).ver = ((s.gov.page o.page).ver + 1) % 16 ∧ (t.gov.page o.page).old = some o.src
      ∧ t.gov.pl.ords = s.gov.pl.ords.erase o ++ [q] ∧ q.kind = 2 ∧ q.page = o.page ∧ q.issued = false)
  ∧ (∀ (s : State) (id code : Nat) (o : Ord), s.gov.quiet →
      s.gov.pl.ords.find? (fun o => o.issued && o.id == id) = some o → o.kind = 1 → o.wo = false →
      (s.gov.page o.page).state = pMOVING → code ≠ 0 ∨ (s.gov.page o.page).abort = true →
    ∃ t q, exec (.orderCompletion id code) s = .next t ∧ (t.gov.page o.page).state = pRESIDENT
      ∧ (t.gov.page o.page).loc = (s.gov.page o.page).loc ∧ (t.gov.page o.page).dst = none
      ∧ t.gov.pl.ords = s.gov.pl.ords.erase o ++ [q] ∧ q.kind = 3 ∧ q.src = o.dst ∧ q.issued = false)
  ∧ (∀ (s : State) (id f : Nat) (o : Ord), s.gov.quiet → s.gov.pl.ords.find? (fun o => o.issued && o.id == id) = some o →
      o.kind = 2 → o.wo = false → (s.gov.page o.page).state = pOLDKEEP → (s.gov.page o.page).uid = o.uid →
      (s.gov.page o.page).old = some f → s.gov.namedBefore o.page = false →
    ∃ t q, exec (.orderCompletion id 0) s = .next t ∧ (t.gov.page o.page).state = pRESIDENT
      ∧ (t.gov.page o.page).old = none ∧ t.gov.pl.ords = s.gov.pl.ords.erase o ++ [q] ∧ q.kind = 3 ∧ q.src = f)
  ∧ (∀ (s : State) (id : Nat) (o : Ord), s.gov.quiet → s.gov.pl.ords.find? (fun o => o.issued && o.id == id) = some o →
      o.kind = 3 → o.replyWait = false → s.gov.pl.held.contains o.src = false →
    ∃ t, exec (.orderCompletion id 0) s = .next t
      ∧ t.gov.framesUsed (frCont o.src)
          = (s.gov.framesUsed (frCont o.src)).filter (fun f => f != o.src % 2 ^ 18))
  ∧ (∀ (s : State) (id code : Nat) (o : Ord), s.gov.quiet →
      s.gov.pl.ords.find? (fun o => o.issued && o.id == id) = some o → o.kind = 2 ∨ o.kind = 3 → code ≠ 0 →
    ∃ t, exec (.orderCompletion id code) s = .next t
      ∧ (o.retried = false → ∃ q ∈ t.gov.pl.ords, q.kind = o.kind ∧ q.page = o.page ∧ q.src = o.src
          ∧ q.issued = false ∧ q.retried = true)
      ∧ (o.retried = true → o.kind = 3 → o.src ∈ t.gov.pl.held))
  ∧ (∀ (s : State) (id code : Nat), s.gov.live = true → s.gov.quiet →
      s.gov.pl.ords.find? (fun o => o.issued && o.id == id) = none →
    ∃ t, exec (.orderCompletion id code) s = .next t ∧ t.gov.rd F.PL_ORD_PROTO = 1 ∧ t.gov.pl = s.gov.pl
      ∧ t.gov.rd (F.PL_CNT_COUNT 5) = (s.gov.rd (F.PL_CNT_COUNT 5) + 1) % 2 ^ 48)
  ∧ (∀ (s : State) (id : Nat) (o : Ord), s.build.ok = true →
      s.gov.pl.ords.find? (fun o => o.issued && o.id == id && !o.late) = some o →
    ∃ t, exec (.orderTimeout id) s = .next t ∧ t.gov.rd F.PL_ORD_TIMEOUT = 1
      ∧ t.gov.gtime = max s.gov.gtime (o.tIssue + s.gov.rd F.PL_TD_ORD_TO * 1000 + 1))
  ∧ (∀ s : State, s.gov.quiet → s.gov.pl.walk = true → s.gov.pl.cur = none →
    ∃ t, exec .residencyWalkDone s = .next t ∧ t.gov.pl.walk = false ∧ t.gov.pl.lostPages = []
      ∧ (∀ sid, (s.gov.seqn sid).state ≠ qFREE → (t.gov.seqn sid).lostPg = 0)
      ∧ (∀ sid, (s.gov.seqn sid).state = qLIVE → 0 < (s.gov.seqn sid).lostPg →
          (t.gov.seqn sid).state = qDRAIN ∨ (t.gov.seqn sid).state = qFREE)
      ∧ ∀ e ∈ t.gov.pl.used, ∀ f ∈ e.2,
          frameOf (e.1 / 32) (e.1 % 32) f ∈ t.gov.framesNamed ∨ frameOf (e.1 / 32) (e.1 % 32) f ∈ t.gov.pl.held)

/-- R293, R295, R297, R311, R404: a descriptor that fails a check is refused with nothing changed but PL_LAST and the reply
header; one that passes is applied, its STEP becoming the last applied; when the reply is written the step is over and the
pending one starts; clearing the error bits of PL_STAT starts a pending step. -/
def Obligations.PlacementSteps : Prop :=
  (∀ (s : State) (l : List Nat) (c : PStep), s.gov.quiet → s.gov.pl.cur = some c → c.fetched = false →
      descCheck l s.gov ≠ 0 →
    ∃ t, exec (.descriptorFetchDone l) s = .next t ∧ t.gov.rd F.PL_LAST_STEP = (descOf l).step
      ∧ t.gov.rd F.PL_LAST_STATUS = descCheck l s.gov
      ∧ t.gov.pl = { s.gov.pl with cur := some { c with
          fetched := true, replyAddr := (descOf l).replyAddr,
          reply := replyHead (descCheck l s.gov) (descOf l).step s.gov.gtime s.gov.gtime 0 0 0 0 0 } })
  ∧ (∀ (s : State) (l : List Nat) (c : PStep), s.gov.quiet → s.gov.pl.cur = some c → c.fetched = false →
      descCheck l s.gov = 0 →
    ∃ t y, exec (.descriptorFetchDone l) s = .next t ∧ t.gov.rd F.PL_LAST_STEP = (descOf l).step
      ∧ t.gov.rd F.PL_LAST_APPLIED = 1 ∧ t.gov.pl.lastApplied = (descOf l).step
      ∧ (t.gov.rd F.PL_LAST_STATUS = 0 ∨ t.gov.rd F.PL_LAST_STATUS = 0x50)
      ∧ t.gov.pl.cur = some y ∧ y.fetched = true ∧ y.replyAddr = (descOf l).replyAddr
      ∧ y.reply.getD 0 0 = 1 + t.gov.rd F.PL_LAST_STATUS * 2 ^ 16 + (descOf l).step * 2 ^ 32
      ∧ y.reply.getD 1 0 = s.gov.gtime)
  ∧ (∀ (s : State) (c : PStep), s.gov.quiet → s.gov.pl.cur = some c → c.fetched = true →
      s.gov.pl.ords.any (fun o => o.replyWait) = false → s.gov.pl.revoked = [] →
    ∃ t, exec .stepReplyDone s = .next t
      ∧ (s.gov.pl.pend = none → t.gov.pl = { s.gov.pl with cur := none })
      ∧ (∀ p, s.gov.pl.pend = some p → s.gov.flag F.PL_STAT_FETCH_ERR = false →
          s.gov.flag F.PL_STAT_REPLY_ERR = false → s.gov.flag F.DMA_STAT_PL_ERR = false →
          t.gov.pl = { s.gov.pl with cur := some p, pend := none }))
  ∧ (∀ (s : State) (port w : Nat), s.gov.live = true → bit w 2 = true → bit w 3 = true →
    ∃ t, exec (.plStatClear port w) s = .next t ∧ t.gov.rd F.PL_STAT_FETCH_ERR = 0 ∧ t.gov.rd F.PL_STAT_REPLY_ERR = 0
      ∧ (∀ p, s.gov.pl.pend = some p → s.gov.pl.cur = none → s.gov.flag F.DMA_STAT_PL_ERR = false →
          t.gov.pl = { s.gov.pl with cur := some p, pend := none }))

/-! ## Mailboxes -/

/-- R340, R341, R343: a push the port may not make sets PORTERR, one that does not fit sets CQ_OVF, another enters its word as
header or parameter; a half at +0 is held; a pop gives the head reply word and clears STALE, and one of an empty queue sets
UNDER. -/
def Obligations.PushAndPop : Prop :=
  (∀ (s : State) (n port w : Nat) (high : Bool), s.gov.live = true → s.gov.quiet → n < 16 →
      (∀ m < 16, s.gov.head m = none) →
      s.gov.flag (F.MBX_CTL_EN n) = false ∨ s.gov.mayUse n port = false →
    ∃ t, exec (.mbxPush n port w true high) s = .next t ∧ t.gov.rd (F.MBX_STAT_PORTERR n) = 1
      ∧ (t.gov.mbx n).q = (s.gov.mbx n).q)
  ∧ (∀ (s : State) (n port w : Nat) (high : Bool), s.gov.live = true → s.gov.quiet → n < 16 →
      (∀ m < 16, s.gov.head m = none) → s.gov.flag (F.MBX_CTL_EN n) = true → s.gov.mayUse n port = true →
      32 ≤ (s.gov.mbx n).used →
    ∃ t, exec (.mbxPush n port w true high) s = .next t ∧ t.gov.rd (F.MBX_STAT_CQ_OVF n) = 1
      ∧ (t.gov.mbx n).q = (s.gov.mbx n).q)
  ∧ (∀ (s : State) (n port w : Nat) (high : Bool), s.gov.live = true → s.gov.quiet → n < 16 →
      (∀ m < 16, s.gov.head m = none) → s.gov.flag (F.MBX_CTL_EN n) = true → s.gov.mayUse n port = true →
      (s.gov.mbx n).q = [] → bits w 14 5 ≠ 0 →
    ∃ t, exec (.mbxPush n port w true high) s = .next t
      ∧ (t.gov.mbx n).q
          = [{ hdr := w, port := port, own := s.gov.rd (F.MBX_CTL_OWNER n), t0 := s.gov.gtime, whole := none }])
  ∧ (∀ (s : State) (n port w : Nat) (high : Bool) (p : Pkt), s.gov.live = true → s.gov.quiet → n < 16 →
      (∀ m < 16, s.gov.head m = none) → s.gov.flag (F.MBX_CTL_EN n) = true → s.gov.mayUse n port = true →
      (s.gov.mbx n).q = [p] → p.params.length + 1 < 32 → p.params.length + 1 ≠ p.len →
    ∃ t, exec (.mbxPush n port w true high) s = .next t
      ∧ (t.gov.mbx n).q = [{ p with params := p.params ++ [w] }])
  ∧ (∀ (s : State) (n port w : Nat), s.gov.live = true → s.gov.quiet → n < 16 →
    ∃ t, exec (.mbxPush n port w false false) s = .next t ∧ mfind (t.gov.mbx n).half port = some (w % 2 ^ 32)
      ∧ (t.gov.mbx n).q = (s.gov.mbx n).q)
  ∧ (∀ (s : State) (n port x : Nat) (r : List Nat) (high : Bool), s.gov.live = true → s.gov.quiet → n < 16 →
      (∀ m < 16, s.gov.head m = none) → s.gov.mayUse n port = true → (s.gov.mbx n).rq = x :: r →
    ∃ t, exec (.mbxPop n port true high) s = .next t ∧ (t.gov.mbx n).rq = r ∧ t.gov.rd (F.MBX_STAT_STALE n) = 0
      ∧ mget {} t.gov.io.hrs port = { data := x })
  ∧ (∀ (s : State) (n port : Nat) (high : Bool), s.gov.live = true → s.gov.quiet → n < 16 →
      (∀ m < 16, s.gov.head m = none) → s.gov.mayUse n port = true → (s.gov.mbx n).rq = [] →
    ∃ t, exec (.mbxPop n port true high) s = .next t ∧ t.gov.rd (F.MBX_STAT_UNDER n) = 1
      ∧ mget {} t.gov.io.hrs port = { data := 0 })

/-- R347, R348, R352 to R355, R370: a whole packet that the engine may take leaves its queue, and MBX_ACK shows the code of the
first check it fails, 0 for a NOP that passes; an incomplete packet is discarded and answered 0x24; unread replies set STALE;
a command too long in progress is recorded; a reset empties the mailbox and moves MGEN on. -/
def Obligations.PacketsAndTimeouts : Prop :=
  (∀ (s : State) (bad : List Nat) (lose : Option Nat) (n : Nat) (p : Pkt) (c : Cmd), s.gov.live = true → s.gov.quiet →
      n < 16 → (s.gov.mbx n).q = [p] → p.whole.isSome = true → s.gov.takeable n p = true →
      (∀ m < 16, m ≠ n → s.gov.head m = none) →
      c = { mbx := n, port := p.port, cls := p.cls, op := p.op, len := p.len, arg := bits p.hdr 32 32,
            params := p.params } →
      cmdRefused s.build c p.hres s.gov ≠ 0 ∨ p.op = 0 →
    ∃ t, exec (.commandTake bad lose) s = .next t ∧ (t.gov.mbx n).q = []
      ∧ t.gov.rd (F.MBX_ACK_CODE n) = cmdRefused s.build c p.hres s.gov ∧ t.gov.rd (F.MBX_ACK_OPCODE n) = p.op
      ∧ t.gov.mb.cmds = [] ∧ t.mem = s.mem)
  ∧ (∀ (s : State) (n : Nat) (p : Pkt), s.gov.live = true → s.gov.quiet → n < 16 → (∀ m < 16, s.gov.head m = none) →
      (s.gov.mbx n).q = [p] → p.whole = none →
    ∃ t, exec (.senderTimeout n) s = .next t ∧ (t.gov.mbx n).q = [] ∧ t.gov.rd (F.MBX_STAT_TRUNC n) = 1
      ∧ t.gov.rd (F.MBX_ACK_CODE n) = 0x24
      ∧ t.gov.gtime = max s.gov.gtime (p.t0 + 1000 * s.gov.rd F.MBX_TO_PKT_TO))
  ∧ (∀ (s : State) (n : Nat), s.gov.live = true → n < 16 → (s.gov.mbx n).rq ≠ [] →
      s.gov.flag (F.MBX_STAT_STALE n) = false →
    ∃ t, exec (.receiverTimeout n) s = .next t ∧ t.gov.rd (F.MBX_STAT_STALE n) = 1
      ∧ (t.gov.mbx n).rq = (s.gov.mbx n).rq
      ∧ t.gov.gtime = max s.gov.gtime ((s.gov.mbx n).popT + 1000000 * s.gov.rd F.MBX_TO_RPL_TO))
  ∧ (∀ (s : State) (i : Nat) (c : Cmd), s.gov.live = true → mfind s.gov.mb.cmds i = some c → c.late = false →
      c.wait ≠ 2 ∨ s.gov.rd F.CFG_STAT_STATE = 3 →
    ∃ t, exec (.executionTimeout i) s = .next t ∧ (t.gov.cmd i).late = true ∧ t.gov.rd F.DW_STAT_CAUSE = 10
      ∧ t.gov.gtime = max s.gov.gtime
          ((if c.wait = 2 then s.gov.rd F.CFG_TC_TC else c.tTake) + 1000000 * s.gov.rd F.MBX_TO_EXE_TO))
  ∧ (∀ (s : State) (n port : Nat), s.gov.live = true → n < 16 →
    ∃ t, exec (.mbxCtlRst n port) s = .next t ∧ t.gov.mbx n = {}
      ∧ t.gov.rd (F.MBX_STAT_MGEN n) = (s.gov.rd (F.MBX_STAT_MGEN n) + 1) % 2 ^ 4
      ∧ t.gov.rd (F.MBX_CTL_OWNER n) = s.gov.rd (F.MBX_CTL_OWNER n))

/-! ## The lock and the configuration stage -/

/-- R360, R361: a read of GOV_LOCK that reaches its low half takes a free lock; RELEASE by the owner, FORCE by any port and
LOCK_TO without an access free it; a RELEASE by another port sets LOCKERR. -/
def Obligations.LockRules : Prop :=
  (∀ (s : State) (port : Nat) (wide high : Bool), s.gov.live = true →
    ∃ t, exec (.govLockRead port wide high) s = .next t
      ∧ t.gov.rd F.GOV_LOCK_OWNER
          = (if s.gov.rd F.GOV_LOCK_OWNER = 7 ∧ (wide || !high) = true then port % 8
             else s.gov.rd F.GOV_LOCK_OWNER))
  ∧ (∀ (s : State) (port : Nat), s.gov.live = true →
    ∃ t, exec (.govLockRelease port) s = .next t
      ∧ (s.gov.rd F.GOV_LOCK_OWNER = port → t.gov.rd F.GOV_LOCK_OWNER = 7
          ∧ (s.gov.rd F.CFG_STAT_STATE = 1 → t.gov.rd F.CFG_STAT_STATE = 0 ∧ t.gov.rd F.CFG_STAT_OWNER = 7))
      ∧ (s.gov.rd F.GOV_LOCK_OWNER ≠ port →
          t.gov.rd F.GOV_STAT_LOCKERR = 1 ∧ t.gov.rd F.GOV_LOCK_OWNER = s.gov.rd F.GOV_LOCK_OWNER))
  ∧ (∀ (s : State) (port : Nat), s.gov.live = true →
    ∃ t, exec (.govLockForce port) s = .next t ∧ t.gov.rd F.GOV_LOCK_OWNER = 7
      ∧ (s.gov.rd F.GOV_LOCK_OWNER ≠ 7 → t.gov.rd F.GOV_LOCK_BROKEN = 1)
      ∧ (s.gov.rd F.GOV_LOCK_OWNER = 7 → t.gov.rd F.GOV_LOCK_BROKEN = s.gov.rd F.GOV_LOCK_BROKEN))
  ∧ (∀ s : State, s.gov.live = true → s.gov.rd F.GOV_LOCK_OWNER ≠ 7 → s.gov.rd F.GOV_LOCK_LOCK_TO ≠ 0 →
    ∃ t, exec .lockTimeout s = .next t ∧ t.gov.rd F.GOV_LOCK_OWNER = 7 ∧ t.gov.rd F.GOV_LOCK_BROKEN = 1
      ∧ t.gov.gtime = max s.gov.gtime
          (mget 0 s.gov.cfg.access (s.gov.rd F.GOV_LOCK_OWNER) + 1000000 * s.gov.rd F.GOV_LOCK_LOCK_TO))

/-- R362 to R364: an OPEN by the owner of the lock begins the copy and sets DIRTY, by another port it is refused with 0x30;
the copy's end opens the stage over the retained fields; an ABORT by the stage's owner ends it; a rewritten check word covers
the images and clears DIRTY where it may. -/
def Obligations.StageOpenAbort : Prop :=
  (∀ (s : State) (port : Nat), s.gov.live = true → s.gov.rd F.GOV_LOCK_OWNER = port → s.gov.committing = false →
      sDISCOVER ≤ s.gov.stage → s.gov.cfg.copyAt = none → s.gov.rd F.CFG_STAT_STATE ≠ 1 →
    ∃ t, exec (.cfgStageOpen port) s = .next t ∧ t.gov.cfg.copyAt = some s.gov.gtime
      ∧ t.gov.rd F.CFG_STAT_OWNER = port % 8 ∧ t.gov.rd F.CFG_STAT_DIRTY = 1)
  ∧ (∀ (s : State) (port : Nat), s.gov.live = true → s.gov.rd F.GOV_LOCK_OWNER ≠ port →
    ∃ t, exec (.cfgStageOpen port) s = .next t ∧ t.gov.rd F.CFG_STAT_RESULT = 0x30
      ∧ t.gov.rd F.CFG_STAT_REFUSED = 1 ∧ t.gov.cfg.copyAt = s.gov.cfg.copyAt)
  ∧ (∀ s : State, s.gov.live = true → s.gov.cfg.copyAt.isSome = true → s.gov.mb.cmds = [] →
    ∃ t, exec .shadowCopyDone s = .next t ∧ t.gov.cfg.copyAt = none
      ∧ (s.gov.cfg.abandon = false → t.gov.rd F.CFG_STAT_STATE = 1 ∧ t.gov.rd F.CFG_STAT_RESULT = 0
          ∧ t.gov.cfg.shadow = regsRetained s.gov.regs)
      ∧ (s.gov.cfg.abandon = true → t.gov.rd F.CFG_STAT_STATE = 0 ∧ t.gov.rd F.CFG_STAT_RESULT = 0x30
          ∧ t.gov.rd F.CFG_STAT_OWNER = 7))
  ∧ (∀ (s : State) (port : Nat), s.gov.live = true → s.gov.rd F.CFG_STAT_STATE = 1 →
    ∃ t, exec (.cfgStageAbort port) s = .next t
      ∧ (s.gov.rd F.CFG_STAT_OWNER = port → t.gov.rd F.CFG_STAT_STATE = 0 ∧ t.gov.rd F.CFG_STAT_OWNER = 7
          ∧ t.gov.cfg.shadow = regsRetained t.gov.regs)
      ∧ (s.gov.rd F.CFG_STAT_OWNER ≠ port → t.gov.rd F.CFG_STAT_STATE = 1 ∧ t.gov.rd F.CFG_STAT_REFUSED = 1))
  ∧ (∀ (s : State) (r : Rewrite), s.gov.live = true → s.gov.cfg.rewrite = some r →
    ∃ t, exec .checkWordRewritten s = .next t ∧ t.gov.cfg.rewrite = none
      ∧ t.gov.gtime = max s.gov.gtime (r.start + 65536)
      ∧ t.gov.cfg.chk = some (regsRetained s.gov.regs, s.gov.cfg.shadow) ∧ t.gov.cfg.chkInv = false
      ∧ (r.clears = true → r.spoiled = false → t.gov.rd F.CFG_STAT_DIRTY = 0)
      ∧ (r.clears = false ∨ r.spoiled = true → t.gov.rd F.CFG_STAT_DIRTY = s.gov.rd F.CFG_STAT_DIRTY))

/-- R365 to R367: a commit by the owner of the lock with an instant that may stand begins validation, another is refused with
its code; validation refuses with the lowest failing register or fixes Tc and complements the check word; at Tc every retained
field outside the rails takes its staged value, but FT_CFG and FT_DTRIM under LOCK; when no rail waits the check word is written, DIRTY clears and STATE is
IDLE. -/
def Obligations.CommitRules : Prop :=
  (∀ (s : State) (port w : Nat), s.gov.live = true → s.gov.rd F.GOV_LOCK_OWNER = port → s.gov.committing = false →
      s.gov.cfg.copyAt = none → (s.gov.rd F.CFG_STAT_STATE = 1 → s.gov.probeBlocks = false) → w < 2 ^ 64 →
      w = 0 ∨ s.gov.gtime + 40000 ≤ w → w ≤ s.gov.gtime + 2 ^ 32 →
    ∃ t c, exec (.cfgCommitWrite port w) s = .next t ∧ t.gov.rd F.CFG_STAT_STATE = 2 ∧ t.gov.cfg.commit = some c
      ∧ c.atT = w ∧ c.t0 = s.gov.gtime ∧ c.staged = decide (s.gov.rd F.CFG_STAT_STATE = 1) ∧ c.applied = false)
  ∧ (∀ (s : State) (port w : Nat), s.gov.live = true → w < 2 ^ 64 →
    ∃ t, exec (.cfgCommitWrite port w) s = .next t
      ∧ (s.gov.rd F.GOV_LOCK_OWNER ≠ port → t.gov.rd F.CFG_STAT_RESULT = 0x30 ∧ t.gov.rd F.CFG_STAT_REFUSED = 1
          ∧ t.gov.rd F.CFG_STAT_STATE = s.gov.rd F.CFG_STAT_STATE)
      ∧ (s.gov.rd F.GOV_LOCK_OWNER = port → s.gov.committing = false → s.gov.cfg.copyAt = none →
          s.gov.rd F.CFG_STAT_STATE ≠ 1 →
          (w ≠ 0 → w < s.gov.gtime + 40000 →
            t.gov.rd F.CFG_STAT_RESULT = 0x40 ∧ t.gov.rd F.CFG_STAT_REFUSED = 1)
          ∧ (s.gov.gtime + 2 ^ 32 < w → t.gov.rd F.CFG_STAT_RESULT = 0x41 ∧ t.gov.rd F.CFG_STAT_REFUSED = 1)))
  ∧ (∀ (s : State) (c : Commit), s.gov.live = true → s.gov.mb.cmds = [] → s.gov.cfg.commit = some c →
      s.gov.rd F.CFG_STAT_STATE = 2 →
    ∃ t, exec .validationDone s = .next t
      ∧ (∀ off, c.staged = true → commitBad s.build s.gov = some off →
          s.gov.rd F.GOV_LOCK_OWNER = s.gov.rd F.CFG_STAT_OWNER →
          t.gov.rd F.CFG_STAT_STATE = 1 ∧ t.gov.rd F.CFG_STAT_BADOFS = off % 2 ^ 20
          ∧ t.gov.rd F.CFG_STAT_RESULT = 0x25 ∧ t.gov.rd F.CFG_STAT_REFUSED = 1 ∧ t.gov.cfg.commit = none)
      ∧ (c.staged = false ∨ commitBad s.build s.gov = none →
          t.gov.rd F.CFG_STAT_STATE = 3
          ∧ t.gov.rd F.CFG_TC_TC = (if c.atT = 0 then s.gov.gtime else c.atT) % 2 ^ 64
          ∧ t.gov.cfg.commit = some { c with tc := if c.atT = 0 then s.gov.gtime else c.atT }
          ∧ t.gov.cfg.chkInv = true ∧ t.gov.rd F.CFG_STAT_DIRTY = 1))
  ∧ (∀ (s : State) (c : Commit), s.build.ok = true → s.gov.live = true → s.gov.quiet →
      (∀ e ∈ s.gov.probes, e.2.inPulse = false) → s.gov.cfg.commit = some c →
      s.gov.rd F.CFG_STAT_STATE = 3 → c.applied = false →
    ∃ t e, exec .commitInstant s = .next t ∧ t.gov.gtime = max s.gov.gtime c.tc ∧ t.gov.cfg.commit = some e
      ∧ e.applied = true ∧ (c.staged = false → e.nchg = 0)
      ∧ (c.staged = true → ∀ f : Fld, f.keep = .retained → fldOfKey f.key = some f → railRow f.off = none →
          t.gov.rd f = (if s.gov.flag F.FT_ACT_LOCK = true ∧ (f.off = 0xC200 ∨ 0xC400 ≤ f.off ∧ f.off < 0xC500) then
            s.gov.rd f else mget f.rst s.gov.cfg.shadow f.key)))
  ∧ (∀ (s : State) (c : Commit), s.gov.live = true → s.gov.mb.cmds = [] → s.gov.cfg.commit = some c →
      c.applied = true → (∀ n < s.build.rails, (s.gov.rail n).commitAt = none) →
    ∃ t, exec .commitComplete s = .next t ∧ t.gov.cfg.commit = none ∧ t.gov.rd F.CFG_STAT_STATE = 0
      ∧ t.gov.rd F.CFG_STAT_DIRTY = 0 ∧ t.gov.rd F.CFG_STAT_OWNER = 7 ∧ t.gov.rd F.CFG_STAT_RESULT = 0
      ∧ t.gov.rd F.CFG_STAT_NCHG = c.nchg % 2 ^ 16 ∧ t.gov.gtime = max s.gov.gtime (c.last + 65536)
      ∧ t.gov.cfg.chk = some (regsRetained s.gov.regs, s.gov.cfg.shadow))

/-! ## Opcodes -/

/-- R376 to R383: the system opcodes: NOP answers; the queries answer registers as they stand; REG_READ and REG_WRITE act as an
access of the pushing port; STORE_READ and STORE_WRITE pass over the store's words; CFG_OPEN and CFG_COMMIT wait, CFG_ABORT
ends a stage; LOCK takes, releases and forces; BRG_START and BRG_STOP answer 0x02 where they are accepted, else 0x10. -/
def Obligations.SystemOpcodes : Prop :=
  (∀ (s : State) (x : Packet), s.takes 0x000 x.arg x →
    ∃ t, exec (.nop x) s = .next t ∧ s.answered t x 0x000 0 [])
  ∧ (∀ (s : State) (x : Packet), s.takes 0x001 x.arg x →
    ∃ t d, exec (.ident x) s = .next t ∧ s.answered t x 0x001 0 d ∧ d.length = 4
      ∧ d.getD 0 0 % 2 ^ 32 = s.gov.regWord s.build 15 0x0 % 2 ^ 32)
  ∧ (∀ (op : Nat) (l : List Nat) (c : Packet → Instr),
      (op, l, c) ∈ [(0x002, [0x2000, 0x12108, 0x2050, 0xA008, 0xC008, 0xC210], Instr.status),
        (0x110, 0xA2C0 :: (offsets 0xA200 8 8 ++ offsets 0xA240 8 16), Instr.budQuery),
        (0x740, [0x14038], Instr.svcQuery)] →
      ∀ (s : State) (x : Packet), s.takes op x.arg x →
    ∃ t, exec (c x) s = .next t
      ∧ s.answered t x op 0 (l.map (fun o => (s.taken op x.arg x).regWord s.build x.port o)))
  ∧ (∀ (op : Nat) (l : List Nat) (c : Packet → Instr),
      (op, l, c) ∈ [(0x122, [0xE208, 0xE218, 0xE220] ++ offsets 0xE380 8 9, Instr.hrQuery),
        (0x503, [0x10010, 0x10018, 0x10028, 0x10030] ++ offsets 0x10080 8 8, Instr.plQuery)] →
      ∀ (s : State) (x : Packet), s.takes op x.arg x →
    ∃ t, exec (c x) s = .next t
      ∧ s.answered t x op 0 ((s.command op x.arg x).reads s.build l (s.taken op x.arg x)).2)
  ∧ (∀ (s : State) (x : Packet), s.takes 0x008 x.arg x →
    ∃ t, exec (.regRead x) s = .next t
      ∧ s.answered t x 0x008 0 [(regRead s.build x.port x.arg maskAll (s.taken 0x008 x.arg x)).2])
  ∧ (∀ (s : State) (x : Packet) (r : Gov × Nat), s.takes 0x009 x.arg x →
      r = regWrite s.build x.port x.arg (x.params.getD 0 0) (x.params.getD 1 maskAll) (s.taken 0x009 x.arg x) →
      r.1.mb = (s.taken 0x009 x.arg x).mb →
      r.1.rd (F.MBX_STAT_MGEN x.mbx) = s.gov.rd (F.MBX_STAT_MGEN x.mbx) →
    ∃ t, exec (.regWrite x) s = .next t
      ∧ s.answered t x 0x009 r.2 [r.1.regWord s.build x.port x.arg])
  ∧ (∀ (s : State) (x : Packet) (bad : List Nat) (r : Gov × List Host.Cell × List Nat), s.takes 0x00A x.arg x →
      r = storeReadWords s.build bad (bits x.arg 24 5) (bits x.arg 0 24) (s.taken 0x00A x.arg x) s.mem →
    ∃ t, exec (.storeRead x bad) s = .next t ∧ t.mem = r.2.1 ∧ (bad = [] → s.answered t x 0x00A 0 r.2.2))
  ∧ (∀ (s : State) (x : Packet) (lose : Option Nat) (n : Nat), s.takes 0x00B x.arg x →
      n = storeWritten { lose := lose } (s.command 0x00B x.arg x) (s.taken 0x00B x.arg x) →
    ∃ t, exec (.storeWrite x lose) s = .next t
      ∧ t.mem = storeWriteWords (bits x.arg 0 24) (x.params.take n) (s.taken 0x00B x.arg x) s.mem
      ∧ s.answered t x 0x00B (if n = x.params.length then 0 else 0x50) [n]
      ∧ (lose = none → n = x.params.length))
  ∧ (∀ (s : State) (x : Packet), s.takes 0x010 x.arg x →
    ∃ t, exec (.cfgOpen x) s = .next t
      ∧ (s.gov.committing = false → s.gov.cfg.copyAt = none → s.gov.rd F.CFG_STAT_STATE ≠ 1 →
          s.waits t 0x010 1 ∧ t.gov.cfg.copyAt = some s.gov.gtime)
      ∧ (s.gov.rd F.CFG_STAT_STATE = 1 → s.gov.rd F.CFG_STAT_OWNER = x.port → s.answered t x 0x010 1 [])
      ∧ (s.gov.committing = true → s.answered t x 0x010 0x11 []))
  ∧ (∀ (s : State) (x : Packet) (w : Nat), s.takes 0x011 x.arg x → s.gov.committing = false →
      s.gov.cfg.copyAt = none → s.gov.rd F.CFG_STAT_STATE ≠ 1 → w = x.params.getD 0 0 →
    ∃ t, exec (.cfgCommit x) s = .next t
      ∧ (w = 0 ∨ s.gov.gtime + 40000 ≤ w → w ≤ s.gov.gtime + 2 ^ 32 →
          s.waits t 0x011 2 ∧ t.gov.rd F.CFG_STAT_STATE = 2)
      ∧ (w ≠ 0 → w < s.gov.gtime + 40000 →
          s.answered t x 0x011 0x40 [s.gov.rd F.CFG_TC_TC, s.gov.rd F.CFG_STAT_NCHG]))
  ∧ (∀ (s : State) (x : Packet), s.takes 0x012 x.arg x →
    ∃ t, exec (.cfgAbort x) s = .next t
      ∧ (s.gov.rd F.CFG_STAT_STATE = 1 → s.gov.rd F.CFG_STAT_OWNER = x.port →
          s.answered t x 0x012 0 [] ∧ t.gov.rd F.CFG_STAT_STATE = 0)
      ∧ (s.gov.rd F.CFG_STAT_STATE ≠ 1 → s.answered t x 0x012 1 []))
  ∧ (∀ (s : State) (x : Packet), s.takes 0x018 1 x →
    ∃ t d, exec (.lockTake x) s = .next t
      ∧ (s.gov.rd F.GOV_LOCK_OWNER = 7 ∨ s.gov.rd F.GOV_LOCK_OWNER = x.port →
          s.answered t x 0x018 0 [d] ∧ t.gov.rd F.GOV_LOCK_OWNER = x.port)
      ∧ (s.gov.rd F.GOV_LOCK_OWNER ≠ 7 → s.gov.rd F.GOV_LOCK_OWNER ≠ x.port →
          s.answered t x 0x018 0x11 [d] ∧ t.gov.rd F.GOV_LOCK_OWNER = s.gov.rd F.GOV_LOCK_OWNER))
  ∧ (∀ (s : State) (x : Packet), s.takes 0x018 2 x →
    ∃ t d, exec (.lockRelease x) s = .next t
      ∧ (s.gov.rd F.GOV_LOCK_OWNER = x.port → s.answered t x 0x018 0 [d] ∧ t.gov.rd F.GOV_LOCK_OWNER = 7)
      ∧ (s.gov.rd F.GOV_LOCK_OWNER ≠ x.port →
          s.answered t x 0x018 0x30 [d] ∧ t.gov.rd F.GOV_LOCK_OWNER = s.gov.rd F.GOV_LOCK_OWNER))
  ∧ (∀ (s : State) (x : Packet), s.takes 0x018 4 x →
    ∃ t d, exec (.lockForce x) s = .next t ∧ s.answered t x 0x018 0 [d] ∧ t.gov.rd F.GOV_LOCK_OWNER = 7)
  ∧ (∀ (s : State) (x : Packet), s.build.ok = true → s.takes 0x020 x.arg x →
    ∃ t d, exec (.brgStart x) s = .next t
      ∧ (s.gov.stage = sWAITCFG ∨ s.gov.stage = sOFF → startCheck s.build s.gov = none →
          s.answered t x 0x020 2 [d] ∧ t.gov.stage = sSEQUP)
      ∧ (s.gov.stage = sWAITCFG ∨ s.gov.stage = sOFF → startCheck s.build s.gov ≠ none →
          s.answered t x 0x020 0x25 [d] ∧ t.gov.stage = s.gov.stage)
      ∧ (s.gov.stage ≠ sWAITCFG → s.gov.stage ≠ sOFF →
          s.answered t x 0x020 0x10 [d] ∧ t.gov.stage = s.gov.stage))
  ∧ (∀ (s : State) (x : Packet), s.build.ok = true → s.takes 0x021 x.arg x →
    ∃ t d, exec (.brgStop x) s = .next t
      ∧ (s.gov.stage = sREADY → s.gov.probes = [] →
          s.answered t x 0x021 2 [d] ∧ t.gov.brg.govReady = false ∧ t.gov.brg.wasReady = true)
      ∧ (s.gov.stopTaken = false → s.answered t x 0x021 0x10 [d] ∧ t.gov.stage = s.gov.stage))

/-- R384 to R391: a throttle opcode sets the level of the dies it names and answers the levels before; HR_EPOCH_NOW announces
an epoch or says why not; HR_FORGET ends a hold; RAIL_OPEN sets OPEN, RAIL_CSET asks for the switch and waits; the queries
answer registers as read. -/
def Obligations.RailOpcodes : Prop :=
  (∀ (s : State) (x : Packet), s.build.ok = true → s.takes 0x100 x.arg x →
    ∃ t, exec (.throttleAll x) s = .next t ∧ s.answered t x 0x100 0 [s.gov.throttles]
      ∧ ∀ d < s.build.dies, t.gov.rd (F.ST_THR_TLVL d) = bits x.arg 0 3)
  ∧ (∀ (s : State) (x : Packet), s.build.ok = true → s.takes 0x101 x.arg x →
    ∃ t, exec (.throttleDie x) s = .next t ∧ s.answered t x 0x101 0 [s.gov.throttles]
      ∧ ∀ d < s.build.dies, t.gov.rd (F.ST_THR_TLVL d)
          = (if bit x.arg d then bits x.arg 8 3 else s.gov.rd (F.ST_THR_TLVL d)))
  ∧ (∀ (s : State) (x : Packet), s.takes 0x120 x.arg x →
    ∃ t, exec (.hrEpochNow x) s = .next t
      ∧ (s.gov.hrRootDev = false → s.answered t x 0x120 0x13 [])
      ∧ (s.gov.hrRootDev = true → s.gov.rd F.HR_EPOCH_HALL_CAP = 0 → s.answered t x 0x120 0x14 [])
      ∧ (s.gov.hrRootDev = true → s.gov.rd F.HR_EPOCH_HALL_CAP ≠ 0 → s.gov.hrNextEpoch.isSome = true →
          s.answered t x 0x120 0x11 [])
      ∧ (s.gov.hrRootDev = true → s.gov.rd F.HR_EPOCH_HALL_CAP ≠ 0 → s.gov.hrNextEpoch = none →
          ∃ e, t.gov.hrNextEpoch = some e ∧ s.answered t x 0x120 0 [e.num, e.time]
            ∧ e.num = (s.gov.hr.epRx + 1) % 65536))
  ∧ (∀ (s : State) (x : Packet), s.takes 0x121 x.arg x →
    ∃ t, exec (.hrForget x) s = .next t
      ∧ ((s.gov.hlink x.arg).hold = none → s.answered t x 0x121 1 [])
      ∧ ((s.gov.hlink x.arg).hold ≠ none → s.answered t x 0x121 0 [] ∧ (t.gov.hlink x.arg).hold = none
          ∧ t.gov.rd (F.HR_CALLOC_CUR x.arg) = 0))
  ∧ (∀ (s : State) (x : Packet), s.takes 0x200 x.arg x →
    ∃ t, exec (.railQuery x) s = .next t
      ∧ s.answered t x 0x200 0 ((s.command 0x200 x.arg x).reads s.build [0x4500 + 8 * x.arg, 0x4580 + 8 * x.arg,
          0x4A80 + 8 * x.arg, 0x4D00 + 8 * x.arg, 0xA180 + 8 * x.arg] (s.taken 0x200 x.arg x)).2)
  ∧ (∀ (s : State) (x : Packet), s.takes 0x201 x.arg x → (s.gov.rail x.arg).count ≠ 0 →
    ∃ t, exec (.railPhases x) s = .next t
      ∧ s.answered t x 0x201 0 ((s.command 0x201 x.arg x).reads s.build
          (offsets (0x8000 + 8 * (s.gov.rail x.arg).first) 8 (min 24 (s.gov.rail x.arg).count))
          (s.taken 0x201 x.arg x)).2)
  ∧ (∀ (s : State) (x : Packet) (n : Nat), s.takes 0x202 x.arg x → n = bits x.arg 0 4 →
    ∃ t d, exec (.railOpen x) s = .next t
      ∧ (s.gov.railIdle n = true → s.answered t x 0x202 0x14 [d])
      ∧ (s.gov.railIdle n = false → s.gov.flag (F.RAIL_STAT_PEND n) = true → s.answered t x 0x202 0x11 [d])
      ∧ (s.gov.railIdle n = false → s.gov.flag (F.RAIL_STAT_PEND n) = false → s.gov.stage = sREADY →
          s.gov.rd (F.RAIL_CTL_OPEN n) ≠ bits x.arg 8 1 →
          s.answered t x 0x202 0 [d] ∧ t.gov.rd (F.RAIL_CTL_OPEN n) = bits x.arg 8 1))
  ∧ (∀ (s : State) (x : Packet) (n : Nat), s.takes 0x203 x.arg x → s.gov.noStage → n = bits x.arg 0 4 →
    ∃ t d, exec (.railCset x) s = .next t
      ∧ (s.gov.mode n ≠ mCLOSED → s.gov.mode n ≠ mOPEN → s.gov.mode n ≠ mBURST → s.answered t x 0x203 0x14 [d])
      ∧ (s.gov.mode n = mCLOSED ∨ s.gov.mode n = mOPEN ∨ s.gov.mode n = mBURST →
          s.gov.flag (F.RAIL_STAT_PEND n) = false → s.gov.stage = sREADY →
          s.gov.rd (F.RAIL_STAT_CSET_ACT n) ≠ bits x.arg 8 2 →
          s.waits t 0x203 3 ∧ (t.gov.rail n).csetReq = some (bits x.arg 8 2)
          ∧ t.gov.rd (F.RAIL_CTL_CSET n) = bits x.arg 8 2))

/-- R392 to R397: signatures of a range that are free and sound are loaded, and unloaded; a context is opened, revoked and
closed; an announcement held is cancelled; a requester is reset and enabled; the queries answer the entries' contents. -/
def Obligations.DemandOpcodes : Prop :=
  (∀ (s : State) (x : Packet), s.takes 0x300 x.arg x →
    ∃ t code d, exec (.sigLoad x) s = .next t ∧ s.answered t x 0x300 code [d]
      ∧ (∀ id y, mfind s.gov.dm.sigs id = some y → mfind t.gov.dm.sigs id = some y)
      ∧ (∀ id, x.arg ≤ id → id < x.arg + x.params.getD 0 1 → mfind s.gov.dm.sigs id = none →
          s.gov.sigRefs id = 0 →
          (sigCheck s.build id (memBytes (seenMem s.gov s.mem) (sigAddr id) 64) = 0 →
            mfind t.gov.dm.sigs id = some (sigDecode (memBytes (seenMem s.gov s.mem) (sigAddr id) 64)))
          ∧ (sigCheck s.build id (memBytes (seenMem s.gov s.mem) (sigAddr id) 64) ≠ 0 →
              mfind t.gov.dm.sigs id = none ∧ code ≠ 0))
      ∧ ∀ id, (id < x.arg ∨ x.arg + x.params.getD 0 1 ≤ id) → mfind t.gov.dm.sigs id = mfind s.gov.dm.sigs id)
  ∧ (∀ (s : State) (x : Packet), s.takes 0x301 x.arg x →
    ∃ t code n, exec (.sigUnload x) s = .next t ∧ s.answered t x 0x301 code [n] ∧ (code = 1 ↔ n = 0)
      ∧ ∀ id, mfind t.gov.dm.sigs id
          = (if x.arg ≤ id ∧ id < x.arg + x.params.getD 0 1 then none else mfind s.gov.dm.sigs id))
  ∧ (∀ (s : State) (x : Packet) (y : Sig), s.takes 0x302 x.arg x → mfind s.gov.dm.sigs x.arg = some y →
    ∃ t, exec (.sigQuery x) s = .next t
      ∧ s.answered t x 0x302 0 [1 + min 65535 (s.gov.sigRefs x.arg) * 2 ^ 4 + y.railA * 2 ^ 20 + y.railB * 2 ^ 24
          + y.segA.length * 2 ^ 28 + y.segB.length * 2 ^ 31,
          segPeak y.segA + segPeak y.segB * 2 ^ 16 + y.ver * 2 ^ 32])
  ∧ (∀ (s : State) (x : Packet), s.takes 0x310 x.arg x →
    ∃ t, exec (.ctxOpen x) s = .next t
      ∧ ((s.gov.ctx (bits x.arg 0 12)).st = 0 →
          s.gov.inTeardown (bits x.arg 0 12) (bits x.arg 12 8) = false →
          s.answered t x 0x310 0 [] ∧ t.gov.policy (bits x.arg 0 12) = policyReset
          ∧ t.gov.ctx (bits x.arg 0 12)
              = { st := 1, cgen := bits x.arg 12 8, part := bits x.arg 20 4, cmin := bits x.arg 24 2 })
      ∧ ((s.gov.ctx (bits x.arg 0 12)).st ≠ 0 → s.answered t x 0x310 0x11 []
          ∧ t.gov.ctx (bits x.arg 0 12) = s.gov.ctx (bits x.arg 0 12)))
  ∧ (∀ (s : State) (x : Packet), s.takes 0x311 x.arg x →
    ∃ t, exec (.ctxRevoke x) s = .next t
      ∧ ((s.gov.ctx x.arg).st = 1 → (t.gov.ctx x.arg).st = 2
          ∧ s.answered t x 0x311 0 [(s.gov.grantsBy (fun e => e.st == 1 && e.ctx == x.arg)).length
              + (s.gov.grantsBy (fun e => e.st == 2 && e.ctx == x.arg)).length * 2 ^ 16])
      ∧ ((s.gov.ctx x.arg).st = 0 → s.answered t x 0x311 0x14 [])
      ∧ ((s.gov.ctx x.arg).st = 2 → s.answered t x 0x311 1
          [(s.gov.grantsBy (fun e => e.st == 2 && e.ctx == x.arg)).length * 2 ^ 16]))
  ∧ (∀ (s : State) (x : Packet), s.takes 0x312 x.arg x →
    ∃ t, exec (.ctxClose x) s = .next t
      ∧ ((s.gov.ctx x.arg).st ≠ 0 → s.gov.ctxEntries x.arg = 0 →
          s.answered t x 0x312 0 [] ∧ (t.gov.ctx x.arg).st = 0)
      ∧ ((s.gov.ctx x.arg).st ≠ 0 → s.gov.ctxEntries x.arg ≠ 0 →
          s.answered t x 0x312 0x11 [] ∧ t.gov.ctx x.arg = s.gov.ctx x.arg)
      ∧ ((s.gov.ctx x.arg).st = 0 → s.answered t x 0x312 1 []))
  ∧ (∀ (s : State) (x : Packet), s.takes 0x313 x.arg x →
    ∃ t, exec (.ctxQuery x) s = .next t
      ∧ s.answered t x 0x313 0 [(s.gov.ctx x.arg).st + (s.gov.ctx x.arg).cgen * 2 ^ 2
          + (s.gov.ctx x.arg).part * 2 ^ 10 + (s.gov.ctx x.arg).cmin * 2 ^ 14
          + min 65535 (s.gov.ctxEntries x.arg) * 2 ^ 16 + s.gov.policy x.arg * 2 ^ 32])
  ∧ (∀ (s : State) (x : Packet) (l : List Nat), s.takes 0x320 x.arg x →
      l = s.gov.grantsBy (fun e => e.st != 0 && e.req == bits x.arg 0 10 && e.slot == bits x.arg 10 5) →
    ∃ t, exec (.annCancel x) s = .next t
      ∧ (l = [] → s.answered t x 0x320 1 [])
      ∧ (∀ h r, l = h :: r → (s.gov.grant h).st = 2 →
          s.answered t x 0x320 0x11 [] ∧ t.gov.grant h = s.gov.grant h)
      ∧ (∀ h r, l = h :: r → (s.gov.grant h).st ≠ 2 → s.answered t x 0x320 0 [] ∧ (t.gov.grant h).st = 0
          ∧ mget {} t.gov.dm.gnt (s.gov.grant h).req
              = { slot := (s.gov.grant h).slot, code := 1, handle := 0 }))
  ∧ (∀ (s : State) (x : Packet), s.takes 0x321 x.arg x →
    ∃ t code, exec (.reqReset x) s = .next t ∧ t.gov.reqOff x.arg = true ∧ t.gov.reqCount x.arg = 0
      ∧ s.answered t x 0x321 code [(s.gov.grantsBy (fun e => e.st == 2 && e.req == x.arg)).length
          + (s.gov.grantsBy (fun e => e.st == 1 && e.req == x.arg)).length * 2 ^ 16]
      ∧ ∀ h, (s.gov.grant h).req = x.arg → (t.gov.grant h).st ≠ 1 ∧ (t.gov.grant h).st ≠ 2)
  ∧ (∀ (s : State) (x : Packet), s.takes 0x322 x.arg x →
    ∃ t, exec (.reqEnable x) s = .next t ∧ t.gov.reqOff x.arg = false
      ∧ s.answered t x 0x322 (if s.gov.reqOff x.arg then 0 else 1) [])

/-- R399 to R401, R403 to R406: TH_LOAD refuses an unsound model or begins its decode; TH_BOUND sets the boundary of a FIXED node; PL_STEP
starts a step or leaves it pending; PL_CTX_POLICY changes a LIVE context's policy; PL_SEQ_FIND answers the slot of a sequence. -/
def Obligations.ThermalAndPlacementOpcodes : Prop :=
  (∀ (s : State) (x : Packet), s.takes 0x400 x.arg x → s.gov.th.load = none →
    ∃ t, exec (.thLoad x) s = .next t
      ∧ (thCheck s.build (seenMem s.gov s.mem) = none → s.waits t 0x400 4
          ∧ ∃ l, t.gov.th.load = some l ∧ l.keep = (x.arg == 1) ∧ l.nodes = thNodes (seenMem s.gov s.mem))
      ∧ (∀ n c, thCheck s.build (seenMem s.gov s.mem) = some (n, c) →
          s.answered t x 0x400 0x26 [n + c * 2 ^ 12] ∧ t.gov.th = s.gov.th))
  ∧ (∀ (s : State) (x : Packet), s.takes 0x400 x.arg x → s.gov.th.load.isSome = true →
    ∃ t, exec (.thLoad x) s = .next t ∧ s.answered t x 0x400 0x11 [] ∧ t.gov.th = s.gov.th)
  ∧ (∀ (s : State) (x : Packet) (y : ThNode), s.takes 0x401 x.arg x →
      mfind s.gov.th.nodes (bits x.arg 0 9) = some y →
    ∃ t, exec (.thBound x) s = .next t
      ∧ (y.cfg.fixed = true → s.answered t x 0x401 0 []
          ∧ mfind t.gov.th.nodes (bits x.arg 0 9) = some { y with bound := sx 16 (bits x.arg 16 16) })
      ∧ (y.cfg.fixed = false → s.answered t x 0x401 0x14 [] ∧ t.gov.th = s.gov.th))
  ∧ (∀ (s : State) (x : Packet), s.takes 0x500 x.arg x →
    ∃ t d, exec (.plStep x) s = .next t
      ∧ (s.gov.pl.pend.isSome = true → s.answered t x 0x500 0x11 [d] ∧ t.gov.pl = s.gov.pl)
      ∧ (s.gov.pl.pend = none → s.gov.pl.cur.isSome = true → s.answered t x 0x500 2 [d]
          ∧ t.gov.pl = { s.gov.pl with pend := some { addr := x.params.getD 0 0, tCmd := s.gov.gtime } })
      ∧ (s.gov.pl.pend = none → s.gov.pl.cur = none → s.gov.flag F.PL_STAT_FETCH_ERR = false →
          s.gov.flag F.PL_STAT_REPLY_ERR = false → s.gov.flag F.DMA_STAT_PL_ERR = false →
          s.answered t x 0x500 2 [d]
          ∧ t.gov.pl = { s.gov.pl with cur := some { addr := x.params.getD 0 0, tCmd := s.gov.gtime } }))
  ∧ (∀ (s : State) (x : Packet), s.takes 0x501 x.arg x →
    ∃ t, exec (.plCtxPolicy x) s = .next t
      ∧ ((s.gov.ctx x.arg).st = 1 → s.answered t x 0x501 0 [s.gov.policy x.arg]
          ∧ t.gov.policy x.arg = x.params.getD 0 0)
      ∧ ((s.gov.ctx x.arg).st ≠ 1 → s.answered t x 0x501 0x14 [] ∧ t.gov.policy x.arg = s.gov.policy x.arg))
  ∧ (∀ (s : State) (x : Packet), s.takes 0x502 x.arg x →
    ∃ t, exec (.plSeqFind x) s = .next t
      ∧ (s.gov.findSeq (x.params.getD 0 0) x.arg = none → s.answered t x 0x502 0 [0x7FF])
      ∧ ∀ sid, s.gov.findSeq (x.params.getD 0 0) x.arg = some sid →
          s.answered t x 0x502 0 [sid + (s.gov.seqn sid).state * 2 ^ 11 + (s.gov.seqn sid).cgen * 2 ^ 14
            + (s.gov.seqn sid).last % 2 ^ 32 * 2 ^ 22])

/-- R407 to R410, R412 to R415: a recovery opcode starts its step of the ladder with cause 12; REC_MARK records its mark; CNT_CLEAR and
DW_QUERY answer what they show; TRACE_CTL enables the buffers that have space; DUMP begins, or is armed, or refused. -/
def Obligations.RecoveryAndTelemetryOpcodes : Prop :=
  (∀ (s : State) (x : Packet), s.takes 0x600 x.arg x →
    ∃ t, exec (.rcvContext x) s = .next t
      ∧ ((s.gov.ctx x.arg).st = 0 → s.answered t x 0x600 0x14 [] ∧ t.gov.rcv = s.gov.rcv)
      ∧ ((s.gov.ctx x.arg).st ≠ 0 → s.answered t x 0x600 2 [] ∧ (t.gov.ctx x.arg).st ≠ 1
          ∧ t.gov.rcv.lastStep = 0 ∧ t.gov.rcv.lastObj = x.arg ∧ t.gov.rcv.lastCause = 12))
  ∧ (∀ (s : State) (x : Packet), s.takes 0x601 x.arg x → s.gov.rd F.DW_CTL_ENG_MAX = 0 →
    ∃ t, exec (.rcvEngine x) s = .next t ∧ s.answered t x 0x601 2 [] ∧ t.gov.reqOff x.arg = true
      ∧ t.gov.reqCount x.arg = 0 ∧ t.gov.rcv.lastStep = 1 ∧ t.gov.rcv.lastObj = x.arg
      ∧ t.gov.rcv.lastCause = 12)
  ∧ (∀ (s : State) (x : Packet), s.build.ok = true → s.takes 0x602 x.arg x →
      s.gov.boundMbx x.arg = [] → bit (s.gov.rd F.RCV_HOLD_REL_PEND) x.arg = false →
    ∃ t, exec (.rcvPartition x) s = .next t ∧ s.answered t x 0x602 2 []
      ∧ bit (t.gov.rd F.RCV_HOLD_PART) x.arg = true
      ∧ t.gov.rd (F.RCV_PGEN_PGEN x.arg) = (s.gov.rd (F.RCV_PGEN_PGEN x.arg) + 1) % 2 ^ 4
      ∧ t.gov.rcv.lastStep = 2 ∧ t.gov.rcv.lastObj = x.arg ∧ t.gov.rcv.lastCause = 12)
  ∧ (∀ (s : State) (x : Packet), s.build.ok = true → s.takes 0x603 x.arg x →
      s.gov.boundMbx 16 = [] → s.gov.flag F.RCV_HOLD_REL_PEND_CHIP = false →
    ∃ t, exec (.rcvChip x) s = .next t ∧ s.answered t x 0x603 2 [] ∧ t.gov.rd F.RCV_HOLD_CHIP = 1
      ∧ (∀ r < s.build.requesters, t.gov.reqOff r = true)
      ∧ t.gov.rcv.lastStep = 3 ∧ t.gov.rcv.lastCause = 12)
  ∧ (∀ (s : State) (x : Packet), s.takes 0x604 x.arg x →
    ∃ t, exec (.rcvPwrcyc x) s = .next t ∧ t.gov.rcv.pwrcyc = true
      ∧ (s.gov.rcv.pwrcyc = false → s.answered t x 0x604 0 [] ∧ t.gov.rcv.lastStep = 4
          ∧ bit (t.gov.rd F.SVC_CAUSE_CAUSE) 14 = true)
      ∧ (s.gov.rcv.pwrcyc = true → s.answered t x 0x604 1 []))
  ∧ (∀ (s : State) (x : Packet), s.takes 0x700 x.arg x → s.gov.recr.queue.length < 256 →
    ∃ t e, exec (.recMark x) s = .next t ∧ s.answered t x 0x700 0 [] ∧ e ∈ t.gov.recr.queue ∧ e.code = 3
      ∧ e.port = x.port ∧ e.p0 = x.arg + x.mbx * 2 ^ 17 ∧ e.p1 = x.params.getD 0 0 ∧ e.p2 = x.params.getD 1 0)
  ∧ (∀ (s : State) (x : Packet), s.takes 0x702 x.arg x →
    ∃ t, exec (.cntClear x) s = .next t
      ∧ s.answered t x 0x702 0 ((List.range 8).map (fun k => s.gov.rd (cntField x.arg k)))
      ∧ (x.arg ≠ 3 → ∀ k < 8, t.gov.rd (cntField x.arg k) = 0))
  ∧ (∀ (s : State) (x : Packet), s.takes 0x710 x.arg x →
    ∃ t, exec (.traceCtl x) s = .next t ∧ s.answered t x 0x710 0 [s.gov.rd F.TRC_CTL_EN]
      ∧ t.gov.rd F.TRC_CTL_EN = Nat.land x.arg (Nat.xor (s.gov.rd F.TRC_CTL_GONE) 0xFF) % 2 ^ 8
      ∧ (x.params.length = 2 → t.gov.rd F.TRC_RING_ADDR = x.params.getD 0 0
          ∧ t.gov.rd F.TRC_SIZE_SIZE = x.params.getD 1 0))
  ∧ (∀ (s : State) (x : Packet), s.takes 0x720 0 x →
    ∃ t, exec (.dumpState x) s = .next t
      ∧ (s.gov.heldBanks 9 = [] → s.answered t x 0x720 0x14 [])
      ∧ (s.gov.heldBanks 9 ≠ [] → s.gov.dumpBusy = true → s.answered t x 0x720 0x11 [])
      ∧ (s.gov.heldBanks 9 ≠ [] → s.gov.dumpBusy = false → s.answered t x 0x720 2 []
          ∧ t.gov.rd F.DUMP_STAT_BUSY = 1 ∧ ∃ d, t.gov.recr.dump = some d ∧ d.kind = 0
              ∧ d.addr = x.params.getD 0 0 ∧ d.len = x.params.getD 1 0 ∧ d.tStart = s.gov.gtime))
  ∧ (∀ (s : State) (x : Packet) (step : Nat), s.takes 0x720 1 x → s.gov.heldBanks 9 ≠ [] →
      s.gov.dumpBusy = false → step = x.params.getD 3 0 →
    ∃ t, exec (.dumpSequence x) s = .next t
      ∧ (s.gov.flag F.PL_LAST_APPLIED = true → (s.gov.pl.lastApplied + 2 ^ 32 - step) % 2 ^ 32 < 2 ^ 31 →
          s.answered t x 0x720 0x40 [])
      ∧ (s.gov.flag F.PL_LAST_APPLIED = false →
          65536 < (step + 2 ^ 32 - s.gov.rd F.PL_LAST_STEP) % 2 ^ 32 → s.answered t x 0x720 0x41 [])
      ∧ (s.gov.flag F.PL_LAST_APPLIED = false →
          (step + 2 ^ 32 - s.gov.rd F.PL_LAST_STEP) % 2 ^ 32 ≤ 65536 →
          s.answered t x 0x720 2 [] ∧ t.gov.rd F.DUMP_STAT_SEQ_ARMED = 1
          ∧ ∃ d, t.gov.recr.armed = some d ∧ d.kind = 1 ∧ d.step = step
              ∧ d.skey = bits (x.params.getD 2 0) 0 32 ∧ d.ctx = bits (x.params.getD 2 0) 32 12))
  ∧ (∀ (s : State) (x : Packet), s.takes 0x741 x.arg x →
    ∃ t, exec (.dwQuery x) s = .next t
      ∧ s.answered t x 0x741 0 [(s.taken 0x741 x.arg x).regWord s.build x.port 0x14018, s.gov.rd F.DW_LAST_GTIME,
          s.gov.rcv.lastStep + s.gov.rcv.lastObj * 2 ^ 3, s.gov.rcv.lastCause])

/-- R417, R418, R498 to R502: CAL_PROBE waits for its rail, or is answered 0x51, 0x11 or 0x14; it starts at a boundary at which
the conditions hold; a test starts, waits for its condition, or finds another; its end stores the verdict and answers. -/
def Obligations.ProbeAndTests : Prop :=
  (∀ (s : State) (x : Packet) (n : Nat), s.takes 0x800 x.arg x → n = bits x.arg 0 4 →
    ∃ t d, exec (.calProbe x) s = .next t
      ∧ (s.gov.railIdle n = true → s.answered t x 0x800 0x14 [d])
      ∧ (s.gov.railIdle n = false → (mfind s.gov.probes n).isSome = true → s.answered t x 0x800 0x11 [d])
      ∧ (s.gov.railIdle n = false → mfind s.gov.probes n = none → s.gov.calReady n = true →
          s.waits t 0x800 5 ∧ mfind t.gov.calWait n
            = some { pick := bit x.arg 8, cmd := some s.gov.mb.nextCmd })
      ∧ (s.gov.railIdle n = false → mfind s.gov.probes n = none → s.gov.calReady n = false →
          s.answered t x 0x800 0x51 [d] ∧ mfind t.gov.calWait n = some { pick := bit x.arg 8, cmd := none }))
  ∧ (∀ (s : State) (n : Nat) (w : CalWait), s.gov.live = true → n < s.build.rails →
      mfind s.gov.calWait n = some w → s.gov.calReady n = true →
    ∃ t, exec (.probeDeferredStart n) s = .next t ∧ mfind t.gov.calWait n = none
      ∧ mfind t.gov.probes n
          = some { rail := n, t0 := s.gov.gtime, cal := true, pick := w.pick, cmd := w.cmd })
  ∧ (∀ (k : Nat) (c : Packet → Instr),
      (k, c) ∈ [(1, Instr.storeBank), (2, Instr.loopDp), (3, Instr.thermDp), (4, Instr.stRing), (5, Instr.sliceAdc),
        (6, Instr.ftScan)] →
      ∀ (s : State) (x : Packet) (obj : Nat), s.takes 0x801 (testArg k x.arg) x → obj = bits x.arg 8 16 →
    ∃ t, exec (c x) s = .next t
      ∧ (s.gov.test.run.isSome = true ∨ s.gov.test.pend.isSome = true → s.answered t x 0x801 0x11 [0, 0]
          ∧ t.gov.test = s.gov.test)
      ∧ (s.gov.test.run = none → s.gov.test.pend = none →
          (k = 1 → s.gov.dark obj = false ∧ s.gov.flag (F.STORE_MAP_COPY obj) = false ∧ s.gov.store.queue = []) →
          s.gov.testMay s.build k obj = true →
          s.waits t 0x801 6 ∧ t.gov.rd F.TEST_STAT_BUSY = 1 ∧ t.gov.rd F.TEST_STAT_ID = k
          ∧ ∃ r, t.gov.test.run = some r ∧ r.id = k ∧ r.obj = obj ∧ r.cmd = some s.gov.mb.nextCmd)
      ∧ (s.gov.test.run = none → s.gov.test.pend = none → k ≠ 1 → s.gov.testMay s.build k obj = false →
          s.answered t x 0x801 0x51 [0, 0] ∧ t.gov.rd F.TEST_STAT_PEND = 1
          ∧ t.gov.test.pend = some { id := k, obj := obj } ∧ t.gov.test.run = none))
  ∧ (∀ (s : State) (r : TestRun), s.gov.live = true → s.gov.test.pend = some r →
      s.gov.testMay s.build r.id r.obj = true →
    ∃ t, exec .testDeferredStart s = .next t ∧ t.gov.test.pend = none ∧ t.gov.rd F.TEST_STAT_BUSY = 1
      ∧ t.gov.rd F.TEST_STAT_PEND = 0 ∧ ∃ y, t.gov.test.run = some y ∧ y.id = r.id ∧ y.obj = r.obj)
  ∧ (∀ (s : State) (r : TestRun) (ok : Bool) (item : Nat), s.build.ok = true → s.gov.live = true → s.gov.quiet →
      s.gov.test.run = some r → r.obj < (if r.id = 4 then 8 else 48) →
    ∃ t, exec (.testComplete ok item) s = .next t ∧ t.gov.test.run = none ∧ t.gov.rd F.TEST_STAT_BUSY = 0
      ∧ t.gov.rd F.TEST_STAT_PASS = b2n (ok && !(r.id == 1 && bit (s.gov.rd F.STORE_RET_BANKS) r.bank))
      ∧ t.gov.rd F.TEST_STAT_RUNS = (s.gov.rd F.TEST_STAT_RUNS + 1) % 2 ^ 16)
  ∧ (∀ (s : State) (r : TestRun) (i item : Nat) (c : Cmd), s.build.ok = true → s.gov.live = true →
      s.gov.rcv.steps = [] → s.gov.calWait = [] → s.gov.store.waits = [] → s.gov.probes = [] →
      s.gov.dm.wait = [] → s.gov.dm.c0rails = [] → s.gov.test.run = some r → r.cmd = some i → r.id ≠ 1 → s.gov.mb.cmds = [(i, c)] → c.wait = 6 → c.mbx < 16 →
      c.mgen = s.gov.rd (F.MBX_STAT_MGEN c.mbx) → c.op = 0x801 →
    ∃ t, exec (.testComplete true item) s = .next t ∧ t.gov.mb.cmds = [] ∧ t.gov.rd (F.MBX_ACK_CODE c.mbx) = 0
      ∧ t.gov.rd (F.MBX_ACK_OPCODE c.mbx) = 0x801)

/-- R389: RAIL_QUERY replies with RAIL_STAT, RAIL_MEAS, RAIL_PSTAT, RAIL_PROBE and DMD_RSTAT of the rail that ARG names, as they
stood at its take; RAIL_PHASES replies with PH_STAT of each phase of the rail's block, in ascending order. The RC fields are
cleared as by a register read. -/
def Obligations.RailQuery : Prop :=
  (∀ (s : State) (x : Packet) (n : Nat), s.build.ok = true → s.takes 0x200 x.arg x → n = x.arg →
    ∃ t, exec (.railQuery x) s = .next t
      ∧ s.answered t x 0x200 0 ([0x4500 + 8 * n, 0x4580 + 8 * n, 0x4A80 + 8 * n, 0x4D00 + 8 * n, 0xA180 + 8 * n].map
          (fun o => (s.taken 0x200 x.arg x).regWord s.build x.port o))
      ∧ t.gov.rd (F.RAIL_MEAS_HOLDS n) = 0 ∧ t.gov.rd (F.RAIL_MEAS_MISS n) = 0)
  ∧ (∀ (s : State) (x : Packet) (r : Rail), s.build.ok = true → s.takes 0x201 x.arg x → r = s.gov.rail x.arg →
      r.count ≠ 0 → r.count ≤ 24 → r.first + r.count ≤ s.build.phases →
    ∃ t, exec (.railPhases x) s = .next t
      ∧ s.answered t x 0x201 0 ((List.range r.count).map
          (fun i => (s.taken 0x201 x.arg x).regWord s.build x.port (0x8000 + 8 * (r.first + i))))
      ∧ ∀ i < r.count, t.gov.rd (F.PH_STAT_CUTS (r.first + i)) = 0
          ∧ t.gov.rd (F.PH_STAT_IMBCNT (r.first + i)) = 0)

/-- R398, R402, R411: GRANT_QUERY replies with the working copy of a grant entry, DMD_QUERY with DMD_STAT and the eight DMD_CNT;
TH_QUERY with bytes 96 to 127 of an enabled node, else 0x14, TH_HOT with TH_STAT and the eight TH_DIE, FT_QUERY with FT_STAT,
FT_ACT and sixteen FT_DSTAT; REC_PEEK with the record of a sequence number or the newest valid one, or 0x14 where it is gone
or not yet written. -/
def Obligations.QueryReplies : Prop :=
  (∀ (s : State) (x : Packet), s.takes 0x330 x.arg x →
    ∃ t, exec (.grantQuery x) s = .next t
      ∧ s.answered t x 0x330 0 [(s.gov.grant x.arg).word % 2 ^ 64, (s.gov.grant x.arg).word / 2 ^ 64 % 2 ^ 64])
  ∧ (∀ (s : State) (x : Packet), s.takes 0x331 x.arg x →
    ∃ t, exec (.dmdQuery x) s = .next t
      ∧ s.answered t x 0x331 0 ((0xA008 :: offsets 0xA040 8 8).map
          (fun o => (s.taken 0x331 x.arg x).regWord s.build x.port o)))
  ∧ (∀ (s : State) (x : Packet), s.takes 0x402 x.arg x →
    ∃ t, exec (.thQuery x) s = .next t
      ∧ (mfind s.gov.th.nodes x.arg = none → s.answered t x 0x402 0x14 [])
      ∧ ∀ y, mfind s.gov.th.nodes x.arg = some y → s.answered t x 0x402 0 [y.image.1, y.image.2, 0, 0])
  ∧ (∀ (s : State) (x : Packet), s.takes 0x410 x.arg x →
    ∃ t, exec (.ftQuery x) s = .next t
      ∧ s.answered t x 0x410 0 (([0xC210, 0xC208] ++ offsets (0xC300 + 128 * x.arg) 8 16).map
          (fun o => (s.taken 0x410 x.arg x).regWord s.build x.port o)))
  ∧ (∀ (s : State) (x : Packet), s.takes 0x403 x.arg x →
    ∃ t, exec (.thHot x) s = .next t
      ∧ s.answered t x 0x403 0 ((0xC008 :: offsets 0xC040 8 8).map
          (fun o => (s.taken 0x403 x.arg x).regWord s.build x.port o)))
  ∧ (∀ (s : State) (x : Packet) (r : Option RingRec), s.takes 0x701 x.arg x →
      r = (if x.params = [] then s.gov.newestRecord else s.gov.recordOf (x.params.getD 0 0)) →
    ∃ t, exec (.recPeek x) s = .next t ∧ (r = none → s.answered t x 0x701 0x14 [])
      ∧ ∀ y, r = some y → s.answered t x 0x701 0 ((List.range 4).map y.word))

/-- R374: with RONLY set, the opcodes NOP, IDENT and STATUS and those from 0x700 to 0x7FF are permitted, and every other
opcode of the command reference is answered with 0x31 from the Discover stage on (before it, 0x10: Table 4.3). -/
def Obligations.ReadOnlyMailbox : Prop :=
  ∀ (c : Instr) (op arg : Nat) (x : Packet) (s : State), c.packet = some (op, arg, x) → s.gov.live = true →
      s.gov.quiet → x.wf = true → s.gov.takeable x.mbx (packetPkt x op arg s.gov) = true → sDISCOVER ≤ s.gov.stage →
      s.gov.rd (F.MBX_CTL_RONLY x.mbx) = 1 →
      ((op = 0x000 ∨ op = 0x001 ∨ op = 0x002 ∨ 0x700 ≤ op ∧ op ≤ 0x7FF) →
        cmdRefused s.build (s.command op arg x) (packetPkt x op arg s.gov).hres (s.taken op arg x) ≠ 0x31)
      ∧ (¬ (op = 0x000 ∨ op = 0x001 ∨ op = 0x002 ∨ 0x700 ≤ op ∧ op ≤ 0x7FF) →
        ∃ t, exec c s = .next t ∧ s.answered t x op 0x31 [])

/-! ## Register and store accesses -/

/-- R58, R60, R478, R484, R485: STORE_PAGE sets the accessing port's page; a window write stores its bytes in a raw word that
is not dark, changes nothing elsewhere, and answers COLLIDE where port A wins the cycle; a window read returns the word, 0
with its bytes lost where the word cannot be corrected. -/
def Obligations.StoreWindow : Prop :=
  (∀ (s : State) (port w : Nat), s.gov.live = true →
    ∃ t, exec (.storePageWrite port w) s = .next t ∧ mget 0 t.gov.io.page port = w % 16 ∧ t.mem = s.mem
      ∧ (∀ q, q ≠ port → mget 0 t.gov.io.page q = mget 0 s.gov.io.page q)
      ∧ mget {} t.gov.io.hrs port = { data := 0, code := 0 })
  ∧ (∀ (s : State) (port off data : Nat) (wide collide : Bool) (o : Nat), s.memOk → s.gov.windowTaken off = true →
      o = s.gov.winOff port (off / 8 * 8) →
    ∃ t, exec (.storeWindowWrite port off data wide collide) s = .next t
      ∧ mget {} t.gov.io.hrs port = { data := 0, code := b2n (s.gov.collides o collide) }
      ∧ (s.gov.collides o collide = true →
          t.gov.rd (F.ERR_CNT_COUNT 7) = (s.gov.rd (F.ERR_CNT_COUNT 7) + 1) % 2 ^ 48)
      ∧ (s.gov.collides o collide = false → t.gov.rd (F.ERR_CNT_COUNT 7) = s.gov.rd (F.ERR_CNT_COUNT 7))
      ∧ ∀ a, memGet t.mem a =
          (if s.gov.storeTakes o = true ∧ s.gov.collides o collide = false then
            let lo := if wide = false ∧ 4 ≤ off % 8 then o + 4 else o
            let n := if wide then 8 else 4
            if lo ≤ a ∧ a < lo + n then BitVec.ofNat 8 (data / 256 ^ (a - lo)) else memGet s.mem a
           else memGet s.mem a))
  ∧ (∀ (s : State) (port off rot : Nat) (wide bad0 bad1 : Bool), s.gov.windowTaken off = true →
    ∃ t, exec (.storeWindowRead port off rot wide bad0 bad1) s = .next t
      ∧ mget {} t.gov.io.hrs port
          = { data := s.gov.windowData s.build s.mem port off rot wide bad0 bad1, code := 0 }
      ∧ (bad0 = false → bad1 = false → t.mem = s.mem))
  ∧ (∀ (s : State) (port off rot o : Nat), s.gov.windowTaken off = true → o = s.gov.winOff port (off / 8 * 8) →
      s.gov.storeTakes o = true → rot % 8 = 0 →
    ∃ t, exec (.storeWindowRead port off rot true false false) s = .next t ∧ t.mem = s.mem
      ∧ mget {} t.gov.io.hrs port = { data := memWord s.mem o, code := 0 })
  ∧ (∀ (s : State) (port off rot o : Nat) (bad1 : Bool), s.memOk → s.gov.windowTaken off = true →
      o = s.gov.winOff port (off / 8 * 8) → s.gov.storeTakes o = true → rot % 8 = 0 →
    ∃ t, exec (.storeWindowRead port off rot true true bad1) s = .next t
      ∧ mget {} t.gov.io.hrs port = { data := 0, code := 0 }
      ∧ t.gov.rd (F.ERR_CNT_COUNT 1) = (s.gov.rd (F.ERR_CNT_COUNT 1) + 1) % 2 ^ 48
      ∧ t.gov.rd F.STORE_ECC_LAST_BANK = s.gov.phys (o / 0x40000) % 64
      ∧ ∀ a, memGet t.mem a = if o ≤ a ∧ a < o + 8 then 0 else memGet s.mem a)

/-- R8, R9, R455: a read of a register that holds RC counts answers the register as it stood, or the half that the access
names, and clears the RC fields that the access reaches; it changes no other field of the register. -/
def Obligations.ReadsThatClear : Prop :=
  (∀ (n base : Nat) (c : Nat → Nat → Bool → Bool → Instr),
      (n, base, 8, c) ∈ [(16, 0x4580, 8, Instr.railMeasRead), (96, 0x8000, 8, Instr.phStatRead),
        (9, 0xE380, 8, Instr.hrLstatRead)] →
      ∀ (s : State) (i port : Nat) (wide high : Bool) (o : Nat), s.gov.live = true → i < n →
      o = base + 8 * i + (if wide = false ∧ high = true then 4 else 0) →
    ∃ t, exec (c i port wide high) s = .next t ∧ t.mem = s.mem
      ∧ mget {} t.gov.io.hrs port
          = { data := (let v := s.gov.regWord s.build port (base + 8 * i); if wide then v else halfOf o v) }
      ∧ ∀ f ∈ s.build.fieldsAt (base + 8 * i),
          t.gov.rd f = if f.acc = .rc ∧ f.of (accMask o wide) ≠ 0 then 0 else s.gov.rd f)
  ∧ (∀ (base : Nat) (c : Nat → Bool → Bool → Instr),
      (base, c) ∈ [(0x10030, Instr.plTdRead), (0x14050, Instr.storeEccRead), (0x2028, Instr.mirCtlRead)] →
      ∀ (s : State) (port : Nat) (wide high : Bool) (o : Nat), s.gov.live = true →
      o = base + (if wide = false ∧ high = true then 4 else 0) →
    ∃ t, exec (c port wide high) s = .next t ∧ t.mem = s.mem
      ∧ mget {} t.gov.io.hrs port
          = { data := (let v := s.gov.regWord s.build port base; if wide then v else halfOf o v) }
      ∧ ∀ f ∈ s.build.fieldsAt base,
          t.gov.rd f = if f.acc = .rc ∧ f.of (accMask o wide) ≠ 0 then 0 else s.gov.rd f)
  ∧ (∀ (s : State) (n port : Nat) (wide high : Bool) (o : Nat), s.gov.live = true → n < 16 →
      o = 0x1010 + 64 * n + (if wide = false ∧ high = true then 4 else 0) →
    ∃ t, exec (.mbxStatRead n port wide high) s = .next t ∧ t.mem = s.mem
      ∧ (mfind (s.gov.mbx n).half port = none → mget {} t.gov.io.hrs port
          = { data := (let v := s.gov.regWord s.build port (0x1010 + 64 * n); if wide then v else halfOf o v) })
      ∧ t.gov.rd (F.MBX_STAT_NDROP n)
          = (if wide = true ∨ high = true then 0 else s.gov.rd (F.MBX_STAT_NDROP n)))

/-- R9, R56, R364, R366: a write of a configuration register whose rows give no further effect completes and leaves in each
of its fields what the bytes written say, an untouched half as it was; a write of retained fields acts at once and sets DIRTY where no stage is open, goes to the shadow image
for the stage's owner, and is discarded with REFUSED for another port or while a commit runs; a field that is not
retained takes the write whatever the stage. -/
def Obligations.RegisterWrites : Prop :=
  (∀ (s : State) (port off w o d : Nat) (wide : Bool), s.gov.live = true → s.gov.quiet → s.gov.noStage →
      o ∈ offsets 0x4800 8 16 ++ offsets 0x4880 8 16 ++ offsets 0x16440 8 8 ++ [0x2010, 0x2020, 0x10000, 0x10008, 0x10020,
        0x12010, 0x12110, 0x12200, 0x14000, 0x14008, 0x14010, 0x14040, 0x16500, 0x16508] →
      off = o ∨ off = o + 4 ∧ wide = false → w < (if wide then 2 ^ 64 else 2 ^ 32) →
      d = (if off = o then w else w * 2 ^ 32) →
    ∃ t, exec (.registerWrite port off w wide) s = .next t ∧ t.mem = s.mem ∧ mget {} t.gov.io.hrs port = {}
      ∧ t.gov.gtime = s.gov.gtime
      ∧ ∀ f ∈ s.build.fieldsAt o, t.gov.rd f
          = if f.hit (accMask off wide) then f.merged (s.gov.rd f) d (accMask off wide) else s.gov.rd f)
  ∧ (∀ (s : State) (port off w : Nat) (wide : Bool), s.gov.live = true → s.gov.quiet → s.gov.cfg.copyAt = none →
      off = 0x2010 ∨ off = 0x2014 ∧ wide = false → w < 2 ^ 64 →
    ∃ t, exec (.registerWrite port off w wide) s = .next t ∧ t.mem = s.mem
      ∧ (s.gov.rd F.CFG_STAT_STATE = 0 → s.gov.committing = false →
          t.gov.rd F.CFG_STAT_DIRTY = 1
          ∧ t.gov.rd F.MBX_TO_PKT_TO = (if off = 0x2010 then bits w 0 16 else s.gov.rd F.MBX_TO_PKT_TO)
          ∧ t.gov.rd F.MBX_TO_RPL_TO = (if off = 0x2010 then bits w 16 16 else s.gov.rd F.MBX_TO_RPL_TO)
          ∧ t.gov.rd F.MBX_TO_EXE_TO = (if wide then bits w 32 16 else if off = 0x2014 then bits w 0 16
              else s.gov.rd F.MBX_TO_EXE_TO))
      ∧ (s.gov.rd F.CFG_STAT_STATE = 1 → s.gov.committing = false →
          t.gov.rd F.MBX_TO_PKT_TO = s.gov.rd F.MBX_TO_PKT_TO ∧ t.gov.rd F.MBX_TO_EXE_TO = s.gov.rd F.MBX_TO_EXE_TO
          ∧ (s.gov.rd F.CFG_STAT_OWNER = port → off = 0x2010 → t.gov.staged F.MBX_TO_PKT_TO = bits w 0 16)
          ∧ (s.gov.rd F.CFG_STAT_OWNER ≠ port → t.gov.rd F.CFG_STAT_REFUSED = 1
              ∧ t.gov.staged F.MBX_TO_PKT_TO = s.gov.staged F.MBX_TO_PKT_TO))
      ∧ (s.gov.committing = true → t.gov.rd F.CFG_STAT_REFUSED = 1
          ∧ t.gov.rd F.MBX_TO_PKT_TO = s.gov.rd F.MBX_TO_PKT_TO
          ∧ t.gov.rd F.MBX_TO_RPL_TO = s.gov.rd F.MBX_TO_RPL_TO ∧ t.gov.rd F.MBX_TO_EXE_TO = s.gov.rd F.MBX_TO_EXE_TO))
  ∧ (∀ (s : State) (port w : Nat), s.gov.live = true → s.gov.quiet → w < 2 ^ 64 →
    ∃ t, exec (.registerWrite port 0x2020 w true) s = .next t ∧ t.mem = s.mem
      ∧ t.gov.rd F.MIR_ADDR_ADDR = bits w 4 52 ∧ t.gov.rd F.CFG_STAT_DIRTY = s.gov.rd F.CFG_STAT_DIRTY)
  ∧ (∀ (s : State) (port w : Nat), s.gov.live = true → s.gov.quiet → w < 2 ^ 64 →
    ∃ t, exec (.registerWrite port 0x14038 w true) s = .next t ∧ t.mem = s.mem
      ∧ ∀ i < 16, bit (t.gov.rd F.SVC_CAUSE_CAUSE) i = (bit (s.gov.rd F.SVC_CAUSE_CAUSE) i && !bit w i))

/-! ## The recorder, the mirror and DMA -/

/-- R449, R456 to R462: the oldest queued event goes to the slot of NEXT, NEXT and the count of records move on, and a gap in
the queue is told by REC_DROPPED; at a flush every histogram with samples or a pending clear is merged into its block; at a µs
instant the utilisation counters take their conditions; a write of CLEAR, or of a histogram's HIST_CFG, is applied at the
next flush. -/
def Obligations.RecordsAndHistograms : Prop :=
  (∀ (s : State) (e : Evt) (r : List Evt) (slot : Nat), s.gov.live = true → s.gov.recr.started = true →
      s.gov.recr.queue = e :: r → slot = s.gov.rd F.REC_HEAD_NEXT % s.gov.rd F.REC_HEAD_SLOTS →
    ∃ t, exec .eventRecordWrite s = .next t
      ∧ t.gov.rd F.REC_HEAD_NEXT = (s.gov.rd F.REC_HEAD_NEXT + 1) % 2 ^ 32
      ∧ t.gov.rd (F.REC_CNT_COUNT 0) = (s.gov.rd (F.REC_CNT_COUNT 0) + 1) % 2 ^ 48
      ∧ (s.gov.dark (36 + slot / 8192) = false →
          mfind t.gov.recr.ring slot = some { valid := true, seq := s.gov.rd F.REC_HEAD_NEXT, evt := e })
      ∧ (s.gov.dark (36 + slot / 8192) = true → t.gov.recr.ring = s.gov.recr.ring)
      ∧ (s.gov.recr.dropped = 0 → t.gov.recr.queue = r)
      ∧ (s.gov.recr.dropped ≠ 0 → r.length < 256 →
          ∃ x, t.gov.recr.queue = r ++ [x] ∧ x.code = 1 ∧ x.p0 = min s.gov.recr.dropped 0xFFFFFFFF
            ∧ t.gov.recr.dropped = 0))
  ∧ (∀ (s : State), s.gov.live = true → s.gov.flag F.HIST_CTL_GONE = false →
    ∃ t, exec .histogramFlush s = .next t
      ∧ t.gov.gtime = max s.gov.gtime (10000 * nextInstant s.gov.recr.lastFlush 10000 s.gov.gtime)
      ∧ ∀ h < 64, ∀ x : Hist, x = s.gov.hist h →
          (x.since.total = 0 → x.clearPend = false → t.gov.hist h = x)
          ∧ (x.since.total ≠ 0 → x.clearPend = false → t.gov.hist h
              = { x with acc := [], since := {}, image := x.run, buckets := histMerge x.buckets x.acc, seq := x.seq + 2 })
          ∧ (x.clearPend = true → t.gov.hist h
              = { x with acc := [], since := {}, run := x.since, image := x.since, buckets := x.acc, seq := x.seq + 2,
                         clears := x.clears + 1, clearPend := false }))
  ∧ (∀ (s : State) (e : Nat), s.gov.live = true →
      e = s.gov.recr.energyAcc + sumTo s.build.rails (fun n => s.gov.rd (F.RAIL_MEAS_POUT n)) →
    ∃ t, exec .microsecondTick s = .next t
      ∧ t.gov.gtime = max s.gov.gtime (1000 * nextInstant s.gov.recr.lastUs 1000 s.gov.gtime)
      ∧ t.gov.rd (F.UTIL_CNT_COUNT 0)
          = (if s.gov.brg.govReady then (s.gov.rd (F.UTIL_CNT_COUNT 0) + 1) % 2 ^ 48 else s.gov.rd (F.UTIL_CNT_COUNT 0))
      ∧ t.gov.rd (F.UTIL_CNT_COUNT 4)
          = (if ∃ d < s.build.dies, s.gov.rd (F.ST_THR_TLVL d) ≠ 0 then (s.gov.rd (F.UTIL_CNT_COUNT 4) + 1) % 2 ^ 48
             else s.gov.rd (F.UTIL_CNT_COUNT 4))
      ∧ t.gov.rd (F.UTIL_CNT_COUNT 7) = (s.gov.rd (F.UTIL_CNT_COUNT 7) + e / 8000) % 2 ^ 48
      ∧ t.gov.recr.energyAcc = e % 8000 ∧ t.gov.hr.pk = max s.gov.hr.pk (s.gov.modDemand s.build))
  ∧ (∀ (s : State) (port : Nat), s.gov.live = true →
    ∃ t, exec (.histCtlClear port) s = .next t ∧ ∀ h < 64, t.gov.hist h = { s.gov.hist h with clearPend := true })
  ∧ (∀ (s : State) (h port w : Nat), s.gov.live = true → s.gov.noStage → h < 64 → w < 2 ^ 64 →
    ∃ t, exec (.histCfgWrite h port w) s = .next t ∧ t.gov.hist h = { s.gov.hist h with clearPend := true }
      ∧ t.gov.rd (F.HIST_CFG_LO h) = bits w 0 32 ∧ t.gov.rd (F.HIST_CFG_SHIFT h) = bits w 32 6
      ∧ t.gov.rd (F.HIST_CFG_LOG h) = bits w 38 1 ∧ t.gov.rd (F.HIST_CFG_EN h) = bits w 39 1
      ∧ t.gov.rd F.CFG_STAT_DIRTY = 1)

/-- R62, R63, R358, R466 to R468, R471: a trace entry goes out to the ring's next place, and PROD advances with its responses;
CONS outside what the ring holds is discarded; a new ring starts empty, once no entry is on its way; a dump's end clears BUSY
and writes the header; HOLD releases the pages; a snapshot carries MSEQ + 1 at both ends; an error response stops its
function, and clearing the bit lets a pending step start. -/
def Obligations.DrainDumpAndMirror : Prop :=
  (∀ (s : State) (k : Nat), s.gov.live = true → s.gov.recr.draining = none → s.gov.ringRoom = true →
      s.gov.flag F.DMA_STAT_TRACE_ERR = false → s.gov.drainNext = some k →
    ∃ t x, exec (.traceDrain false) s = .next t ∧ t.gov.recr.draining = some k ∧ mfind t.gov.dma 0 = some x
      ∧ x.addr = s.gov.recr.ringCur.1 + 32 * s.gov.rd F.TRC_PROD_PROD % s.gov.recr.ringCur.2
      ∧ x.words = (s.gov.tbuf k).oldest)
  ∧ (∀ (s : State) (k : Nat), s.gov.live = true → s.gov.recr.draining = some k → s.gov.recr.ringNew = none →
    ∃ t, exec (.traceDrain true) s = .next t ∧ t.gov.recr.draining = none ∧ t.gov.recr.drainLast = k
      ∧ (t.gov.tbuf k).held = (s.gov.tbuf k).held - 1
      ∧ t.gov.rd F.TRC_PROD_PROD = (s.gov.rd F.TRC_PROD_PROD + 1) % 2 ^ 32
      ∧ t.gov.rd (F.REC_CNT_COUNT 4) = (s.gov.rd (F.REC_CNT_COUNT 4) + 1) % 2 ^ 48 ∧ mfind t.gov.dma 0 = none)
  ∧ (∀ (s : State) (port w n : Nat), s.gov.live = true →
      n = (s.gov.rd F.TRC_PROD_PROD + 2 ^ 32 - w % 2 ^ 32) % 2 ^ 32 →
    ∃ t, exec (.trcConsWrite port w) s = .next t
      ∧ (n ≤ s.gov.recr.ringCur.2 / 32 →
          t.gov.rd F.TRC_CONS_CONS = w % 2 ^ 32 ∧ t.gov.rd F.TRC_STAT_BADCONS = s.gov.rd F.TRC_STAT_BADCONS)
      ∧ (s.gov.recr.ringCur.2 / 32 < n → t.gov.rd F.TRC_CONS_CONS = s.gov.rd F.TRC_CONS_CONS ∧ t.gov.rd F.TRC_STAT_BADCONS = 1))
  ∧ (∀ (s : State) (port w : Nat) (size : Bool) (r : Nat × Nat), s.gov.live = true →
      r = (if size then (s.gov.rd F.TRC_RING_ADDR, w % 2 ^ 32) else (w % 2 ^ 56, s.gov.rd F.TRC_SIZE_SIZE)) →
    ∃ t, exec (.trcRingWrite port size w) s = .next t
      ∧ (t.gov.rd F.TRC_RING_ADDR, t.gov.rd F.TRC_SIZE_SIZE) = r
      ∧ (s.gov.recr.draining = none → t.gov.recr.ringCur = r ∧ t.gov.rd F.TRC_PROD_PROD = 0
          ∧ t.gov.rd F.TRC_CONS_CONS = 0
          ∧ (t.gov.rd F.TRC_STAT_NORING = 0 ↔ r.1 % 4096 = 0 ∧ r.2 % 4096 = 0 ∧ 65536 ≤ r.2))
      ∧ (s.gov.recr.draining ≠ none → t.gov.recr.ringNew = some r ∧ t.gov.recr.ringCur = s.gov.recr.ringCur
          ∧ t.gov.rd F.TRC_PROD_PROD = s.gov.rd F.TRC_PROD_PROD))
  ∧ (∀ (s : State) (begun : List Nat) (d : Dump), s.gov.live = true → s.gov.recr.dump = some d →
      s.gov.flag F.DMA_STAT_DUMP_ERR = false → s.gov.recr.seqWait = none → s.gov.recr.dumpTrig = none →
    ∃ t, exec (.dumpComplete begun) s = .next t ∧ t.gov.recr.dump = none ∧ t.gov.rd F.DUMP_STAT_BUSY = 0
      ∧ t.gov.rd F.DUMP_STAT_DONE_SEEN = 1 ∧ t.gov.rd F.DUMP_STAT_LAST_STATUS = d.status % 16
      ∧ t.gov.rd (F.REC_CNT_COUNT 5) = (s.gov.rd (F.REC_CNT_COUNT 5) + 1) % 2 ^ 48
      ∧ t.gov.recr.header = d.header s.build s.gov begun ∧ mfind t.gov.dma 1 = none)
  ∧ (∀ (s : State) (port : Nat), s.gov.live = true →
    ∃ t, exec (.dumpStatHoldRelease port) s = .next t ∧ t.gov.recr.dumpHold = [] ∧ t.gov.rd F.DUMP_STAT_HOLD = 0)
  ∧ (∀ (s : State), s.gov.live = true → s.gov.mir.wait = none →
    ∃ t, exec .mirrorSnapshot s = .next t
      ∧ t.gov.gtime = max s.gov.gtime (10000 * nextInstant s.gov.mir.lastJ 10000 s.gov.gtime)
      ∧ (s.gov.flag F.MIR_CTL_EN = false → t.gov.mir.snap = s.gov.mir.snap)
      ∧ (s.gov.flag F.MIR_CTL_EN = true → s.gov.flag F.DMA_STAT_MIR_ERR = true →
          t.gov.mir.snap = s.gov.mir.snap ∧ t.gov.rd F.MIR_CTL_SKIP = min (s.gov.rd F.MIR_CTL_SKIP + 1) 65535)
      ∧ (s.gov.flag F.MIR_CTL_EN = true → s.gov.flag F.DMA_STAT_MIR_ERR = false → s.gov.mir.snap = none →
          ∃ q ws x, t.gov.mir.snap = some (q :: ws) ∧ q = (s.gov.rd F.MIR_CTL_MSEQ + 1) % 2 ^ 32 ∧ ws.length = 30
            ∧ ws.head? = some t.gov.gtime ∧ mfind t.gov.dma 2 = some x ∧ x.words = (q :: ws) ++ [q]
            ∧ x.addr = 16 * s.gov.rd F.MIR_ADDR_ADDR))
  ∧ (∀ (s : State) (ws : List Nat), s.gov.mir.snap = some ws → s.gov.mir.wait = none →
    ∃ t, exec .mirrorSnapshotWritten s = .next t ∧ t.gov.mir.snap = none ∧ mfind t.gov.dma 2 = none
      ∧ t.gov.rd F.MIR_CTL_MSEQ = (s.gov.rd F.MIR_CTL_MSEQ + 1) % 2 ^ 32)
  ∧ (∀ (s : State) (f id n : Nat) (x : DmaTx) (q : DmaReq), f < 4 → mfind (dmaResponds f n s.gov).dma f = some x →
      x.out.find? (fun q => q.id == id) = some q → (f = 3 → s.gov.pl.revoked = []) →
    ∃ t, exec (.dmaErrorResponse f ⟨id, n⟩) s = .next t ∧ t.gov.rd (dmaErrFld f) = 1 ∧ mfind t.gov.dma f = none
      ∧ t.gov.rd (F.ERR_CNT_COUNT 6) = (s.gov.rd (F.ERR_CNT_COUNT 6) + 1) % 2 ^ 48
      ∧ (s.gov.recr.queue.length < 256 → ∃ e ∈ t.gov.recr.queue, e.code = 6 ∧ e.p0 = f ∧ e.p1 = p32 id
          ∧ e.p2 = (x.addr + q.off) % 2 ^ 32 ∧ e.p3 = (x.addr + q.off) / 2 ^ 32 % 2 ^ 24))
  ∧ (∀ (s : State) (f id n : Nat), mfind (dmaResponds f n s.gov).dma f = none →
    ∃ t, exec (.dmaErrorResponse f ⟨id, n⟩) s = .next t ∧ t.gov.regs = s.gov.regs ∧ t.gov.dma = s.gov.dma)
  ∧ (∀ (s : State) (port w : Nat), s.gov.live = true → w < 2 ^ 64 →
    ∃ t, exec (.dmaStatClear port w) s = .next t
      ∧ (∀ f < 4, bit w f = true → t.gov.rd (dmaErrFld f) = 0)
      ∧ (∀ p, bit w 3 = true → s.gov.pl.pend = some p → s.gov.pl.cur = none →
          s.gov.flag F.PL_STAT_FETCH_ERR = false → s.gov.flag F.PL_STAT_REPLY_ERR = false →
          t.gov.pl.cur = some p ∧ t.gov.pl.pend = none))

/-! ## Deathwatch, recovery and the store's banks -/

/-- R420 to R426, R430, R437, R438: the scan names an overdue entry and takes the context step, or records it as blocked; each
timeout is a detection of its cause and takes the next step of the ladder where AUTO and MAXSTEP allow; a release clears
the holds it names; clearing BLOCKED lets steps be tried again; a corrected word is counted, and retires its bank at CE_MAX;
the end of a copy gives the bank its replacement and leaves the bank given up dark. -/
def Obligations.DetectionsAndBanks : Prop :=
  (∀ (s : State) (h : Nat) (x : Grant), s.build.ok = true → s.gov.live = true → s.gov.quiet →
      h = s.gov.rcv.scan % 32768 → x = s.gov.grant h →
    ∃ t, exec .dwScanRead s = .next t ∧ t.gov.rcv.scan = (h + 1) % 32768
      ∧ (s.gov.overdue s.build h = false → t.gov.grant h = x ∧ t.gov.rd F.DW_STAT_CAUSE = s.gov.rd F.DW_STAT_CAUSE)
      ∧ (s.gov.overdue s.build h = true → t.gov.rd F.DW_STAT_CAUSE = 1
          ∧ ((∀ e ∈ s.gov.dm.grants, e.2 = s.gov.grant e.1) → (t.gov.grant h).named = true)
          ∧ t.gov.rd F.DW_STAT_DETECT = (s.gov.rd F.DW_STAT_DETECT + 1) % 2 ^ 16
          ∧ (s.gov.flag F.DW_CTL_AUTO = true →
              t.gov.rcv.lastStep = 0 ∧ t.gov.rcv.lastObj = x.ctx ∧ t.gov.rcv.lastCause = 1)
          ∧ (s.gov.flag F.DW_CTL_AUTO = false → s.gov.rcv.blocked.contains (1, x.ctx) = false →
              t.gov.rd F.DW_STAT_BLOCKED = 1 ∧ t.gov.rcv.lastStep = s.gov.rcv.lastStep)))
  ∧ (∀ (s : State) (c : Nat) (y : RStep), s.build.ok = true → s.gov.live = true → s.gov.under y →
      y.step = 0 → y.obj = c → y.toDone = false → (s.gov.ctx c).st = 2 →
      (s.gov.ctx c).ended = false → y.ctxs.contains (c, (s.gov.ctx c).cgen) = true →
      s.gov.flag F.DW_CTL_AUTO = true → 1 ≤ s.gov.rd F.DW_CTL_MAXSTEP → s.gov.rd F.DW_CTL_ENG_MAX = 0 →
    ∃ t, exec (.drainTimeout c) s = .next t
      ∧ t.gov.gtime = max s.gov.gtime (y.start + s.gov.rd F.DW_TO_DRAIN_TO * 100000)
      ∧ ∀ h, (s.gov.grant h).st = 2 → (s.gov.grant h).ctx = c →
          t.gov.reqOff (s.gov.grant h).req = true ∧ (t.gov.grant h).st = 0)
  ∧ (∀ (s : State) (q : Nat) (y : RStep), s.build.ok = true → s.gov.live = true → s.gov.under y →
      y.step = 2 → y.obj = q → y.toDone = false →
    ∃ t, exec (.partTimeout q) s = .next t
      ∧ t.gov.gtime = max s.gov.gtime (y.start + s.gov.rd F.DW_TO_PART_TO * 1000000) ∧ t.gov.rd F.DW_STAT_CAUSE = 6
      ∧ (s.gov.flag F.DW_CTL_AUTO = true → 3 ≤ s.gov.rd F.DW_CTL_MAXSTEP →
          t.gov.rcv.lastStep = 3 ∧ t.gov.rcv.lastCause = 6)
      ∧ (s.gov.flag F.DW_CTL_AUTO = false → s.gov.rcv.blocked.contains (6, 3 * 4096) = false →
          t.gov.rcv.lastStep = s.gov.rcv.lastStep ∧ t.gov.rd F.DW_STAT_BLOCKED = 1))
  ∧ (∀ (s : State) (y : RStep), s.build.ok = true → s.gov.live = true → s.gov.under y →
      y.step = 3 → y.obj = 0 → y.toDone = false → s.gov.flag F.DW_CTL_AUTO = true → 4 ≤ s.gov.rd F.DW_CTL_MAXSTEP →
    ∃ t, exec .chipTimeout s = .next t
      ∧ t.gov.gtime = max s.gov.gtime (y.start + s.gov.rd F.DW_TO_CHIP_TO * 1000000) ∧ t.gov.rd F.DW_STAT_CAUSE = 7
      ∧ t.gov.rcv.pwrcyc = true ∧ (s.gov.rcv.pwrcyc = false → t.gov.rcv.lastStep = 4 ∧ t.gov.rcv.lastCause = 7))
  ∧ (∀ (s : State) (f : Nat) (x : DmaTx) (q : DmaReq), s.build.ok = true → s.gov.live = true → s.gov.quiet →
      mfind s.gov.dma f = some x → x.out.find? (fun r => !r.late) = some q → s.gov.rd F.DW_TO_DMA_TO ≠ 0 →
    ∃ t, exec (.dmaTimeout f) s = .next t ∧ t.gov.rd F.DW_STAT_CAUSE = 5
      ∧ t.gov.gtime = max s.gov.gtime (q.t + s.gov.rd F.DW_TO_DMA_TO * 1000 + 1)
      ∧ (s.gov.flag F.DW_CTL_AUTO = true → 3 ≤ s.gov.rd F.DW_CTL_MAXSTEP →
          t.gov.rcv.lastStep = 3 ∧ t.gov.rcv.lastCause = 5)
      ∧ (s.gov.flag F.DW_CTL_AUTO = false → s.gov.rcv.blocked.contains (5, 3 * 4096) = false →
          t.gov.rd F.DW_STAT_BLOCKED = 1 ∧ mfind t.gov.dma f
            = some { x with out := x.out.map (fun r => if r.id = q.id then { r with late := true } else r) }))
  ∧ (∀ (s : State) (port w : Nat), s.build.ok = true → s.gov.live = true → s.gov.quiet → w < 2 ^ 64 →
    ∃ t, exec (.rcvHoldWrite port w) s = .next t
      ∧ (∀ q < 16, bit (t.gov.rd F.RCV_HOLD_PART) q = (bit (s.gov.rd F.RCV_HOLD_PART) q && !bit w q))
      ∧ (bit w 16 = true → s.gov.rd F.RCV_HOLD_CHIP ≤ 1 → t.gov.rd F.RCV_HOLD_CHIP = 0)
      ∧ (bit w 16 = false → t.gov.rd F.RCV_HOLD_CHIP = s.gov.rd F.RCV_HOLD_CHIP))
  ∧ (∀ (s : State) (port : Nat), s.gov.live = true → s.gov.quiet →
    ∃ t, exec (.dwStatBlockedClear port) s = .next t ∧ t.gov.rd F.DW_STAT_BLOCKED = 0 ∧ t.gov.rcv.blocked = [])
  ∧ (∀ (s : State) (off k : Nat), s.build.ok = true → s.gov.live = true → s.gov.quiet → k = off / 0x40000 → k < 48 →
      s.gov.dark k = false →
    ∃ t, exec (.correctedWriteback off) s = .next t
      ∧ t.gov.rd F.STORE_ECC_CE = min (s.gov.rd F.STORE_ECC_CE + 1) (2 ^ 24 - 1)
      ∧ t.gov.rd F.STORE_ECC_LAST_BANK = s.gov.phys k % 64
      ∧ t.gov.rd (F.ERR_CNT_COUNT 0) = (s.gov.rd (F.ERR_CNT_COUNT 0) + 1) % 2 ^ 48
      ∧ (∀ n, n = ((mget [] s.gov.store.ce (s.gov.phys k)).filter
            (fun u => decide (s.gov.gtime ≤ u + 1000000000))).length + 1 →
          s.gov.store.copying = none → s.gov.phys k < 48 → s.gov.rd F.STORE_ECC_CE_MAX ≠ 0 →
          s.gov.rd F.STORE_ECC_CE_MAX ≤ n → bit (t.gov.rd F.STORE_RET_BANKS) (s.gov.phys k) = true))
  ∧ (∀ (s : State) (lost : List Nat) (k h : Nat), s.gov.live = true → s.gov.quiet → s.gov.store.copying = some (k, h) →
      k < 48 → h < 48 → k ≠ h → s.gov.store.queue = [] →
    ∃ t, exec (.bankCopyDone lost) s = .next t ∧ t.gov.phys k = s.gov.phys h % 64 ∧ t.gov.rd (F.STORE_MAP_COPY k) = 0
      ∧ t.gov.dark h = true ∧ t.gov.func h = 15 ∧ t.gov.store.copying = none
      ∧ (lost = [] → k ≠ 34 → k ≠ 42 → t.mem = s.mem))

/-! ## The SMBus target and the test access port -/

/-- R71 to R75, R102: while the governor is in reset the target does not acknowledge; a PMBus or Dvorea read answers its bytes
lowest first, a block with its count; PAGE and MFR_MBX_SEL select; CLEAR_FAULTS clears the status bits; a wrong PEC byte, an
unsupported code and bad data set their bits of STATUS_CML; a push of one to four words enters them all or none; a pull takes at
most four words; the alert response answers the own address while some status bit is set. -/
def Obligations.SmbusTarget : Prop :=
  (∀ (n : Nat) (val : State → Nat) (c : Instr),
      (n, val, c) ∈ [(1, fun _ => 0xD0, Instr.capability), (1, fun _ => 0x14, Instr.voutMode),
        (1, fun s => s.gov.statusWord % 256, Instr.statusByte), (2, fun s => s.gov.statusWord, Instr.statusWord),
        (1, fun s => mget 0 s.gov.io.smb.vout s.gov.io.smb.page, Instr.statusVout),
        (1, fun s => mget 0 s.gov.io.smb.iout s.gov.io.smb.page, Instr.statusIout),
        (1, fun s => s.gov.io.smb.input, Instr.statusInput), (1, fun s => s.gov.io.smb.temp, Instr.statusTemperature),
        (1, fun s => s.gov.io.smb.cml, Instr.statusCml),
        (2, fun s => linear11 (s.gov.rd F.VIN_PROT_VIN * 8 : Nat) 1000, Instr.readVin),
        (2, fun s => (rndUp (s.gov.rd (F.RAIL_MEAS_VS s.gov.io.smb.page) * 256) 125).toNat, Instr.readVout),
        (2, fun s => linear11 (s.gov.rd (F.RAIL_MEAS_ISUM s.gov.io.smb.page) : Nat) 16, Instr.readIout),
        (2, fun s => linear11 (sx 16 (s.gov.rd F.TH_STAT_HOT_T)) 128, Instr.readTemperature1),
        (2, fun s => linear11 (sx 16 (s.gov.rd F.TH_STAT_HOT_D)) 128, Instr.readTemperature2),
        (2, fun s => linear11 (s.gov.rd (F.RAIL_MEAS_POUT s.gov.io.smb.page) : Nat) 8, Instr.readPout),
        (1, fun _ => 0x44, Instr.pmbusRevision)] →
      ∀ s : State,
    ∃ t, exec c s = .next t ∧ t.mem = s.mem ∧ t.gov.regs = s.gov.regs
      ∧ (s.gov.live = true → t.gov.io.smb.out = leBytes n (val s) ∧ t.gov.io.smb.nack = false)
      ∧ (s.gov.live = false → t.gov.io.smb.out = [] ∧ t.gov.io.smb.nack = true))
  ∧ (∀ (val : State → List Nat) (c : Instr),
      (val, c) ∈ [(fun _ => [0x44, 0x56, 0x4F, 0x52, 0x45, 0x41], Instr.mfrId), (fun _ => [0x59, 0x47, 0x34], Instr.mfrModel),
        (fun _ => [0x33, 0x2E, 0x32], Instr.mfrRevision),
        (fun s => leBytes 8 (s.gov.regWord s.build 4 0x2000), Instr.mfrGovStatus),
        (fun s => leBytes 8 (s.gov.regWord s.build 4 0x14038), Instr.mfrServiceCause),
        (fun s => s.gov.identBytes s.build, Instr.mfrIdent), (fun s => s.gov.eventPeek, Instr.mfrEventPeek)] →
      ∀ s : State,
    ∃ t, exec c s = .next t ∧ t.mem = s.mem ∧ t.gov.regs = s.gov.regs
      ∧ (s.gov.live = true → t.gov.io.smb.out = (val s).length :: val s ∧ t.gov.io.smb.nack = false)
      ∧ (s.gov.live = false → t.gov.io.smb.out = [] ∧ t.gov.io.smb.nack = true))
  ∧ (∀ (s : State) (n : Nat), s.gov.live = true → n < s.build.rails → n < 16 →
    ∃ t, exec (.page (some n) false) s = .next t ∧ t.gov.io.smb.page = n ∧ t.gov.io.smb.nack = false)
  ∧ (∀ (s : State) (n : Nat), s.gov.live = true → s.build.rails ≤ n →
    ∃ t, exec (.page (some n) false) s = .next t ∧ t.gov.io.smb.page = s.gov.io.smb.page
      ∧ bit t.gov.io.smb.cml 7 = true ∧ t.gov.io.smb.nack = true)
  ∧ (∀ (s : State), s.gov.live = true →
    ∃ t, exec (.page none false) s = .next t ∧ t.gov.io.smb.out = [s.gov.io.smb.page])
  ∧ (∀ (s : State), s.gov.live = true →
    ∃ t, exec (.clearFaults false) s = .next t ∧ t.gov.io.smb.cml = 0 ∧ t.gov.io.smb.nack = false
      ∧ t.gov.io.smb.input = 0 ∧ t.gov.io.smb.temp = 0 ∧ t.gov.regs = s.gov.regs
      ∧ ∀ n, mget 0 t.gov.io.smb.vout n = 0 ∧ mget 0 t.gov.io.smb.iout n = 0)
  ∧ (∀ (c : Instr) (v : Option Nat) (ws : List Nat),
      c ∈ [Instr.page v true, Instr.clearFaults true, Instr.mfrMbxSel v true, Instr.mfrMbxPush ws true] →
      ∀ s : State, s.gov.live = true → s.gov.quiet →
    ∃ t, exec c s = .next t ∧ bit t.gov.io.smb.cml 5 = true ∧ t.gov.io.smb.nack = true
      ∧ t.gov.rd (F.ERR_CNT_COUNT 5) = (s.gov.rd (F.ERR_CNT_COUNT 5) + 1) % 2 ^ 48
      ∧ t.gov.io.smb.page = s.gov.io.smb.page ∧ t.gov.io.smb.sel = s.gov.io.smb.sel ∧ t.gov.mb = s.gov.mb)
  ∧ (∀ (s : State) (code : Nat), s.gov.live = true → code ∉ smbCodes →
    ∃ t, exec (.smbusUnsupportedCommand code) s = .next t ∧ bit t.gov.io.smb.cml 7 = true ∧ t.gov.io.smb.nack = true
      ∧ t.gov.rd (F.ERR_CNT_COUNT 5) = (s.gov.rd (F.ERR_CNT_COUNT 5) + 1) % 2 ^ 48)
  ∧ (∀ (s : State) (n : Nat), s.gov.live = true →
    ∃ t, exec (.mfrMbxSel (some n) false) s = .next t
      ∧ (n < 16 → t.gov.io.smb.sel = n ∧ t.gov.io.smb.nack = false)
      ∧ (16 ≤ n → t.gov.io.smb.sel = s.gov.io.smb.sel ∧ bit t.gov.io.smb.cml 6 = true ∧ t.gov.io.smb.nack = true))
  ∧ (∀ (s : State), s.gov.live = true →
    ∃ t, exec (.mfrMbxSel none false) s = .next t ∧ t.gov.io.smb.out = [s.gov.io.smb.sel])
  ∧ (∀ (s : State),
    ∃ t, exec .alertResponse s = .next t
      ∧ (s.gov.live = true → s.gov.smbAlert = true →
          t.gov.io.smb.out = [s.build.smbAddr * 2] ∧ t.gov.io.smb.nack = false)
      ∧ (s.gov.live = false ∨ s.gov.smbAlert = false → t.gov.io.smb.out = [] ∧ t.gov.io.smb.nack = true))
  ∧ (∀ (s : State) (us : Nat), s.gov.live = true → 25000 < us →
    ∃ t, exec (.smbusClockTimeout us) s = .next t ∧ t.gov.io.smb.out = [] ∧ t.gov.io.smb.page = s.gov.io.smb.page)
  ∧ (∀ (s : State) (n w : Nat), s.gov.live = true → s.gov.quiet → n = s.gov.io.smb.sel → n < 16 →
      (∀ m < 16, s.gov.head m = none) → s.gov.flag (F.MBX_CTL_EN n) = true → s.gov.mayUse n 4 = true →
      (s.gov.mbx n).q = [] → bits w 14 5 ≠ 0 →
    ∃ t, exec (.mfrMbxPush [w] false) s = .next t ∧ t.gov.io.smb.nack = false
      ∧ (t.gov.mbx n).q
          = [{ hdr := w, port := 4, own := s.gov.rd (F.MBX_CTL_OWNER n), t0 := s.gov.gtime, whole := none }])
  ∧ (∀ (s : State) (ws : List Nat), s.gov.live = true → s.gov.quiet → ws = [] ∨ 4 < ws.length →
    ∃ t, exec (.mfrMbxPush ws false) s = .next t ∧ t.gov.io.smb.nack = true ∧ bit t.gov.io.smb.cml 6 = true
      ∧ t.gov.mb = s.gov.mb)
  ∧ (∀ (s : State) (n : Nat) (ws : List Nat), s.gov.live = true → s.gov.quiet → n = s.gov.io.smb.sel → n < 16 →
      (∀ m < 16, s.gov.head m = none) → s.gov.flag (F.MBX_CTL_EN n) = false ∨ s.gov.mayUse n 4 = false →
      1 ≤ ws.length → ws.length ≤ 4 → (s.gov.mbx n).used + ws.length ≤ 32 →
    ∃ t, exec (.mfrMbxPush ws false) s = .next t ∧ t.gov.io.smb.nack = false ∧ t.gov.rd (F.MBX_STAT_PORTERR n) = 1
      ∧ (t.gov.mbx n).q = (s.gov.mbx n).q)
  ∧ (∀ (s : State) (n : Nat) (ws : List Nat), s.gov.live = true → s.gov.quiet → n = s.gov.io.smb.sel → n < 16 →
      1 ≤ ws.length → ws.length ≤ 4 → 32 < (s.gov.mbx n).used + ws.length →
    ∃ t, exec (.mfrMbxPush ws false) s = .next t ∧ t.gov.io.smb.nack = true ∧ t.gov.rd (F.MBX_STAT_CQ_OVF n) = 1
      ∧ (t.gov.mbx n).q = (s.gov.mbx n).q)
  ∧ (∀ (s : State) (n k : Nat), s.gov.live = true → s.gov.quiet → n = s.gov.io.smb.sel → n < 16 →
      (∀ m < 16, s.gov.head m = none) → s.gov.mayUse n 4 = true → k = min 4 (s.gov.mbx n).rq.length →
    ∃ t, exec .mfrMbxPull s = .next t ∧ (t.gov.mbx n).rq = (s.gov.mbx n).rq.drop k ∧ t.gov.io.smb.nack = false
      ∧ t.gov.io.smb.out = 8 * k :: (((s.gov.mbx n).rq.take k).map (leBytes 8)).flatten)
  ∧ (∀ (s : State) (n : Nat), s.gov.live = true → s.gov.quiet → n = s.gov.io.smb.sel → n < 16 →
      s.gov.mayUse n 4 = false →
    ∃ t, exec .mfrMbxPull s = .next t ∧ t.gov.rd (F.MBX_STAT_PORTERR n) = 1 ∧ t.gov.io.smb.out = [0])

/-- R78, R79, R503, R504: each instruction of the test access port selects its register; EXTEST drives the pins only with
GOV_READY and every PEN low, and else behaves as BYPASS, with an event; it and SAMPLE capture the cells; REGACC shows the previous access and makes the next one as port 5,
which stays unfinished on the store window in the Store stage; FTOBS captures FT_STAT and FT_ACT. -/
def Obligations.TestAccessPort : Prop :=
  (∀ (s : State) (pins : Nat) (scan : Option Nat), s.gov.aon = true →
    ∃ t, exec (.extest ⟨pins, scan⟩) s = .next t ∧ t.mem = s.mem
      ∧ (s.gov.extestMay s.build = true →
          t.gov.io.tap.instr = 0x00 ∧ t.gov.io.tap.dr = s.gov.capture s.build pins ∧ t.gov.io.tap.drives = true
          ∧ t.gov.io.tap.boundary = scan.getD s.gov.io.tap.boundary
          ∧ ∀ i, drivenCell i = true → 384 ≤ i ∨ s.gov.ft.ovr = 0 →
              t.gov.pin s.build pins i = bit (scan.getD s.gov.io.tap.boundary) i)
      ∧ (s.gov.extestMay s.build = false →
          t.gov.io.tap.instr = 0xFF ∧ t.gov.io.tap.dr = 0 ∧ t.gov.io.tap.drives = false
          ∧ t.gov.io.tap.boundary = s.gov.io.tap.boundary
          ∧ (s.gov.live = true → s.gov.recr.queue.length < 256 → ∃ e ∈ t.gov.recr.queue, e.code = 0x900A)))
  ∧ (∀ s : State, s.gov.aon = true →
    ∃ t, exec .idcode s = .next t ∧ t.gov.io.tap.instr = 0x01 ∧ t.gov.io.tap.drives = false
      ∧ t.gov.io.tap.dr = 0x35947001 + s.build.idMfr % 2048 * 2)
  ∧ (∀ (s : State) (pins load : Nat), s.gov.aon = true →
    ∃ t, exec (.samplePreload pins load) s = .next t ∧ t.gov.io.tap.instr = 0x02 ∧ t.gov.io.tap.dr = s.gov.capture s.build pins
      ∧ t.gov.io.tap.boundary = load ∧ t.gov.io.tap.drives = false)
  ∧ (∀ s : State, s.gov.aon = true →
    ∃ t, exec .ftobs s = .next t ∧ t.gov.io.tap.instr = 0x21
      ∧ t.gov.io.tap.dr = s.gov.rawWord s.build 0xC210 + s.gov.rawWord s.build 0xC208 * 2 ^ 64)
  ∧ (∀ s : State, s.gov.aon = true →
    ∃ t, exec .bypass s = .next t ∧ t.gov.io.tap.instr = 0xFF ∧ t.gov.io.tap.dr = 0 ∧ t.gov.io.tap.drives = false)
  ∧ (∀ s : State, s.gov.aon = true →
    ∃ t, exec .tapReset s = .next t ∧ t.gov.io.tap.instr = 0x01 ∧ t.gov.io.tap.drives = false)
  ∧ (∀ (s : State) (off o data : Nat) (bad collide : Bool), s.gov.live = true → s.gov.quiet →
      (∀ m < 16, s.gov.head m = none) → o = off % 2 ^ 20 / 8 * 8 → o < 0x40000 → mbxOf o = none → o ≠ 0x2008 →
    ∃ t, exec (.regacc false off data bad collide) s = .next t ∧ t.mem = s.mem ∧ t.gov.io.tap.instr = 0x20
      ∧ t.gov.io.tap.dr = s.gov.regaccDr ∧ t.gov.io.tap.status = 0
      ∧ t.gov.io.tap.data = s.gov.regWord s.build 5 o)
  ∧ (∀ (s : State) (off data : Nat) (bad collide : Bool), s.gov.live = true → s.gov.quiet →
      off % 2 ^ 20 / 8 * 8 = 0x2020 →
    ∃ t, exec (.regacc true off data bad collide) s = .next t ∧ t.mem = s.mem ∧ t.gov.io.tap.dr = s.gov.regaccDr
      ∧ t.gov.io.tap.status = 0 ∧ t.gov.rd F.MIR_ADDR_ADDR = bits data 4 52)
  ∧ (∀ (s : State) (wr : Bool) (off data : Nat) (bad collide : Bool), s.gov.live = true → s.gov.quiet →
      s.gov.stage = sSTORE → 0x40000 ≤ off % 2 ^ 20 →
    ∃ t, exec (.regacc wr off data bad collide) s = .next t ∧ t.mem = s.mem ∧ t.gov.io.tap.dr = s.gov.regaccDr
      ∧ t.gov.io.tap.status = 2 ∧ t.gov.io.tap.data = 0)
  ∧ (∀ (s : State) (off data o : Nat) (bad collide : Bool), s.memOk → s.gov.live = true → s.gov.quiet →
      s.gov.stage ≠ sSTORE → 0x40000 ≤ off % 2 ^ 20 → o = s.gov.winOff 5 (off % 2 ^ 20 / 8 * 8) →
      s.gov.storeTakes o = true → s.gov.collides o collide = false →
    ∃ t, exec (.regacc true off data bad collide) s = .next t ∧ t.gov.io.tap.status = 0
      ∧ ∀ a, memGet t.mem a
          = if o ≤ a ∧ a < o + 8 then BitVec.ofNat 8 (data / 256 ^ (a - o)) else memGet s.mem a)

/-! ## The machine as a whole -/

/-- A step runs the command at the front of the queue on the state with the rest of the queue; on an empty queue one cycle
passes (log 21: the model's choice): GTIME advances by 1 ns where GCLK runs, and nothing is stored. -/
def Obligations.StepRunsTheFront : Prop :=
  (∀ (s : State) (c : Instr), step { s with pending := c :: s.pending } = exec c s)
  ∧ (∀ s : State, s.pending = [] →
    ∃ t, step s = .next t ∧ t.pending = [] ∧ t.build = s.build ∧ t.mem = s.mem
      ∧ t.gov.gtime = if s.gov.live then (s.gov.gtime + 1) % 2 ^ 64 else s.gov.gtime)

/-- Every command answers a next state, with the build and the queue as they were, and only nine rows reach the raw store
bytes; STORE_WRITE and STORE_READ leave every byte outside the words they name. -/
def Obligations.EveryCommandAnswers : Prop :=
  (∀ (c : Instr) (s : State),
    ∃ t, exec c s = .next t ∧ t.build = s.build ∧ t.pending = s.pending
      ∧ (c.reachesBytes = false → t.mem = s.mem))
  ∧ (∀ (s t : State) (x : Packet) (lose : Option Nat) (a o : Nat), exec (.storeWrite x lose) s = .next t →
      o = bits x.arg 0 24 → x.wf = true → a < o ∨ o + 8 * x.params.length ≤ a → memGet t.mem a = memGet s.mem a)
  ∧ (∀ (s t : State) (x : Packet) (bad : List Nat) (a o : Nat), exec (.storeRead x bad) s = .next t →
      o = bits x.arg 0 24 → x.wf = true → a < o / 8 * 8 ∨ o + 8 * bits x.arg 24 5 ≤ a → memGet t.mem a = memGet s.mem a)

/-- Reset leaves the raw store bytes in their canonical form, with nothing listed, and no command waiting. -/
def Obligations.ResetMeetsTheInvariants : Prop :=
  State.reset.memOk ∧ State.reset.queueOk ∧ State.reset.mem = [] ∧ State.reset.build.ok = true

/-- Every step from a state whose raw store bytes stand in canonical form, and whose queue holds well-formed commands, leaves
both so. -/
def Obligations.StepKeepsTheInvariants : Prop :=
  ∀ s t : State, s.memOk → s.queueOk → step s = .next t → t.memOk ∧ t.queueOk

/-! ## Frames -/

/-- What the rows of the Clock to Ready stages, of the fuses and of the clocks, and the rows of the Springtail rings and of one
phase or rail leave unchanged: every part of the governor and every register that `Instr.bootChanges` or `Instr.ringChanges`
does not name, and all of memory. -/
def Obligations.BootAndRingFrames : Prop :=
  (∀ (c : Instr) (ps : List Part) (rs : List (Nat × Nat)) (s t : State), c.bootChanges = some (ps, rs) → c.wf = true →
    s.build.ok = true → exec c s = .next t → t.mem = s.mem ∧ s.gov.onlyChanges ps rs t.gov)
  ∧ (∀ (c : Instr) (ps : List Part) (rs : List (Nat × Nat)) (s t : State), c.ringChanges = some (ps, rs) → c.wf = true →
    s.build.ok = true → exec c s = .next t → t.mem = s.mem ∧ s.gov.onlyChanges ps rs t.gov)

/-- The same for rows of the demand, thermal and Hedgerow engines, of Firethorn, and for the issue of an order. -/
def Obligations.EngineFrames : Prop :=
  ∀ (c : Instr) (ps : List Part) (rs : List (Nat × Nat)) (s t : State), c.engineChanges = some (ps, rs) → c.wf = true →
    s.build.ok = true → exec c s = .next t → t.mem = s.mem ∧ s.gov.onlyChanges ps rs t.gov

/-- The same for rows of the lock, the check word, timeouts, the recorder, the mirror, dumps and DMA. -/
def Obligations.RecorderFrames : Prop :=
  ∀ (c : Instr) (ps : List Part) (rs : List (Nat × Nat)) (s t : State), c.recordChanges = some (ps, rs) → c.wf = true →
    s.build.ok = true → exec c s = .next t → t.mem = s.mem ∧ s.gov.onlyChanges ps rs t.gov

/-- The same for register reads, window writes, the SMBus target and the test access port; a window write alone of them
stores bytes. -/
def Obligations.PortFrames : Prop :=
  ∀ (c : Instr) (ps : List Part) (rs : List (Nat × Nat)) (s t : State), c.portChanges = some (ps, rs) → c.wf = true →
    s.build.ok = true → exec c s = .next t →
    (c.reachesBytes = false → t.mem = s.mem) ∧ s.gov.onlyChanges ps rs t.gov

/-- R370: an opcode that fails a common check is answered with the first check's code and has no other effect; a query that
passes them has no effect but its reply: the mailbox, the record of the port's access, the recorder's samples, the
registers of the mailboxes and of the recorder. -/
def Obligations.RefusedAndQueries : Prop :=
  (∀ (c : Instr) (op arg : Nat) (x : Packet) (s : State), c.packet = some (op, arg, x) → s.gov.live = true → s.gov.quiet →
      x.wf = true → s.gov.takeable x.mbx (packetPkt x op arg s.gov) = true →
      cmdRefused s.build (s.command op arg x) (packetPkt x op arg s.gov).hres (s.taken op arg x) ≠ 0 →
    ∃ t, exec c s = .next t ∧ t.mem = s.mem
      ∧ s.answered t x op (cmdRefused s.build (s.command op arg x) (packetPkt x op arg s.gov).hres (s.taken op arg x)) []
      ∧ s.gov.onlyChanges [.mb, .cfg, .recr, .pmbus, .bus] [(0x1000, 0x13FF), (0x16000, 0x1642F)] t.gov)
  ∧ (∀ (c : Instr) (op arg : Nat) (x : Packet) (s : State), c.isQuery = true → c.packet = some (op, arg, x) →
      s.takes op arg x →
    ∃ t, exec c s = .next t ∧ t.mem = s.mem
      ∧ s.gov.onlyChanges [.mb, .cfg, .recr, .pmbus, .bus] [(0x1000, 0x13FF), (0x16000, 0x1642F)] t.gov)
end

