-- ==== Sys2Proof/Laws/Sparse.lean ====
section
/-! SUPPORT. Laws of sparse maps and of the raw store bytes: reads after writes, and the canonical form that every
memory operation keeps. -/

namespace Sys2Proof.Machine

/-! ## Sparse maps -/

@[simp] theorem mget_mput_same {α : Type} (d : α) (m : Sparse α) (k : Nat) (v : α) :
    mget d (mput m k v) k = v := by
  induction m with
  | nil => simp [mput, mget]
  | cons e r ih =>
    obtain ⟨k', v'⟩ := e
    simp only [mput]
    split
    · simp [mget]
    · split
      · simp [mget]
      · rename_i h1 h2; simp [mget, h2, ih]

theorem mget_mput_ne {α : Type} (d : α) (m : Sparse α) {k j : Nat} (v : α) (h : j ≠ k) :
    mget d (mput m k v) j = mget d m j := by
  induction m with
  | nil => simp [mput, mget, h]
  | cons e r ih =>
    obtain ⟨k', v'⟩ := e
    simp only [mput]
    split
    · simp [mget, h]
    · split
      · rename_i h1 h2; subst h2; simp [mget, h]
      · simp [mget, ih]

theorem mget_mput {α : Type} (d : α) (m : Sparse α) (k j : Nat) (v : α) :
    mget d (mput m k v) j = if j = k then v else mget d m j := by
  split
  · subst_vars; simp
  · exact mget_mput_ne d m v ‹_›

/-- What a filter on keys leaves readable. -/
theorem mget_filter_key {α : Type} (d : α) (p : Nat → Bool) (m : Sparse α) (k : Nat) :
    mget d (m.filter (fun e => p e.1)) k = if p k then mget d m k else d := by
  induction m with
  | nil => simp [mget]
  | cons e r ih =>
    obtain ⟨k', v'⟩ := e
    have ih' : mget d (r.filter (fun e => p e.1)) k = if p k then mget d r k else d := ih
    by_cases hk : k = k'
    · subst hk
      by_cases hp : p k = true
      · simp [hp, mget]
      · simp only [Bool.not_eq_true] at hp
        simp only [List.filter_cons, hp, Bool.false_eq_true, if_false]
        simpa [hp] using ih'
    · by_cases hp : p k' = true
      · simp only [List.filter_cons, hp, if_true, mget, hk, if_false]
        exact ih'
      · simp only [Bool.not_eq_true] at hp
        simp only [List.filter_cons, hp, Bool.false_eq_true, if_false, mget, hk]
        exact ih'

theorem mget_mdel_same {α : Type} (d : α) (m : Sparse α) (k : Nat) : mget d (mdel m k) k = d := by
  have h := mget_filter_key d (fun j => j != k) m k
  simpa [mdel] using h

theorem mget_mdel_ne {α : Type} (d : α) (m : Sparse α) {k j : Nat} (h : j ≠ k) :
    mget d (mdel m k) j = mget d m j := by
  have h' := mget_filter_key d (fun j => j != k) m j
  simpa [mdel, h] using h'

/-! ## Raw store bytes -/

@[simp] theorem memGet_memPut_same (m : List (Nat × Byte)) (a : Nat) (v : Byte) (h : memWf m = true) :
    memGet (memPut m a v) a = v := by
  unfold memWf at h
  generalize 0 = lo at h
  induction m generalizing lo with
  | nil => by_cases hv : v = 0#8 <;> simp [memPut, memGet, hv]
  | cons e r ih =>
    obtain ⟨a', v'⟩ := e
    simp only [memWfFrom, Bool.and_eq_true, decide_eq_true_eq] at h
    have above : ∀ (r : List (Nat × Byte)) (lo : Nat), memWfFrom lo r = true → ∀ x < lo, memGet r x = 0 := by
      intro r
      induction r with
      | nil => intros; rfl
      | cons e r ih =>
        obtain ⟨b, w⟩ := e
        intro lo h x hx
        simp only [memWfFrom, Bool.and_eq_true, decide_eq_true_eq] at h
        have : x ≠ b := by omega
        simp only [memGet, this, if_false]
        exact ih (b + 1) h.2 x (by omega)
    simp only [memPut]
    split
    · split
      · subst_vars
        have : a ≠ a' := by omega
        simp only [memGet, this, if_false]
        exact above r (a' + 1) h.2 a (by omega)
      · simp [memGet]
    · split
      · split
        · subst_vars
          exact above r (a' + 1) h.2 a' (by omega)
        · simp [memGet]
      · rename_i h1 h2
        simp only [memGet, h2, if_false]
        exact ih _ h.2

theorem memGet_memPut_ne (m : List (Nat × Byte)) {a b : Nat} (v : Byte) (h : b ≠ a) :
    memGet (memPut m a v) b = memGet m b := by
  induction m with
  | nil => by_cases hv : v = 0#8 <;> simp [memPut, memGet, hv, h]
  | cons e r ih =>
    obtain ⟨a', v'⟩ := e
    simp only [memPut]
    split
    · split <;> simp [memGet, h]
    · split
      · rename_i h1 h2
        subst h2
        split <;> simp [memGet, h]
      · simp [memGet, ih]

theorem memWfFrom_mono {m : List (Nat × Byte)} {lo lo' : Nat} (h : memWfFrom lo m = true) (hl : lo' ≤ lo) :
    memWfFrom lo' m = true := by
  cases m with
  | nil => rfl
  | cons e r =>
    obtain ⟨a, v⟩ := e
    simp only [memWfFrom, Bool.and_eq_true, decide_eq_true_eq] at h ⊢
    exact ⟨⟨by omega, h.1.2⟩, h.2⟩

theorem memWfFrom_memPut {m : List (Nat × Byte)} {lo : Nat} (a : Nat) (v : Byte) (h : memWfFrom lo m = true)
    (hl : lo ≤ a) : memWfFrom lo (memPut m a v) = true := by
  induction m generalizing lo with
  | nil =>
    by_cases hv : v = 0#8
    · simp [memPut, hv, memWfFrom]
    · simp [memPut, hv, memWfFrom, hl]
  | cons e r ih =>
    obtain ⟨a', v'⟩ := e
    simp only [memWfFrom, Bool.and_eq_true, decide_eq_true_eq] at h
    simp only [memPut]
    split
    · split
      · simp only [memWfFrom, Bool.and_eq_true, decide_eq_true_eq]; exact h
      · rename_i hlt hv
        simp only [memWfFrom, Bool.and_eq_true, decide_eq_true_eq]
        exact ⟨⟨hl, bne_iff_ne.mpr hv⟩, ⟨by omega, h.1.2⟩, h.2⟩
    · split
      · rename_i heq
        subst heq
        split
        · exact memWfFrom_mono h.2 (by omega)
        · rename_i hv
          simp only [memWfFrom, Bool.and_eq_true, decide_eq_true_eq]
          exact ⟨⟨h.1.1, bne_iff_ne.mpr hv⟩, h.2⟩
      · simp only [memWfFrom, Bool.and_eq_true, decide_eq_true_eq]
        exact ⟨h.1, ih h.2 (by omega)⟩

/-- A byte write keeps the canonical form. -/
theorem memWf_memPut {m : List (Nat × Byte)} (a : Nat) (v : Byte) (h : memWf m = true) : memWf (memPut m a v) = true :=
  memWfFrom_memPut a v h (Nat.zero_le a)

/-- Storing a value of several bytes keeps the canonical form. -/
theorem memWf_memPutBytes (n : Nat) {m : List (Nat × Byte)} (a v : Nat) (h : memWf m = true) :
    memWf (memPutBytes m a v n) = true := by
  induction n generalizing m a v with
  | zero => exact h
  | succ n ih => exact ih _ _ (memWf_memPut _ _ h)

/-- A fold of steps that each keep the canonical form keeps it. -/
theorem memWf_foldl {α : Type} (f : List (Nat × Byte) → α → List (Nat × Byte))
    (hf : ∀ m x, memWf m = true → memWf (f m x) = true) (l : List α) {m : List (Nat × Byte)} (h : memWf m = true) :
    memWf (l.foldl f m) = true := by
  induction l generalizing m with
  | nil => exact h
  | cons x l ih => exact ih (hf m x h)

/-- Bytes outside those stored are as before. -/
theorem memGet_memPutBytes_out (n : Nat) (m : List (Nat × Byte)) (a v x : Nat) (h : x < a ∨ a + n ≤ x) :
    memGet (memPutBytes m a v n) x = memGet m x := by
  induction n generalizing m a v with
  | zero => rfl
  | succ n ih =>
    rw [memPutBytes, ih _ _ _ (by omega), memGet_memPut_ne _ _ (by omega)]

end Sys2Proof.Machine
end

