-- ==== Sys2Proof/Laws/State.lean ====
section
/-! SUPPORT. What each plain update of the machine's state does to each of its fields, so that no later proof unfolds a
record update. -/

namespace Sys2Proof.Machine

/-! ## The machine -/

@[simp] theorem State.withMem_build (s : State) (m : List Host.Cell) : (s.withMem m).build = s.build := rfl
@[simp] theorem State.withMem_gov (s : State) (m : List Host.Cell) : (s.withMem m).gov = s.gov := rfl
@[simp] theorem State.withMem_pending (s : State) (m : List Host.Cell) : (s.withMem m).pending = s.pending := rfl
@[simp] theorem State.withMem_mem (s : State) (m : List Host.Cell) : (s.withMem m).mem = m := rfl
@[simp] theorem State.apply_build (s : State) (f : Build → List Host.Cell → Gov → Gov) : (s.apply f).build = s.build := rfl
@[simp] theorem State.apply_mem (s : State) (f : Build → List Host.Cell → Gov → Gov) : (s.apply f).mem = s.mem := rfl
@[simp] theorem State.apply_pending (s : State) (f : Build → List Host.Cell → Gov → Gov) :
    (s.apply f).pending = s.pending := rfl
theorem State.apply_gov (s : State) (f : Build → List Host.Cell → Gov → Gov) :
    (s.apply f).gov = s.gov.wake ((s.gov.passed s.build (f s.build s.mem s.gov)).latch s.build s.gov) := rfl
@[simp] theorem State.settle_build (s : State) (f : Build → List Host.Cell → Gov → Gov) :
    (s.settle f).build = s.build := rfl
@[simp] theorem State.settle_mem (s : State) (f : Build → List Host.Cell → Gov → Gov) : (s.settle f).mem = s.mem := rfl
@[simp] theorem State.settle_pending (s : State) (f : Build → List Host.Cell → Gov → Gov) :
    (s.settle f).pending = s.pending := rfl
theorem State.settle_gov (s : State) (f : Build → List Host.Cell → Gov → Gov) :
    (s.settle f).gov =
      s.gov.wake ((s.gov.passed s.build ((f s.build s.mem s.gov).settled s.build)).latch s.build s.gov) := rfl

/-! ## Gov.wr -/

@[simp] theorem Gov.wr_aon (g : Gov) (f : Fld) (v : Nat) : (g.wr f v).aon = g.aon := rfl
@[simp] theorem Gov.wr_porst (g : Gov) (f : Fld) (v : Nat) : (g.wr f v).porst = g.porst := rfl
@[simp] theorem Gov.wr_gclk (g : Gov) (f : Fld) (v : Nat) : (g.wr f v).gclk = g.gclk := rfl
@[simp] theorem Gov.wr_cold (g : Gov) (f : Fld) (v : Nat) : (g.wr f v).cold = g.cold := rfl
@[simp] theorem Gov.wr_gtime (g : Gov) (f : Fld) (v : Nat) : (g.wr f v).gtime = g.gtime := rfl
@[simp] theorem Gov.wr_fresh (g : Gov) (f : Fld) (v : Nat) : (g.wr f v).fresh = g.fresh := rfl
@[simp] theorem Gov.wr_regs (g : Gov) (f : Fld) (v : Nat) : (g.wr f v).regs = mput g.regs f.key (v % 2 ^ f.len) := rfl
@[simp] theorem Gov.wr_kept (g : Gov) (f : Fld) (v : Nat) : (g.wr f v).kept = g.kept := rfl
@[simp] theorem Gov.wr_clk (g : Gov) (f : Fld) (v : Nat) : (g.wr f v).clk = g.clk := rfl
@[simp] theorem Gov.wr_brg (g : Gov) (f : Fld) (v : Nat) : (g.wr f v).brg = g.brg := rfl
@[simp] theorem Gov.wr_recr (g : Gov) (f : Fld) (v : Nat) : (g.wr f v).recr = g.recr := rfl
@[simp] theorem Gov.wr_rails (g : Gov) (f : Fld) (v : Nat) : (g.wr f v).rails = g.rails := rfl
@[simp] theorem Gov.wr_phs (g : Gov) (f : Fld) (v : Nat) : (g.wr f v).phs = g.phs := rfl
@[simp] theorem Gov.wr_convs (g : Gov) (f : Fld) (v : Nat) : (g.wr f v).convs = g.convs := rfl
@[simp] theorem Gov.wr_probes (g : Gov) (f : Fld) (v : Nat) : (g.wr f v).probes = g.probes := rfl
@[simp] theorem Gov.wr_calWait (g : Gov) (f : Fld) (v : Nat) : (g.wr f v).calWait = g.calWait := rfl
@[simp] theorem Gov.wr_st (g : Gov) (f : Fld) (v : Nat) : (g.wr f v).st = g.st := rfl
@[simp] theorem Gov.wr_pl (g : Gov) (f : Fld) (v : Nat) : (g.wr f v).pl = g.pl := rfl
@[simp] theorem Gov.wr_th (g : Gov) (f : Fld) (v : Nat) : (g.wr f v).th = g.th := rfl
@[simp] theorem Gov.wr_ft (g : Gov) (f : Fld) (v : Nat) : (g.wr f v).ft = g.ft := rfl
@[simp] theorem Gov.wr_hr (g : Gov) (f : Fld) (v : Nat) : (g.wr f v).hr = g.hr := rfl
@[simp] theorem Gov.wr_dm (g : Gov) (f : Fld) (v : Nat) : (g.wr f v).dm = g.dm := rfl
@[simp] theorem Gov.wr_mb (g : Gov) (f : Fld) (v : Nat) : (g.wr f v).mb = g.mb := rfl
@[simp] theorem Gov.wr_cfg (g : Gov) (f : Fld) (v : Nat) : (g.wr f v).cfg = g.cfg := rfl
@[simp] theorem Gov.wr_mir (g : Gov) (f : Fld) (v : Nat) : (g.wr f v).mir = g.mir := rfl
@[simp] theorem Gov.wr_dma (g : Gov) (f : Fld) (v : Nat) : (g.wr f v).dma = g.dma := rfl
@[simp] theorem Gov.wr_rcv (g : Gov) (f : Fld) (v : Nat) : (g.wr f v).rcv = g.rcv := rfl
@[simp] theorem Gov.wr_store (g : Gov) (f : Fld) (v : Nat) : (g.wr f v).store = g.store := rfl
@[simp] theorem Gov.wr_io (g : Gov) (f : Fld) (v : Nat) : (g.wr f v).io = g.io := rfl
@[simp] theorem Gov.wr_test (g : Gov) (f : Fld) (v : Nat) : (g.wr f v).test = g.test := rfl
@[simp] theorem Gov.wr_bus (g : Gov) (f : Fld) (v : Nat) : (g.wr f v).bus = g.bus := rfl

/-! ## Gov.runTo -/

@[simp] theorem Gov.runTo_aon (g : Gov) (t : Nat) : (g.runTo t).aon = g.aon := rfl
@[simp] theorem Gov.runTo_porst (g : Gov) (t : Nat) : (g.runTo t).porst = g.porst := rfl
@[simp] theorem Gov.runTo_gclk (g : Gov) (t : Nat) : (g.runTo t).gclk = g.gclk := rfl
@[simp] theorem Gov.runTo_cold (g : Gov) (t : Nat) : (g.runTo t).cold = g.cold := rfl
@[simp] theorem Gov.runTo_gtime (g : Gov) (t : Nat) : (g.runTo t).gtime = max g.gtime t := rfl
@[simp] theorem Gov.runTo_fresh (g : Gov) (t : Nat) : (g.runTo t).fresh = g.fresh := rfl
@[simp] theorem Gov.runTo_regs (g : Gov) (t : Nat) : (g.runTo t).regs = g.regs := rfl
@[simp] theorem Gov.runTo_kept (g : Gov) (t : Nat) : (g.runTo t).kept = g.kept := rfl
@[simp] theorem Gov.runTo_clk (g : Gov) (t : Nat) : (g.runTo t).clk = g.clk := rfl
@[simp] theorem Gov.runTo_brg (g : Gov) (t : Nat) : (g.runTo t).brg = g.brg := rfl
@[simp] theorem Gov.runTo_recr (g : Gov) (t : Nat) : (g.runTo t).recr = g.recr := rfl
@[simp] theorem Gov.runTo_rails (g : Gov) (t : Nat) : (g.runTo t).rails = g.rails := rfl
@[simp] theorem Gov.runTo_phs (g : Gov) (t : Nat) : (g.runTo t).phs = g.phs := rfl
@[simp] theorem Gov.runTo_convs (g : Gov) (t : Nat) : (g.runTo t).convs = g.convs := rfl
@[simp] theorem Gov.runTo_probes (g : Gov) (t : Nat) : (g.runTo t).probes = g.probes := rfl
@[simp] theorem Gov.runTo_calWait (g : Gov) (t : Nat) : (g.runTo t).calWait = g.calWait := rfl
@[simp] theorem Gov.runTo_st (g : Gov) (t : Nat) : (g.runTo t).st = g.st := rfl
@[simp] theorem Gov.runTo_pl (g : Gov) (t : Nat) : (g.runTo t).pl = g.pl := rfl
@[simp] theorem Gov.runTo_th (g : Gov) (t : Nat) : (g.runTo t).th = g.th := rfl
@[simp] theorem Gov.runTo_ft (g : Gov) (t : Nat) : (g.runTo t).ft = g.ft := rfl
@[simp] theorem Gov.runTo_hr (g : Gov) (t : Nat) : (g.runTo t).hr = g.hr := rfl
@[simp] theorem Gov.runTo_dm (g : Gov) (t : Nat) : (g.runTo t).dm = g.dm := rfl
@[simp] theorem Gov.runTo_mb (g : Gov) (t : Nat) : (g.runTo t).mb = g.mb := rfl
@[simp] theorem Gov.runTo_cfg (g : Gov) (t : Nat) : (g.runTo t).cfg = g.cfg := rfl
@[simp] theorem Gov.runTo_mir (g : Gov) (t : Nat) : (g.runTo t).mir = g.mir := rfl
@[simp] theorem Gov.runTo_dma (g : Gov) (t : Nat) : (g.runTo t).dma = g.dma := rfl
@[simp] theorem Gov.runTo_rcv (g : Gov) (t : Nat) : (g.runTo t).rcv = g.rcv := rfl
@[simp] theorem Gov.runTo_store (g : Gov) (t : Nat) : (g.runTo t).store = g.store := rfl
@[simp] theorem Gov.runTo_io (g : Gov) (t : Nat) : (g.runTo t).io = g.io := rfl
@[simp] theorem Gov.runTo_test (g : Gov) (t : Nat) : (g.runTo t).test = g.test := rfl
@[simp] theorem Gov.runTo_bus (g : Gov) (t : Nat) : (g.runTo t).bus = g.bus := rfl

/-! ## Gov.nextFresh -/

@[simp] theorem Gov.nextFresh_aon (g : Gov) : g.nextFresh.aon = g.aon := rfl
@[simp] theorem Gov.nextFresh_porst (g : Gov) : g.nextFresh.porst = g.porst := rfl
@[simp] theorem Gov.nextFresh_gclk (g : Gov) : g.nextFresh.gclk = g.gclk := rfl
@[simp] theorem Gov.nextFresh_cold (g : Gov) : g.nextFresh.cold = g.cold := rfl
@[simp] theorem Gov.nextFresh_gtime (g : Gov) : g.nextFresh.gtime = g.gtime := rfl
@[simp] theorem Gov.nextFresh_fresh (g : Gov) : g.nextFresh.fresh = g.fresh + 1 := rfl
@[simp] theorem Gov.nextFresh_regs (g : Gov) : g.nextFresh.regs = g.regs := rfl
@[simp] theorem Gov.nextFresh_kept (g : Gov) : g.nextFresh.kept = g.kept := rfl
@[simp] theorem Gov.nextFresh_clk (g : Gov) : g.nextFresh.clk = g.clk := rfl
@[simp] theorem Gov.nextFresh_brg (g : Gov) : g.nextFresh.brg = g.brg := rfl
@[simp] theorem Gov.nextFresh_recr (g : Gov) : g.nextFresh.recr = g.recr := rfl
@[simp] theorem Gov.nextFresh_rails (g : Gov) : g.nextFresh.rails = g.rails := rfl
@[simp] theorem Gov.nextFresh_phs (g : Gov) : g.nextFresh.phs = g.phs := rfl
@[simp] theorem Gov.nextFresh_convs (g : Gov) : g.nextFresh.convs = g.convs := rfl
@[simp] theorem Gov.nextFresh_probes (g : Gov) : g.nextFresh.probes = g.probes := rfl
@[simp] theorem Gov.nextFresh_calWait (g : Gov) : g.nextFresh.calWait = g.calWait := rfl
@[simp] theorem Gov.nextFresh_st (g : Gov) : g.nextFresh.st = g.st := rfl
@[simp] theorem Gov.nextFresh_pl (g : Gov) : g.nextFresh.pl = g.pl := rfl
@[simp] theorem Gov.nextFresh_th (g : Gov) : g.nextFresh.th = g.th := rfl
@[simp] theorem Gov.nextFresh_ft (g : Gov) : g.nextFresh.ft = g.ft := rfl
@[simp] theorem Gov.nextFresh_hr (g : Gov) : g.nextFresh.hr = g.hr := rfl
@[simp] theorem Gov.nextFresh_dm (g : Gov) : g.nextFresh.dm = g.dm := rfl
@[simp] theorem Gov.nextFresh_mb (g : Gov) : g.nextFresh.mb = g.mb := rfl
@[simp] theorem Gov.nextFresh_cfg (g : Gov) : g.nextFresh.cfg = g.cfg := rfl
@[simp] theorem Gov.nextFresh_mir (g : Gov) : g.nextFresh.mir = g.mir := rfl
@[simp] theorem Gov.nextFresh_dma (g : Gov) : g.nextFresh.dma = g.dma := rfl
@[simp] theorem Gov.nextFresh_rcv (g : Gov) : g.nextFresh.rcv = g.rcv := rfl
@[simp] theorem Gov.nextFresh_store (g : Gov) : g.nextFresh.store = g.store := rfl
@[simp] theorem Gov.nextFresh_io (g : Gov) : g.nextFresh.io = g.io := rfl
@[simp] theorem Gov.nextFresh_test (g : Gov) : g.nextFresh.test = g.test := rfl
@[simp] theorem Gov.nextFresh_bus (g : Gov) : g.nextFresh.bus = g.bus := rfl

/-! ## Gov.setRail -/

@[simp] theorem Gov.setRail_aon (g : Gov) (n : Nat) (x : Rail) : (g.setRail n x).aon = g.aon := rfl
@[simp] theorem Gov.setRail_porst (g : Gov) (n : Nat) (x : Rail) : (g.setRail n x).porst = g.porst := rfl
@[simp] theorem Gov.setRail_gclk (g : Gov) (n : Nat) (x : Rail) : (g.setRail n x).gclk = g.gclk := rfl
@[simp] theorem Gov.setRail_cold (g : Gov) (n : Nat) (x : Rail) : (g.setRail n x).cold = g.cold := rfl
@[simp] theorem Gov.setRail_gtime (g : Gov) (n : Nat) (x : Rail) : (g.setRail n x).gtime = g.gtime := rfl
@[simp] theorem Gov.setRail_fresh (g : Gov) (n : Nat) (x : Rail) : (g.setRail n x).fresh = g.fresh := rfl
@[simp] theorem Gov.setRail_regs (g : Gov) (n : Nat) (x : Rail) : (g.setRail n x).regs = g.regs := rfl
@[simp] theorem Gov.setRail_kept (g : Gov) (n : Nat) (x : Rail) : (g.setRail n x).kept = g.kept := rfl
@[simp] theorem Gov.setRail_clk (g : Gov) (n : Nat) (x : Rail) : (g.setRail n x).clk = g.clk := rfl
@[simp] theorem Gov.setRail_brg (g : Gov) (n : Nat) (x : Rail) : (g.setRail n x).brg = g.brg := rfl
@[simp] theorem Gov.setRail_recr (g : Gov) (n : Nat) (x : Rail) : (g.setRail n x).recr = g.recr := rfl
@[simp] theorem Gov.setRail_rails (g : Gov) (n : Nat) (x : Rail) : (g.setRail n x).rails = mput g.rails n x := rfl
@[simp] theorem Gov.setRail_phs (g : Gov) (n : Nat) (x : Rail) : (g.setRail n x).phs = g.phs := rfl
@[simp] theorem Gov.setRail_convs (g : Gov) (n : Nat) (x : Rail) : (g.setRail n x).convs = g.convs := rfl
@[simp] theorem Gov.setRail_probes (g : Gov) (n : Nat) (x : Rail) : (g.setRail n x).probes = g.probes := rfl
@[simp] theorem Gov.setRail_calWait (g : Gov) (n : Nat) (x : Rail) : (g.setRail n x).calWait = g.calWait := rfl
@[simp] theorem Gov.setRail_st (g : Gov) (n : Nat) (x : Rail) : (g.setRail n x).st = g.st := rfl
@[simp] theorem Gov.setRail_pl (g : Gov) (n : Nat) (x : Rail) : (g.setRail n x).pl = g.pl := rfl
@[simp] theorem Gov.setRail_th (g : Gov) (n : Nat) (x : Rail) : (g.setRail n x).th = g.th := rfl
@[simp] theorem Gov.setRail_ft (g : Gov) (n : Nat) (x : Rail) : (g.setRail n x).ft = g.ft := rfl
@[simp] theorem Gov.setRail_hr (g : Gov) (n : Nat) (x : Rail) : (g.setRail n x).hr = g.hr := rfl
@[simp] theorem Gov.setRail_dm (g : Gov) (n : Nat) (x : Rail) : (g.setRail n x).dm = g.dm := rfl
@[simp] theorem Gov.setRail_mb (g : Gov) (n : Nat) (x : Rail) : (g.setRail n x).mb = g.mb := rfl
@[simp] theorem Gov.setRail_cfg (g : Gov) (n : Nat) (x : Rail) : (g.setRail n x).cfg = g.cfg := rfl
@[simp] theorem Gov.setRail_mir (g : Gov) (n : Nat) (x : Rail) : (g.setRail n x).mir = g.mir := rfl
@[simp] theorem Gov.setRail_dma (g : Gov) (n : Nat) (x : Rail) : (g.setRail n x).dma = g.dma := rfl
@[simp] theorem Gov.setRail_rcv (g : Gov) (n : Nat) (x : Rail) : (g.setRail n x).rcv = g.rcv := rfl
@[simp] theorem Gov.setRail_store (g : Gov) (n : Nat) (x : Rail) : (g.setRail n x).store = g.store := rfl
@[simp] theorem Gov.setRail_io (g : Gov) (n : Nat) (x : Rail) : (g.setRail n x).io = g.io := rfl
@[simp] theorem Gov.setRail_test (g : Gov) (n : Nat) (x : Rail) : (g.setRail n x).test = g.test := rfl
@[simp] theorem Gov.setRail_bus (g : Gov) (n : Nat) (x : Rail) : (g.setRail n x).bus = g.bus := rfl

/-! ## Gov.setPh -/

@[simp] theorem Gov.setPh_aon (g : Gov) (p : Nat) (x : Phase) : (g.setPh p x).aon = g.aon := rfl
@[simp] theorem Gov.setPh_porst (g : Gov) (p : Nat) (x : Phase) : (g.setPh p x).porst = g.porst := rfl
@[simp] theorem Gov.setPh_gclk (g : Gov) (p : Nat) (x : Phase) : (g.setPh p x).gclk = g.gclk := rfl
@[simp] theorem Gov.setPh_cold (g : Gov) (p : Nat) (x : Phase) : (g.setPh p x).cold = g.cold := rfl
@[simp] theorem Gov.setPh_gtime (g : Gov) (p : Nat) (x : Phase) : (g.setPh p x).gtime = g.gtime := rfl
@[simp] theorem Gov.setPh_fresh (g : Gov) (p : Nat) (x : Phase) : (g.setPh p x).fresh = g.fresh := rfl
@[simp] theorem Gov.setPh_regs (g : Gov) (p : Nat) (x : Phase) : (g.setPh p x).regs = g.regs := rfl
@[simp] theorem Gov.setPh_kept (g : Gov) (p : Nat) (x : Phase) : (g.setPh p x).kept = g.kept := rfl
@[simp] theorem Gov.setPh_clk (g : Gov) (p : Nat) (x : Phase) : (g.setPh p x).clk = g.clk := rfl
@[simp] theorem Gov.setPh_brg (g : Gov) (p : Nat) (x : Phase) : (g.setPh p x).brg = g.brg := rfl
@[simp] theorem Gov.setPh_recr (g : Gov) (p : Nat) (x : Phase) : (g.setPh p x).recr = g.recr := rfl
@[simp] theorem Gov.setPh_rails (g : Gov) (p : Nat) (x : Phase) : (g.setPh p x).rails = g.rails := rfl
@[simp] theorem Gov.setPh_phs (g : Gov) (p : Nat) (x : Phase) : (g.setPh p x).phs = mput g.phs p x := rfl
@[simp] theorem Gov.setPh_convs (g : Gov) (p : Nat) (x : Phase) : (g.setPh p x).convs = g.convs := rfl
@[simp] theorem Gov.setPh_probes (g : Gov) (p : Nat) (x : Phase) : (g.setPh p x).probes = g.probes := rfl
@[simp] theorem Gov.setPh_calWait (g : Gov) (p : Nat) (x : Phase) : (g.setPh p x).calWait = g.calWait := rfl
@[simp] theorem Gov.setPh_st (g : Gov) (p : Nat) (x : Phase) : (g.setPh p x).st = g.st := rfl
@[simp] theorem Gov.setPh_pl (g : Gov) (p : Nat) (x : Phase) : (g.setPh p x).pl = g.pl := rfl
@[simp] theorem Gov.setPh_th (g : Gov) (p : Nat) (x : Phase) : (g.setPh p x).th = g.th := rfl
@[simp] theorem Gov.setPh_ft (g : Gov) (p : Nat) (x : Phase) : (g.setPh p x).ft = g.ft := rfl
@[simp] theorem Gov.setPh_hr (g : Gov) (p : Nat) (x : Phase) : (g.setPh p x).hr = g.hr := rfl
@[simp] theorem Gov.setPh_dm (g : Gov) (p : Nat) (x : Phase) : (g.setPh p x).dm = g.dm := rfl
@[simp] theorem Gov.setPh_mb (g : Gov) (p : Nat) (x : Phase) : (g.setPh p x).mb = g.mb := rfl
@[simp] theorem Gov.setPh_cfg (g : Gov) (p : Nat) (x : Phase) : (g.setPh p x).cfg = g.cfg := rfl
@[simp] theorem Gov.setPh_mir (g : Gov) (p : Nat) (x : Phase) : (g.setPh p x).mir = g.mir := rfl
@[simp] theorem Gov.setPh_dma (g : Gov) (p : Nat) (x : Phase) : (g.setPh p x).dma = g.dma := rfl
@[simp] theorem Gov.setPh_rcv (g : Gov) (p : Nat) (x : Phase) : (g.setPh p x).rcv = g.rcv := rfl
@[simp] theorem Gov.setPh_store (g : Gov) (p : Nat) (x : Phase) : (g.setPh p x).store = g.store := rfl
@[simp] theorem Gov.setPh_io (g : Gov) (p : Nat) (x : Phase) : (g.setPh p x).io = g.io := rfl
@[simp] theorem Gov.setPh_test (g : Gov) (p : Nat) (x : Phase) : (g.setPh p x).test = g.test := rfl
@[simp] theorem Gov.setPh_bus (g : Gov) (p : Nat) (x : Phase) : (g.setPh p x).bus = g.bus := rfl

/-! ## Gov.setHist -/

@[simp] theorem Gov.setHist_aon (g : Gov) (h : Nat) (x : Hist) : (g.setHist h x).aon = g.aon := rfl
@[simp] theorem Gov.setHist_porst (g : Gov) (h : Nat) (x : Hist) : (g.setHist h x).porst = g.porst := rfl
@[simp] theorem Gov.setHist_gclk (g : Gov) (h : Nat) (x : Hist) : (g.setHist h x).gclk = g.gclk := rfl
@[simp] theorem Gov.setHist_cold (g : Gov) (h : Nat) (x : Hist) : (g.setHist h x).cold = g.cold := rfl
@[simp] theorem Gov.setHist_gtime (g : Gov) (h : Nat) (x : Hist) : (g.setHist h x).gtime = g.gtime := rfl
@[simp] theorem Gov.setHist_fresh (g : Gov) (h : Nat) (x : Hist) : (g.setHist h x).fresh = g.fresh := rfl
@[simp] theorem Gov.setHist_regs (g : Gov) (h : Nat) (x : Hist) : (g.setHist h x).regs = g.regs := rfl
@[simp] theorem Gov.setHist_kept (g : Gov) (h : Nat) (x : Hist) : (g.setHist h x).kept = g.kept := rfl
@[simp] theorem Gov.setHist_clk (g : Gov) (h : Nat) (x : Hist) : (g.setHist h x).clk = g.clk := rfl
@[simp] theorem Gov.setHist_brg (g : Gov) (h : Nat) (x : Hist) : (g.setHist h x).brg = g.brg := rfl
@[simp] theorem Gov.setHist_recr (g : Gov) (h : Nat) (x : Hist) : (g.setHist h x).recr = { g.recr with hists := mput g.recr.hists h x } := rfl
@[simp] theorem Gov.setHist_rails (g : Gov) (h : Nat) (x : Hist) : (g.setHist h x).rails = g.rails := rfl
@[simp] theorem Gov.setHist_phs (g : Gov) (h : Nat) (x : Hist) : (g.setHist h x).phs = g.phs := rfl
@[simp] theorem Gov.setHist_convs (g : Gov) (h : Nat) (x : Hist) : (g.setHist h x).convs = g.convs := rfl
@[simp] theorem Gov.setHist_probes (g : Gov) (h : Nat) (x : Hist) : (g.setHist h x).probes = g.probes := rfl
@[simp] theorem Gov.setHist_calWait (g : Gov) (h : Nat) (x : Hist) : (g.setHist h x).calWait = g.calWait := rfl
@[simp] theorem Gov.setHist_st (g : Gov) (h : Nat) (x : Hist) : (g.setHist h x).st = g.st := rfl
@[simp] theorem Gov.setHist_pl (g : Gov) (h : Nat) (x : Hist) : (g.setHist h x).pl = g.pl := rfl
@[simp] theorem Gov.setHist_th (g : Gov) (h : Nat) (x : Hist) : (g.setHist h x).th = g.th := rfl
@[simp] theorem Gov.setHist_ft (g : Gov) (h : Nat) (x : Hist) : (g.setHist h x).ft = g.ft := rfl
@[simp] theorem Gov.setHist_hr (g : Gov) (h : Nat) (x : Hist) : (g.setHist h x).hr = g.hr := rfl
@[simp] theorem Gov.setHist_dm (g : Gov) (h : Nat) (x : Hist) : (g.setHist h x).dm = g.dm := rfl
@[simp] theorem Gov.setHist_mb (g : Gov) (h : Nat) (x : Hist) : (g.setHist h x).mb = g.mb := rfl
@[simp] theorem Gov.setHist_cfg (g : Gov) (h : Nat) (x : Hist) : (g.setHist h x).cfg = g.cfg := rfl
@[simp] theorem Gov.setHist_mir (g : Gov) (h : Nat) (x : Hist) : (g.setHist h x).mir = g.mir := rfl
@[simp] theorem Gov.setHist_dma (g : Gov) (h : Nat) (x : Hist) : (g.setHist h x).dma = g.dma := rfl
@[simp] theorem Gov.setHist_rcv (g : Gov) (h : Nat) (x : Hist) : (g.setHist h x).rcv = g.rcv := rfl
@[simp] theorem Gov.setHist_store (g : Gov) (h : Nat) (x : Hist) : (g.setHist h x).store = g.store := rfl
@[simp] theorem Gov.setHist_io (g : Gov) (h : Nat) (x : Hist) : (g.setHist h x).io = g.io := rfl
@[simp] theorem Gov.setHist_test (g : Gov) (h : Nat) (x : Hist) : (g.setHist h x).test = g.test := rfl
@[simp] theorem Gov.setHist_bus (g : Gov) (h : Nat) (x : Hist) : (g.setHist h x).bus = g.bus := rfl

/-! ## Gov.setTbuf -/

@[simp] theorem Gov.setTbuf_aon (g : Gov) (b : Nat) (x : TBuf) : (g.setTbuf b x).aon = g.aon := rfl
@[simp] theorem Gov.setTbuf_porst (g : Gov) (b : Nat) (x : TBuf) : (g.setTbuf b x).porst = g.porst := rfl
@[simp] theorem Gov.setTbuf_gclk (g : Gov) (b : Nat) (x : TBuf) : (g.setTbuf b x).gclk = g.gclk := rfl
@[simp] theorem Gov.setTbuf_cold (g : Gov) (b : Nat) (x : TBuf) : (g.setTbuf b x).cold = g.cold := rfl
@[simp] theorem Gov.setTbuf_gtime (g : Gov) (b : Nat) (x : TBuf) : (g.setTbuf b x).gtime = g.gtime := rfl
@[simp] theorem Gov.setTbuf_fresh (g : Gov) (b : Nat) (x : TBuf) : (g.setTbuf b x).fresh = g.fresh := rfl
@[simp] theorem Gov.setTbuf_regs (g : Gov) (b : Nat) (x : TBuf) : (g.setTbuf b x).regs = g.regs := rfl
@[simp] theorem Gov.setTbuf_kept (g : Gov) (b : Nat) (x : TBuf) : (g.setTbuf b x).kept = g.kept := rfl
@[simp] theorem Gov.setTbuf_clk (g : Gov) (b : Nat) (x : TBuf) : (g.setTbuf b x).clk = g.clk := rfl
@[simp] theorem Gov.setTbuf_brg (g : Gov) (b : Nat) (x : TBuf) : (g.setTbuf b x).brg = g.brg := rfl
@[simp] theorem Gov.setTbuf_recr (g : Gov) (b : Nat) (x : TBuf) : (g.setTbuf b x).recr = { g.recr with tbufs := mput g.recr.tbufs b x } := rfl
@[simp] theorem Gov.setTbuf_rails (g : Gov) (b : Nat) (x : TBuf) : (g.setTbuf b x).rails = g.rails := rfl
@[simp] theorem Gov.setTbuf_phs (g : Gov) (b : Nat) (x : TBuf) : (g.setTbuf b x).phs = g.phs := rfl
@[simp] theorem Gov.setTbuf_convs (g : Gov) (b : Nat) (x : TBuf) : (g.setTbuf b x).convs = g.convs := rfl
@[simp] theorem Gov.setTbuf_probes (g : Gov) (b : Nat) (x : TBuf) : (g.setTbuf b x).probes = g.probes := rfl
@[simp] theorem Gov.setTbuf_calWait (g : Gov) (b : Nat) (x : TBuf) : (g.setTbuf b x).calWait = g.calWait := rfl
@[simp] theorem Gov.setTbuf_st (g : Gov) (b : Nat) (x : TBuf) : (g.setTbuf b x).st = g.st := rfl
@[simp] theorem Gov.setTbuf_pl (g : Gov) (b : Nat) (x : TBuf) : (g.setTbuf b x).pl = g.pl := rfl
@[simp] theorem Gov.setTbuf_th (g : Gov) (b : Nat) (x : TBuf) : (g.setTbuf b x).th = g.th := rfl
@[simp] theorem Gov.setTbuf_ft (g : Gov) (b : Nat) (x : TBuf) : (g.setTbuf b x).ft = g.ft := rfl
@[simp] theorem Gov.setTbuf_hr (g : Gov) (b : Nat) (x : TBuf) : (g.setTbuf b x).hr = g.hr := rfl
@[simp] theorem Gov.setTbuf_dm (g : Gov) (b : Nat) (x : TBuf) : (g.setTbuf b x).dm = g.dm := rfl
@[simp] theorem Gov.setTbuf_mb (g : Gov) (b : Nat) (x : TBuf) : (g.setTbuf b x).mb = g.mb := rfl
@[simp] theorem Gov.setTbuf_cfg (g : Gov) (b : Nat) (x : TBuf) : (g.setTbuf b x).cfg = g.cfg := rfl
@[simp] theorem Gov.setTbuf_mir (g : Gov) (b : Nat) (x : TBuf) : (g.setTbuf b x).mir = g.mir := rfl
@[simp] theorem Gov.setTbuf_dma (g : Gov) (b : Nat) (x : TBuf) : (g.setTbuf b x).dma = g.dma := rfl
@[simp] theorem Gov.setTbuf_rcv (g : Gov) (b : Nat) (x : TBuf) : (g.setTbuf b x).rcv = g.rcv := rfl
@[simp] theorem Gov.setTbuf_store (g : Gov) (b : Nat) (x : TBuf) : (g.setTbuf b x).store = g.store := rfl
@[simp] theorem Gov.setTbuf_io (g : Gov) (b : Nat) (x : TBuf) : (g.setTbuf b x).io = g.io := rfl
@[simp] theorem Gov.setTbuf_test (g : Gov) (b : Nat) (x : TBuf) : (g.setTbuf b x).test = g.test := rfl
@[simp] theorem Gov.setTbuf_bus (g : Gov) (b : Nat) (x : TBuf) : (g.setTbuf b x).bus = g.bus := rfl

/-! ## Gov.setSat -/

@[simp] theorem Gov.setSat_aon (g : Gov) (t : Nat) (x : Sat) : (g.setSat t x).aon = g.aon := rfl
@[simp] theorem Gov.setSat_porst (g : Gov) (t : Nat) (x : Sat) : (g.setSat t x).porst = g.porst := rfl
@[simp] theorem Gov.setSat_gclk (g : Gov) (t : Nat) (x : Sat) : (g.setSat t x).gclk = g.gclk := rfl
@[simp] theorem Gov.setSat_cold (g : Gov) (t : Nat) (x : Sat) : (g.setSat t x).cold = g.cold := rfl
@[simp] theorem Gov.setSat_gtime (g : Gov) (t : Nat) (x : Sat) : (g.setSat t x).gtime = g.gtime := rfl
@[simp] theorem Gov.setSat_fresh (g : Gov) (t : Nat) (x : Sat) : (g.setSat t x).fresh = g.fresh := rfl
@[simp] theorem Gov.setSat_regs (g : Gov) (t : Nat) (x : Sat) : (g.setSat t x).regs = g.regs := rfl
@[simp] theorem Gov.setSat_kept (g : Gov) (t : Nat) (x : Sat) : (g.setSat t x).kept = g.kept := rfl
@[simp] theorem Gov.setSat_clk (g : Gov) (t : Nat) (x : Sat) : (g.setSat t x).clk = g.clk := rfl
@[simp] theorem Gov.setSat_brg (g : Gov) (t : Nat) (x : Sat) : (g.setSat t x).brg = g.brg := rfl
@[simp] theorem Gov.setSat_recr (g : Gov) (t : Nat) (x : Sat) : (g.setSat t x).recr = g.recr := rfl
@[simp] theorem Gov.setSat_rails (g : Gov) (t : Nat) (x : Sat) : (g.setSat t x).rails = g.rails := rfl
@[simp] theorem Gov.setSat_phs (g : Gov) (t : Nat) (x : Sat) : (g.setSat t x).phs = g.phs := rfl
@[simp] theorem Gov.setSat_convs (g : Gov) (t : Nat) (x : Sat) : (g.setSat t x).convs = g.convs := rfl
@[simp] theorem Gov.setSat_probes (g : Gov) (t : Nat) (x : Sat) : (g.setSat t x).probes = g.probes := rfl
@[simp] theorem Gov.setSat_calWait (g : Gov) (t : Nat) (x : Sat) : (g.setSat t x).calWait = g.calWait := rfl
@[simp] theorem Gov.setSat_st (g : Gov) (t : Nat) (x : Sat) : (g.setSat t x).st = { g.st with sats := mput g.st.sats t x } := rfl
@[simp] theorem Gov.setSat_pl (g : Gov) (t : Nat) (x : Sat) : (g.setSat t x).pl = g.pl := rfl
@[simp] theorem Gov.setSat_th (g : Gov) (t : Nat) (x : Sat) : (g.setSat t x).th = g.th := rfl
@[simp] theorem Gov.setSat_ft (g : Gov) (t : Nat) (x : Sat) : (g.setSat t x).ft = g.ft := rfl
@[simp] theorem Gov.setSat_hr (g : Gov) (t : Nat) (x : Sat) : (g.setSat t x).hr = g.hr := rfl
@[simp] theorem Gov.setSat_dm (g : Gov) (t : Nat) (x : Sat) : (g.setSat t x).dm = g.dm := rfl
@[simp] theorem Gov.setSat_mb (g : Gov) (t : Nat) (x : Sat) : (g.setSat t x).mb = g.mb := rfl
@[simp] theorem Gov.setSat_cfg (g : Gov) (t : Nat) (x : Sat) : (g.setSat t x).cfg = g.cfg := rfl
@[simp] theorem Gov.setSat_mir (g : Gov) (t : Nat) (x : Sat) : (g.setSat t x).mir = g.mir := rfl
@[simp] theorem Gov.setSat_dma (g : Gov) (t : Nat) (x : Sat) : (g.setSat t x).dma = g.dma := rfl
@[simp] theorem Gov.setSat_rcv (g : Gov) (t : Nat) (x : Sat) : (g.setSat t x).rcv = g.rcv := rfl
@[simp] theorem Gov.setSat_store (g : Gov) (t : Nat) (x : Sat) : (g.setSat t x).store = g.store := rfl
@[simp] theorem Gov.setSat_io (g : Gov) (t : Nat) (x : Sat) : (g.setSat t x).io = g.io := rfl
@[simp] theorem Gov.setSat_test (g : Gov) (t : Nat) (x : Sat) : (g.setSat t x).test = g.test := rfl
@[simp] theorem Gov.setSat_bus (g : Gov) (t : Nat) (x : Sat) : (g.setSat t x).bus = g.bus := rfl

/-! ## Gov.setTrec -/

@[simp] theorem Gov.setTrec_aon (g : Gov) (t : Nat) (x : TRec) : (g.setTrec t x).aon = g.aon := rfl
@[simp] theorem Gov.setTrec_porst (g : Gov) (t : Nat) (x : TRec) : (g.setTrec t x).porst = g.porst := rfl
@[simp] theorem Gov.setTrec_gclk (g : Gov) (t : Nat) (x : TRec) : (g.setTrec t x).gclk = g.gclk := rfl
@[simp] theorem Gov.setTrec_cold (g : Gov) (t : Nat) (x : TRec) : (g.setTrec t x).cold = g.cold := rfl
@[simp] theorem Gov.setTrec_gtime (g : Gov) (t : Nat) (x : TRec) : (g.setTrec t x).gtime = g.gtime := rfl
@[simp] theorem Gov.setTrec_fresh (g : Gov) (t : Nat) (x : TRec) : (g.setTrec t x).fresh = g.fresh := rfl
@[simp] theorem Gov.setTrec_regs (g : Gov) (t : Nat) (x : TRec) : (g.setTrec t x).regs = g.regs := rfl
@[simp] theorem Gov.setTrec_kept (g : Gov) (t : Nat) (x : TRec) : (g.setTrec t x).kept = g.kept := rfl
@[simp] theorem Gov.setTrec_clk (g : Gov) (t : Nat) (x : TRec) : (g.setTrec t x).clk = g.clk := rfl
@[simp] theorem Gov.setTrec_brg (g : Gov) (t : Nat) (x : TRec) : (g.setTrec t x).brg = g.brg := rfl
@[simp] theorem Gov.setTrec_recr (g : Gov) (t : Nat) (x : TRec) : (g.setTrec t x).recr = g.recr := rfl
@[simp] theorem Gov.setTrec_rails (g : Gov) (t : Nat) (x : TRec) : (g.setTrec t x).rails = g.rails := rfl
@[simp] theorem Gov.setTrec_phs (g : Gov) (t : Nat) (x : TRec) : (g.setTrec t x).phs = g.phs := rfl
@[simp] theorem Gov.setTrec_convs (g : Gov) (t : Nat) (x : TRec) : (g.setTrec t x).convs = g.convs := rfl
@[simp] theorem Gov.setTrec_probes (g : Gov) (t : Nat) (x : TRec) : (g.setTrec t x).probes = g.probes := rfl
@[simp] theorem Gov.setTrec_calWait (g : Gov) (t : Nat) (x : TRec) : (g.setTrec t x).calWait = g.calWait := rfl
@[simp] theorem Gov.setTrec_st (g : Gov) (t : Nat) (x : TRec) : (g.setTrec t x).st = { g.st with recs := mput g.st.recs t x } := rfl
@[simp] theorem Gov.setTrec_pl (g : Gov) (t : Nat) (x : TRec) : (g.setTrec t x).pl = g.pl := rfl
@[simp] theorem Gov.setTrec_th (g : Gov) (t : Nat) (x : TRec) : (g.setTrec t x).th = g.th := rfl
@[simp] theorem Gov.setTrec_ft (g : Gov) (t : Nat) (x : TRec) : (g.setTrec t x).ft = g.ft := rfl
@[simp] theorem Gov.setTrec_hr (g : Gov) (t : Nat) (x : TRec) : (g.setTrec t x).hr = g.hr := rfl
@[simp] theorem Gov.setTrec_dm (g : Gov) (t : Nat) (x : TRec) : (g.setTrec t x).dm = g.dm := rfl
@[simp] theorem Gov.setTrec_mb (g : Gov) (t : Nat) (x : TRec) : (g.setTrec t x).mb = g.mb := rfl
@[simp] theorem Gov.setTrec_cfg (g : Gov) (t : Nat) (x : TRec) : (g.setTrec t x).cfg = g.cfg := rfl
@[simp] theorem Gov.setTrec_mir (g : Gov) (t : Nat) (x : TRec) : (g.setTrec t x).mir = g.mir := rfl
@[simp] theorem Gov.setTrec_dma (g : Gov) (t : Nat) (x : TRec) : (g.setTrec t x).dma = g.dma := rfl
@[simp] theorem Gov.setTrec_rcv (g : Gov) (t : Nat) (x : TRec) : (g.setTrec t x).rcv = g.rcv := rfl
@[simp] theorem Gov.setTrec_store (g : Gov) (t : Nat) (x : TRec) : (g.setTrec t x).store = g.store := rfl
@[simp] theorem Gov.setTrec_io (g : Gov) (t : Nat) (x : TRec) : (g.setTrec t x).io = g.io := rfl
@[simp] theorem Gov.setTrec_test (g : Gov) (t : Nat) (x : TRec) : (g.setTrec t x).test = g.test := rfl
@[simp] theorem Gov.setTrec_bus (g : Gov) (t : Nat) (x : TRec) : (g.setTrec t x).bus = g.bus := rfl

/-! ## Gov.setGrant -/

@[simp] theorem Gov.setGrant_aon (g : Gov) (h : Nat) (x : Grant) : (g.setGrant h x).aon = g.aon := rfl
@[simp] theorem Gov.setGrant_porst (g : Gov) (h : Nat) (x : Grant) : (g.setGrant h x).porst = g.porst := rfl
@[simp] theorem Gov.setGrant_gclk (g : Gov) (h : Nat) (x : Grant) : (g.setGrant h x).gclk = g.gclk := rfl
@[simp] theorem Gov.setGrant_cold (g : Gov) (h : Nat) (x : Grant) : (g.setGrant h x).cold = g.cold := rfl
@[simp] theorem Gov.setGrant_gtime (g : Gov) (h : Nat) (x : Grant) : (g.setGrant h x).gtime = g.gtime := rfl
@[simp] theorem Gov.setGrant_fresh (g : Gov) (h : Nat) (x : Grant) : (g.setGrant h x).fresh = g.fresh := rfl
@[simp] theorem Gov.setGrant_regs (g : Gov) (h : Nat) (x : Grant) : (g.setGrant h x).regs = g.regs := rfl
@[simp] theorem Gov.setGrant_kept (g : Gov) (h : Nat) (x : Grant) : (g.setGrant h x).kept = g.kept := rfl
@[simp] theorem Gov.setGrant_clk (g : Gov) (h : Nat) (x : Grant) : (g.setGrant h x).clk = g.clk := rfl
@[simp] theorem Gov.setGrant_brg (g : Gov) (h : Nat) (x : Grant) : (g.setGrant h x).brg = g.brg := rfl
@[simp] theorem Gov.setGrant_recr (g : Gov) (h : Nat) (x : Grant) : (g.setGrant h x).recr = g.recr := rfl
@[simp] theorem Gov.setGrant_rails (g : Gov) (h : Nat) (x : Grant) : (g.setGrant h x).rails = g.rails := rfl
@[simp] theorem Gov.setGrant_phs (g : Gov) (h : Nat) (x : Grant) : (g.setGrant h x).phs = g.phs := rfl
@[simp] theorem Gov.setGrant_convs (g : Gov) (h : Nat) (x : Grant) : (g.setGrant h x).convs = g.convs := rfl
@[simp] theorem Gov.setGrant_probes (g : Gov) (h : Nat) (x : Grant) : (g.setGrant h x).probes = g.probes := rfl
@[simp] theorem Gov.setGrant_calWait (g : Gov) (h : Nat) (x : Grant) : (g.setGrant h x).calWait = g.calWait := rfl
@[simp] theorem Gov.setGrant_st (g : Gov) (h : Nat) (x : Grant) : (g.setGrant h x).st = g.st := rfl
@[simp] theorem Gov.setGrant_pl (g : Gov) (h : Nat) (x : Grant) : (g.setGrant h x).pl = g.pl := rfl
@[simp] theorem Gov.setGrant_th (g : Gov) (h : Nat) (x : Grant) : (g.setGrant h x).th = g.th := rfl
@[simp] theorem Gov.setGrant_ft (g : Gov) (h : Nat) (x : Grant) : (g.setGrant h x).ft = g.ft := rfl
@[simp] theorem Gov.setGrant_hr (g : Gov) (h : Nat) (x : Grant) : (g.setGrant h x).hr = g.hr := rfl
@[simp] theorem Gov.setGrant_dm (g : Gov) (h : Nat) (x : Grant) : (g.setGrant h x).dm = { g.dm with grants := mput g.dm.grants h x } := rfl
@[simp] theorem Gov.setGrant_mb (g : Gov) (h : Nat) (x : Grant) : (g.setGrant h x).mb = g.mb := rfl
@[simp] theorem Gov.setGrant_cfg (g : Gov) (h : Nat) (x : Grant) : (g.setGrant h x).cfg = g.cfg := rfl
@[simp] theorem Gov.setGrant_mir (g : Gov) (h : Nat) (x : Grant) : (g.setGrant h x).mir = g.mir := rfl
@[simp] theorem Gov.setGrant_dma (g : Gov) (h : Nat) (x : Grant) : (g.setGrant h x).dma = g.dma := rfl
@[simp] theorem Gov.setGrant_rcv (g : Gov) (h : Nat) (x : Grant) : (g.setGrant h x).rcv = g.rcv := rfl
@[simp] theorem Gov.setGrant_store (g : Gov) (h : Nat) (x : Grant) : (g.setGrant h x).store = g.store := rfl
@[simp] theorem Gov.setGrant_io (g : Gov) (h : Nat) (x : Grant) : (g.setGrant h x).io = g.io := rfl
@[simp] theorem Gov.setGrant_test (g : Gov) (h : Nat) (x : Grant) : (g.setGrant h x).test = g.test := rfl
@[simp] theorem Gov.setGrant_bus (g : Gov) (h : Nat) (x : Grant) : (g.setGrant h x).bus = g.bus := rfl

/-! ## Gov.setPage -/

@[simp] theorem Gov.setPage_aon (g : Gov) (p : Nat) (x : Page) : (g.setPage p x).aon = g.aon := rfl
@[simp] theorem Gov.setPage_porst (g : Gov) (p : Nat) (x : Page) : (g.setPage p x).porst = g.porst := rfl
@[simp] theorem Gov.setPage_gclk (g : Gov) (p : Nat) (x : Page) : (g.setPage p x).gclk = g.gclk := rfl
@[simp] theorem Gov.setPage_cold (g : Gov) (p : Nat) (x : Page) : (g.setPage p x).cold = g.cold := rfl
@[simp] theorem Gov.setPage_gtime (g : Gov) (p : Nat) (x : Page) : (g.setPage p x).gtime = g.gtime := rfl
@[simp] theorem Gov.setPage_fresh (g : Gov) (p : Nat) (x : Page) : (g.setPage p x).fresh = g.fresh := rfl
@[simp] theorem Gov.setPage_regs (g : Gov) (p : Nat) (x : Page) : (g.setPage p x).regs = g.regs := rfl
@[simp] theorem Gov.setPage_kept (g : Gov) (p : Nat) (x : Page) : (g.setPage p x).kept = g.kept := rfl
@[simp] theorem Gov.setPage_clk (g : Gov) (p : Nat) (x : Page) : (g.setPage p x).clk = g.clk := rfl
@[simp] theorem Gov.setPage_brg (g : Gov) (p : Nat) (x : Page) : (g.setPage p x).brg = g.brg := rfl
@[simp] theorem Gov.setPage_recr (g : Gov) (p : Nat) (x : Page) : (g.setPage p x).recr = g.recr := rfl
@[simp] theorem Gov.setPage_rails (g : Gov) (p : Nat) (x : Page) : (g.setPage p x).rails = g.rails := rfl
@[simp] theorem Gov.setPage_phs (g : Gov) (p : Nat) (x : Page) : (g.setPage p x).phs = g.phs := rfl
@[simp] theorem Gov.setPage_convs (g : Gov) (p : Nat) (x : Page) : (g.setPage p x).convs = g.convs := rfl
@[simp] theorem Gov.setPage_probes (g : Gov) (p : Nat) (x : Page) : (g.setPage p x).probes = g.probes := rfl
@[simp] theorem Gov.setPage_calWait (g : Gov) (p : Nat) (x : Page) : (g.setPage p x).calWait = g.calWait := rfl
@[simp] theorem Gov.setPage_st (g : Gov) (p : Nat) (x : Page) : (g.setPage p x).st = g.st := rfl
@[simp] theorem Gov.setPage_pl (g : Gov) (p : Nat) (x : Page) : (g.setPage p x).pl = { g.pl with pages := mput g.pl.pages p x } := rfl
@[simp] theorem Gov.setPage_th (g : Gov) (p : Nat) (x : Page) : (g.setPage p x).th = g.th := rfl
@[simp] theorem Gov.setPage_ft (g : Gov) (p : Nat) (x : Page) : (g.setPage p x).ft = g.ft := rfl
@[simp] theorem Gov.setPage_hr (g : Gov) (p : Nat) (x : Page) : (g.setPage p x).hr = g.hr := rfl
@[simp] theorem Gov.setPage_dm (g : Gov) (p : Nat) (x : Page) : (g.setPage p x).dm = g.dm := rfl
@[simp] theorem Gov.setPage_mb (g : Gov) (p : Nat) (x : Page) : (g.setPage p x).mb = g.mb := rfl
@[simp] theorem Gov.setPage_cfg (g : Gov) (p : Nat) (x : Page) : (g.setPage p x).cfg = g.cfg := rfl
@[simp] theorem Gov.setPage_mir (g : Gov) (p : Nat) (x : Page) : (g.setPage p x).mir = g.mir := rfl
@[simp] theorem Gov.setPage_dma (g : Gov) (p : Nat) (x : Page) : (g.setPage p x).dma = g.dma := rfl
@[simp] theorem Gov.setPage_rcv (g : Gov) (p : Nat) (x : Page) : (g.setPage p x).rcv = g.rcv := rfl
@[simp] theorem Gov.setPage_store (g : Gov) (p : Nat) (x : Page) : (g.setPage p x).store = g.store := rfl
@[simp] theorem Gov.setPage_io (g : Gov) (p : Nat) (x : Page) : (g.setPage p x).io = g.io := rfl
@[simp] theorem Gov.setPage_test (g : Gov) (p : Nat) (x : Page) : (g.setPage p x).test = g.test := rfl
@[simp] theorem Gov.setPage_bus (g : Gov) (p : Nat) (x : Page) : (g.setPage p x).bus = g.bus := rfl

/-! ## Gov.setMbx -/

@[simp] theorem Gov.setMbx_aon (g : Gov) (n : Nat) (x : Mbx) : (g.setMbx n x).aon = g.aon := rfl
@[simp] theorem Gov.setMbx_porst (g : Gov) (n : Nat) (x : Mbx) : (g.setMbx n x).porst = g.porst := rfl
@[simp] theorem Gov.setMbx_gclk (g : Gov) (n : Nat) (x : Mbx) : (g.setMbx n x).gclk = g.gclk := rfl
@[simp] theorem Gov.setMbx_cold (g : Gov) (n : Nat) (x : Mbx) : (g.setMbx n x).cold = g.cold := rfl
@[simp] theorem Gov.setMbx_gtime (g : Gov) (n : Nat) (x : Mbx) : (g.setMbx n x).gtime = g.gtime := rfl
@[simp] theorem Gov.setMbx_fresh (g : Gov) (n : Nat) (x : Mbx) : (g.setMbx n x).fresh = g.fresh := rfl
@[simp] theorem Gov.setMbx_regs (g : Gov) (n : Nat) (x : Mbx) : (g.setMbx n x).regs = g.regs := rfl
@[simp] theorem Gov.setMbx_kept (g : Gov) (n : Nat) (x : Mbx) : (g.setMbx n x).kept = g.kept := rfl
@[simp] theorem Gov.setMbx_clk (g : Gov) (n : Nat) (x : Mbx) : (g.setMbx n x).clk = g.clk := rfl
@[simp] theorem Gov.setMbx_brg (g : Gov) (n : Nat) (x : Mbx) : (g.setMbx n x).brg = g.brg := rfl
@[simp] theorem Gov.setMbx_recr (g : Gov) (n : Nat) (x : Mbx) : (g.setMbx n x).recr = g.recr := rfl
@[simp] theorem Gov.setMbx_rails (g : Gov) (n : Nat) (x : Mbx) : (g.setMbx n x).rails = g.rails := rfl
@[simp] theorem Gov.setMbx_phs (g : Gov) (n : Nat) (x : Mbx) : (g.setMbx n x).phs = g.phs := rfl
@[simp] theorem Gov.setMbx_convs (g : Gov) (n : Nat) (x : Mbx) : (g.setMbx n x).convs = g.convs := rfl
@[simp] theorem Gov.setMbx_probes (g : Gov) (n : Nat) (x : Mbx) : (g.setMbx n x).probes = g.probes := rfl
@[simp] theorem Gov.setMbx_calWait (g : Gov) (n : Nat) (x : Mbx) : (g.setMbx n x).calWait = g.calWait := rfl
@[simp] theorem Gov.setMbx_st (g : Gov) (n : Nat) (x : Mbx) : (g.setMbx n x).st = g.st := rfl
@[simp] theorem Gov.setMbx_pl (g : Gov) (n : Nat) (x : Mbx) : (g.setMbx n x).pl = g.pl := rfl
@[simp] theorem Gov.setMbx_th (g : Gov) (n : Nat) (x : Mbx) : (g.setMbx n x).th = g.th := rfl
@[simp] theorem Gov.setMbx_ft (g : Gov) (n : Nat) (x : Mbx) : (g.setMbx n x).ft = g.ft := rfl
@[simp] theorem Gov.setMbx_hr (g : Gov) (n : Nat) (x : Mbx) : (g.setMbx n x).hr = g.hr := rfl
@[simp] theorem Gov.setMbx_dm (g : Gov) (n : Nat) (x : Mbx) : (g.setMbx n x).dm = g.dm := rfl
@[simp] theorem Gov.setMbx_mb (g : Gov) (n : Nat) (x : Mbx) : (g.setMbx n x).mb = { g.mb with boxes := mput g.mb.boxes n x } := rfl
@[simp] theorem Gov.setMbx_cfg (g : Gov) (n : Nat) (x : Mbx) : (g.setMbx n x).cfg = g.cfg := rfl
@[simp] theorem Gov.setMbx_mir (g : Gov) (n : Nat) (x : Mbx) : (g.setMbx n x).mir = g.mir := rfl
@[simp] theorem Gov.setMbx_dma (g : Gov) (n : Nat) (x : Mbx) : (g.setMbx n x).dma = g.dma := rfl
@[simp] theorem Gov.setMbx_rcv (g : Gov) (n : Nat) (x : Mbx) : (g.setMbx n x).rcv = g.rcv := rfl
@[simp] theorem Gov.setMbx_store (g : Gov) (n : Nat) (x : Mbx) : (g.setMbx n x).store = g.store := rfl
@[simp] theorem Gov.setMbx_io (g : Gov) (n : Nat) (x : Mbx) : (g.setMbx n x).io = g.io := rfl
@[simp] theorem Gov.setMbx_test (g : Gov) (n : Nat) (x : Mbx) : (g.setMbx n x).test = g.test := rfl
@[simp] theorem Gov.setMbx_bus (g : Gov) (n : Nat) (x : Mbx) : (g.setMbx n x).bus = g.bus := rfl

/-! ## Gov.setHlink -/

@[simp] theorem Gov.setHlink_aon (g : Gov) (k : Nat) (x : HLink) : (g.setHlink k x).aon = g.aon := rfl
@[simp] theorem Gov.setHlink_porst (g : Gov) (k : Nat) (x : HLink) : (g.setHlink k x).porst = g.porst := rfl
@[simp] theorem Gov.setHlink_gclk (g : Gov) (k : Nat) (x : HLink) : (g.setHlink k x).gclk = g.gclk := rfl
@[simp] theorem Gov.setHlink_cold (g : Gov) (k : Nat) (x : HLink) : (g.setHlink k x).cold = g.cold := rfl
@[simp] theorem Gov.setHlink_gtime (g : Gov) (k : Nat) (x : HLink) : (g.setHlink k x).gtime = g.gtime := rfl
@[simp] theorem Gov.setHlink_fresh (g : Gov) (k : Nat) (x : HLink) : (g.setHlink k x).fresh = g.fresh := rfl
@[simp] theorem Gov.setHlink_regs (g : Gov) (k : Nat) (x : HLink) : (g.setHlink k x).regs = g.regs := rfl
@[simp] theorem Gov.setHlink_kept (g : Gov) (k : Nat) (x : HLink) : (g.setHlink k x).kept = g.kept := rfl
@[simp] theorem Gov.setHlink_clk (g : Gov) (k : Nat) (x : HLink) : (g.setHlink k x).clk = g.clk := rfl
@[simp] theorem Gov.setHlink_brg (g : Gov) (k : Nat) (x : HLink) : (g.setHlink k x).brg = g.brg := rfl
@[simp] theorem Gov.setHlink_recr (g : Gov) (k : Nat) (x : HLink) : (g.setHlink k x).recr = g.recr := rfl
@[simp] theorem Gov.setHlink_rails (g : Gov) (k : Nat) (x : HLink) : (g.setHlink k x).rails = g.rails := rfl
@[simp] theorem Gov.setHlink_phs (g : Gov) (k : Nat) (x : HLink) : (g.setHlink k x).phs = g.phs := rfl
@[simp] theorem Gov.setHlink_convs (g : Gov) (k : Nat) (x : HLink) : (g.setHlink k x).convs = g.convs := rfl
@[simp] theorem Gov.setHlink_probes (g : Gov) (k : Nat) (x : HLink) : (g.setHlink k x).probes = g.probes := rfl
@[simp] theorem Gov.setHlink_calWait (g : Gov) (k : Nat) (x : HLink) : (g.setHlink k x).calWait = g.calWait := rfl
@[simp] theorem Gov.setHlink_st (g : Gov) (k : Nat) (x : HLink) : (g.setHlink k x).st = g.st := rfl
@[simp] theorem Gov.setHlink_pl (g : Gov) (k : Nat) (x : HLink) : (g.setHlink k x).pl = g.pl := rfl
@[simp] theorem Gov.setHlink_th (g : Gov) (k : Nat) (x : HLink) : (g.setHlink k x).th = g.th := rfl
@[simp] theorem Gov.setHlink_ft (g : Gov) (k : Nat) (x : HLink) : (g.setHlink k x).ft = g.ft := rfl
@[simp] theorem Gov.setHlink_hr (g : Gov) (k : Nat) (x : HLink) : (g.setHlink k x).hr = { g.hr with links := mput g.hr.links k x } := rfl
@[simp] theorem Gov.setHlink_dm (g : Gov) (k : Nat) (x : HLink) : (g.setHlink k x).dm = g.dm := rfl
@[simp] theorem Gov.setHlink_mb (g : Gov) (k : Nat) (x : HLink) : (g.setHlink k x).mb = g.mb := rfl
@[simp] theorem Gov.setHlink_cfg (g : Gov) (k : Nat) (x : HLink) : (g.setHlink k x).cfg = g.cfg := rfl
@[simp] theorem Gov.setHlink_mir (g : Gov) (k : Nat) (x : HLink) : (g.setHlink k x).mir = g.mir := rfl
@[simp] theorem Gov.setHlink_dma (g : Gov) (k : Nat) (x : HLink) : (g.setHlink k x).dma = g.dma := rfl
@[simp] theorem Gov.setHlink_rcv (g : Gov) (k : Nat) (x : HLink) : (g.setHlink k x).rcv = g.rcv := rfl
@[simp] theorem Gov.setHlink_store (g : Gov) (k : Nat) (x : HLink) : (g.setHlink k x).store = g.store := rfl
@[simp] theorem Gov.setHlink_io (g : Gov) (k : Nat) (x : HLink) : (g.setHlink k x).io = g.io := rfl
@[simp] theorem Gov.setHlink_test (g : Gov) (k : Nat) (x : HLink) : (g.setHlink k x).test = g.test := rfl
@[simp] theorem Gov.setHlink_bus (g : Gov) (k : Nat) (x : HLink) : (g.setHlink k x).bus = g.bus := rfl

/-! ## Gov.setThNode -/

@[simp] theorem Gov.setThNode_aon (g : Gov) (i : Nat) (x : ThNode) : (g.setThNode i x).aon = g.aon := rfl
@[simp] theorem Gov.setThNode_porst (g : Gov) (i : Nat) (x : ThNode) : (g.setThNode i x).porst = g.porst := rfl
@[simp] theorem Gov.setThNode_gclk (g : Gov) (i : Nat) (x : ThNode) : (g.setThNode i x).gclk = g.gclk := rfl
@[simp] theorem Gov.setThNode_cold (g : Gov) (i : Nat) (x : ThNode) : (g.setThNode i x).cold = g.cold := rfl
@[simp] theorem Gov.setThNode_gtime (g : Gov) (i : Nat) (x : ThNode) : (g.setThNode i x).gtime = g.gtime := rfl
@[simp] theorem Gov.setThNode_fresh (g : Gov) (i : Nat) (x : ThNode) : (g.setThNode i x).fresh = g.fresh := rfl
@[simp] theorem Gov.setThNode_regs (g : Gov) (i : Nat) (x : ThNode) : (g.setThNode i x).regs = g.regs := rfl
@[simp] theorem Gov.setThNode_kept (g : Gov) (i : Nat) (x : ThNode) : (g.setThNode i x).kept = g.kept := rfl
@[simp] theorem Gov.setThNode_clk (g : Gov) (i : Nat) (x : ThNode) : (g.setThNode i x).clk = g.clk := rfl
@[simp] theorem Gov.setThNode_brg (g : Gov) (i : Nat) (x : ThNode) : (g.setThNode i x).brg = g.brg := rfl
@[simp] theorem Gov.setThNode_recr (g : Gov) (i : Nat) (x : ThNode) : (g.setThNode i x).recr = g.recr := rfl
@[simp] theorem Gov.setThNode_rails (g : Gov) (i : Nat) (x : ThNode) : (g.setThNode i x).rails = g.rails := rfl
@[simp] theorem Gov.setThNode_phs (g : Gov) (i : Nat) (x : ThNode) : (g.setThNode i x).phs = g.phs := rfl
@[simp] theorem Gov.setThNode_convs (g : Gov) (i : Nat) (x : ThNode) : (g.setThNode i x).convs = g.convs := rfl
@[simp] theorem Gov.setThNode_probes (g : Gov) (i : Nat) (x : ThNode) : (g.setThNode i x).probes = g.probes := rfl
@[simp] theorem Gov.setThNode_calWait (g : Gov) (i : Nat) (x : ThNode) : (g.setThNode i x).calWait = g.calWait := rfl
@[simp] theorem Gov.setThNode_st (g : Gov) (i : Nat) (x : ThNode) : (g.setThNode i x).st = g.st := rfl
@[simp] theorem Gov.setThNode_pl (g : Gov) (i : Nat) (x : ThNode) : (g.setThNode i x).pl = g.pl := rfl
@[simp] theorem Gov.setThNode_th (g : Gov) (i : Nat) (x : ThNode) : (g.setThNode i x).th = { g.th with nodes := mput g.th.nodes i x } := rfl
@[simp] theorem Gov.setThNode_ft (g : Gov) (i : Nat) (x : ThNode) : (g.setThNode i x).ft = g.ft := rfl
@[simp] theorem Gov.setThNode_hr (g : Gov) (i : Nat) (x : ThNode) : (g.setThNode i x).hr = g.hr := rfl
@[simp] theorem Gov.setThNode_dm (g : Gov) (i : Nat) (x : ThNode) : (g.setThNode i x).dm = g.dm := rfl
@[simp] theorem Gov.setThNode_mb (g : Gov) (i : Nat) (x : ThNode) : (g.setThNode i x).mb = g.mb := rfl
@[simp] theorem Gov.setThNode_cfg (g : Gov) (i : Nat) (x : ThNode) : (g.setThNode i x).cfg = g.cfg := rfl
@[simp] theorem Gov.setThNode_mir (g : Gov) (i : Nat) (x : ThNode) : (g.setThNode i x).mir = g.mir := rfl
@[simp] theorem Gov.setThNode_dma (g : Gov) (i : Nat) (x : ThNode) : (g.setThNode i x).dma = g.dma := rfl
@[simp] theorem Gov.setThNode_rcv (g : Gov) (i : Nat) (x : ThNode) : (g.setThNode i x).rcv = g.rcv := rfl
@[simp] theorem Gov.setThNode_store (g : Gov) (i : Nat) (x : ThNode) : (g.setThNode i x).store = g.store := rfl
@[simp] theorem Gov.setThNode_io (g : Gov) (i : Nat) (x : ThNode) : (g.setThNode i x).io = g.io := rfl
@[simp] theorem Gov.setThNode_test (g : Gov) (i : Nat) (x : ThNode) : (g.setThNode i x).test = g.test := rfl
@[simp] theorem Gov.setThNode_bus (g : Gov) (i : Nat) (x : ThNode) : (g.setThNode i x).bus = g.bus := rfl

/-! ## Gov.setFtDiode -/

@[simp] theorem Gov.setFtDiode_aon (g : Gov) (k : Nat) (x : FtDiode) : (g.setFtDiode k x).aon = g.aon := rfl
@[simp] theorem Gov.setFtDiode_porst (g : Gov) (k : Nat) (x : FtDiode) : (g.setFtDiode k x).porst = g.porst := rfl
@[simp] theorem Gov.setFtDiode_gclk (g : Gov) (k : Nat) (x : FtDiode) : (g.setFtDiode k x).gclk = g.gclk := rfl
@[simp] theorem Gov.setFtDiode_cold (g : Gov) (k : Nat) (x : FtDiode) : (g.setFtDiode k x).cold = g.cold := rfl
@[simp] theorem Gov.setFtDiode_gtime (g : Gov) (k : Nat) (x : FtDiode) : (g.setFtDiode k x).gtime = g.gtime := rfl
@[simp] theorem Gov.setFtDiode_fresh (g : Gov) (k : Nat) (x : FtDiode) : (g.setFtDiode k x).fresh = g.fresh := rfl
@[simp] theorem Gov.setFtDiode_regs (g : Gov) (k : Nat) (x : FtDiode) : (g.setFtDiode k x).regs = g.regs := rfl
@[simp] theorem Gov.setFtDiode_kept (g : Gov) (k : Nat) (x : FtDiode) : (g.setFtDiode k x).kept = g.kept := rfl
@[simp] theorem Gov.setFtDiode_clk (g : Gov) (k : Nat) (x : FtDiode) : (g.setFtDiode k x).clk = g.clk := rfl
@[simp] theorem Gov.setFtDiode_brg (g : Gov) (k : Nat) (x : FtDiode) : (g.setFtDiode k x).brg = g.brg := rfl
@[simp] theorem Gov.setFtDiode_recr (g : Gov) (k : Nat) (x : FtDiode) : (g.setFtDiode k x).recr = g.recr := rfl
@[simp] theorem Gov.setFtDiode_rails (g : Gov) (k : Nat) (x : FtDiode) : (g.setFtDiode k x).rails = g.rails := rfl
@[simp] theorem Gov.setFtDiode_phs (g : Gov) (k : Nat) (x : FtDiode) : (g.setFtDiode k x).phs = g.phs := rfl
@[simp] theorem Gov.setFtDiode_convs (g : Gov) (k : Nat) (x : FtDiode) : (g.setFtDiode k x).convs = g.convs := rfl
@[simp] theorem Gov.setFtDiode_probes (g : Gov) (k : Nat) (x : FtDiode) : (g.setFtDiode k x).probes = g.probes := rfl
@[simp] theorem Gov.setFtDiode_calWait (g : Gov) (k : Nat) (x : FtDiode) : (g.setFtDiode k x).calWait = g.calWait := rfl
@[simp] theorem Gov.setFtDiode_st (g : Gov) (k : Nat) (x : FtDiode) : (g.setFtDiode k x).st = g.st := rfl
@[simp] theorem Gov.setFtDiode_pl (g : Gov) (k : Nat) (x : FtDiode) : (g.setFtDiode k x).pl = g.pl := rfl
@[simp] theorem Gov.setFtDiode_th (g : Gov) (k : Nat) (x : FtDiode) : (g.setFtDiode k x).th = g.th := rfl
@[simp] theorem Gov.setFtDiode_ft (g : Gov) (k : Nat) (x : FtDiode) : (g.setFtDiode k x).ft = { g.ft with diodes := mput g.ft.diodes k x } := rfl
@[simp] theorem Gov.setFtDiode_hr (g : Gov) (k : Nat) (x : FtDiode) : (g.setFtDiode k x).hr = g.hr := rfl
@[simp] theorem Gov.setFtDiode_dm (g : Gov) (k : Nat) (x : FtDiode) : (g.setFtDiode k x).dm = g.dm := rfl
@[simp] theorem Gov.setFtDiode_mb (g : Gov) (k : Nat) (x : FtDiode) : (g.setFtDiode k x).mb = g.mb := rfl
@[simp] theorem Gov.setFtDiode_cfg (g : Gov) (k : Nat) (x : FtDiode) : (g.setFtDiode k x).cfg = g.cfg := rfl
@[simp] theorem Gov.setFtDiode_mir (g : Gov) (k : Nat) (x : FtDiode) : (g.setFtDiode k x).mir = g.mir := rfl
@[simp] theorem Gov.setFtDiode_dma (g : Gov) (k : Nat) (x : FtDiode) : (g.setFtDiode k x).dma = g.dma := rfl
@[simp] theorem Gov.setFtDiode_rcv (g : Gov) (k : Nat) (x : FtDiode) : (g.setFtDiode k x).rcv = g.rcv := rfl
@[simp] theorem Gov.setFtDiode_store (g : Gov) (k : Nat) (x : FtDiode) : (g.setFtDiode k x).store = g.store := rfl
@[simp] theorem Gov.setFtDiode_io (g : Gov) (k : Nat) (x : FtDiode) : (g.setFtDiode k x).io = g.io := rfl
@[simp] theorem Gov.setFtDiode_test (g : Gov) (k : Nat) (x : FtDiode) : (g.setFtDiode k x).test = g.test := rfl
@[simp] theorem Gov.setFtDiode_bus (g : Gov) (k : Nat) (x : FtDiode) : (g.setFtDiode k x).bus = g.bus := rfl

/-! ## Gov.touch -/

@[simp] theorem Gov.touch_aon (g : Gov) (port : Nat) : (g.touch port).aon = g.aon := rfl
@[simp] theorem Gov.touch_porst (g : Gov) (port : Nat) : (g.touch port).porst = g.porst := rfl
@[simp] theorem Gov.touch_gclk (g : Gov) (port : Nat) : (g.touch port).gclk = g.gclk := rfl
@[simp] theorem Gov.touch_cold (g : Gov) (port : Nat) : (g.touch port).cold = g.cold := rfl
@[simp] theorem Gov.touch_gtime (g : Gov) (port : Nat) : (g.touch port).gtime = g.gtime := rfl
@[simp] theorem Gov.touch_fresh (g : Gov) (port : Nat) : (g.touch port).fresh = g.fresh := rfl
@[simp] theorem Gov.touch_regs (g : Gov) (port : Nat) : (g.touch port).regs = g.regs := rfl
@[simp] theorem Gov.touch_kept (g : Gov) (port : Nat) : (g.touch port).kept = g.kept := rfl
@[simp] theorem Gov.touch_clk (g : Gov) (port : Nat) : (g.touch port).clk = g.clk := rfl
@[simp] theorem Gov.touch_brg (g : Gov) (port : Nat) : (g.touch port).brg = g.brg := rfl
@[simp] theorem Gov.touch_recr (g : Gov) (port : Nat) : (g.touch port).recr = g.recr := rfl
@[simp] theorem Gov.touch_rails (g : Gov) (port : Nat) : (g.touch port).rails = g.rails := rfl
@[simp] theorem Gov.touch_phs (g : Gov) (port : Nat) : (g.touch port).phs = g.phs := rfl
@[simp] theorem Gov.touch_convs (g : Gov) (port : Nat) : (g.touch port).convs = g.convs := rfl
@[simp] theorem Gov.touch_probes (g : Gov) (port : Nat) : (g.touch port).probes = g.probes := rfl
@[simp] theorem Gov.touch_calWait (g : Gov) (port : Nat) : (g.touch port).calWait = g.calWait := rfl
@[simp] theorem Gov.touch_st (g : Gov) (port : Nat) : (g.touch port).st = g.st := rfl
@[simp] theorem Gov.touch_pl (g : Gov) (port : Nat) : (g.touch port).pl = g.pl := rfl
@[simp] theorem Gov.touch_th (g : Gov) (port : Nat) : (g.touch port).th = g.th := rfl
@[simp] theorem Gov.touch_ft (g : Gov) (port : Nat) : (g.touch port).ft = g.ft := rfl
@[simp] theorem Gov.touch_hr (g : Gov) (port : Nat) : (g.touch port).hr = g.hr := rfl
@[simp] theorem Gov.touch_dm (g : Gov) (port : Nat) : (g.touch port).dm = g.dm := rfl
@[simp] theorem Gov.touch_mb (g : Gov) (port : Nat) : (g.touch port).mb = g.mb := rfl
@[simp] theorem Gov.touch_cfg (g : Gov) (port : Nat) : (g.touch port).cfg = { g.cfg with access := mput g.cfg.access port g.gtime } := rfl
@[simp] theorem Gov.touch_mir (g : Gov) (port : Nat) : (g.touch port).mir = g.mir := rfl
@[simp] theorem Gov.touch_dma (g : Gov) (port : Nat) : (g.touch port).dma = g.dma := rfl
@[simp] theorem Gov.touch_rcv (g : Gov) (port : Nat) : (g.touch port).rcv = g.rcv := rfl
@[simp] theorem Gov.touch_store (g : Gov) (port : Nat) : (g.touch port).store = g.store := rfl
@[simp] theorem Gov.touch_io (g : Gov) (port : Nat) : (g.touch port).io = g.io := rfl
@[simp] theorem Gov.touch_test (g : Gov) (port : Nat) : (g.touch port).test = g.test := rfl
@[simp] theorem Gov.touch_bus (g : Gov) (port : Nat) : (g.touch port).bus = g.bus := rfl

/-! ## Gov.respond -/

@[simp] theorem Gov.respond_aon (g : Gov) (port v c : Nat) : (g.respond port v c).aon = g.aon := rfl
@[simp] theorem Gov.respond_porst (g : Gov) (port v c : Nat) : (g.respond port v c).porst = g.porst := rfl
@[simp] theorem Gov.respond_gclk (g : Gov) (port v c : Nat) : (g.respond port v c).gclk = g.gclk := rfl
@[simp] theorem Gov.respond_cold (g : Gov) (port v c : Nat) : (g.respond port v c).cold = g.cold := rfl
@[simp] theorem Gov.respond_gtime (g : Gov) (port v c : Nat) : (g.respond port v c).gtime = g.gtime := rfl
@[simp] theorem Gov.respond_fresh (g : Gov) (port v c : Nat) : (g.respond port v c).fresh = g.fresh := rfl
@[simp] theorem Gov.respond_regs (g : Gov) (port v c : Nat) : (g.respond port v c).regs = g.regs := rfl
@[simp] theorem Gov.respond_kept (g : Gov) (port v c : Nat) : (g.respond port v c).kept = g.kept := rfl
@[simp] theorem Gov.respond_clk (g : Gov) (port v c : Nat) : (g.respond port v c).clk = g.clk := rfl
@[simp] theorem Gov.respond_brg (g : Gov) (port v c : Nat) : (g.respond port v c).brg = g.brg := rfl
@[simp] theorem Gov.respond_recr (g : Gov) (port v c : Nat) : (g.respond port v c).recr = g.recr := rfl
@[simp] theorem Gov.respond_rails (g : Gov) (port v c : Nat) : (g.respond port v c).rails = g.rails := rfl
@[simp] theorem Gov.respond_phs (g : Gov) (port v c : Nat) : (g.respond port v c).phs = g.phs := rfl
@[simp] theorem Gov.respond_convs (g : Gov) (port v c : Nat) : (g.respond port v c).convs = g.convs := rfl
@[simp] theorem Gov.respond_probes (g : Gov) (port v c : Nat) : (g.respond port v c).probes = g.probes := rfl
@[simp] theorem Gov.respond_calWait (g : Gov) (port v c : Nat) : (g.respond port v c).calWait = g.calWait := rfl
@[simp] theorem Gov.respond_st (g : Gov) (port v c : Nat) : (g.respond port v c).st = g.st := rfl
@[simp] theorem Gov.respond_pl (g : Gov) (port v c : Nat) : (g.respond port v c).pl = g.pl := rfl
@[simp] theorem Gov.respond_th (g : Gov) (port v c : Nat) : (g.respond port v c).th = g.th := rfl
@[simp] theorem Gov.respond_ft (g : Gov) (port v c : Nat) : (g.respond port v c).ft = g.ft := rfl
@[simp] theorem Gov.respond_hr (g : Gov) (port v c : Nat) : (g.respond port v c).hr = g.hr := rfl
@[simp] theorem Gov.respond_dm (g : Gov) (port v c : Nat) : (g.respond port v c).dm = g.dm := rfl
@[simp] theorem Gov.respond_mb (g : Gov) (port v c : Nat) : (g.respond port v c).mb = g.mb := rfl
@[simp] theorem Gov.respond_cfg (g : Gov) (port v c : Nat) : (g.respond port v c).cfg = g.cfg := rfl
@[simp] theorem Gov.respond_mir (g : Gov) (port v c : Nat) : (g.respond port v c).mir = g.mir := rfl
@[simp] theorem Gov.respond_dma (g : Gov) (port v c : Nat) : (g.respond port v c).dma = g.dma := rfl
@[simp] theorem Gov.respond_rcv (g : Gov) (port v c : Nat) : (g.respond port v c).rcv = g.rcv := rfl
@[simp] theorem Gov.respond_store (g : Gov) (port v c : Nat) : (g.respond port v c).store = g.store := rfl
@[simp] theorem Gov.respond_io (g : Gov) (port v c : Nat) : (g.respond port v c).io = { g.io with hrs := mput g.io.hrs port { data := v, code := c } } := rfl
@[simp] theorem Gov.respond_test (g : Gov) (port v c : Nat) : (g.respond port v c).test = g.test := rfl
@[simp] theorem Gov.respond_bus (g : Gov) (port v c : Nat) : (g.respond port v c).bus = g.bus := rfl

/-! ## Gov.smbOut -/

@[simp] theorem Gov.smbOut_aon (g : Gov) (l : List Nat) : (g.smbOut l).aon = g.aon := rfl
@[simp] theorem Gov.smbOut_porst (g : Gov) (l : List Nat) : (g.smbOut l).porst = g.porst := rfl
@[simp] theorem Gov.smbOut_gclk (g : Gov) (l : List Nat) : (g.smbOut l).gclk = g.gclk := rfl
@[simp] theorem Gov.smbOut_cold (g : Gov) (l : List Nat) : (g.smbOut l).cold = g.cold := rfl
@[simp] theorem Gov.smbOut_gtime (g : Gov) (l : List Nat) : (g.smbOut l).gtime = g.gtime := rfl
@[simp] theorem Gov.smbOut_fresh (g : Gov) (l : List Nat) : (g.smbOut l).fresh = g.fresh := rfl
@[simp] theorem Gov.smbOut_regs (g : Gov) (l : List Nat) : (g.smbOut l).regs = g.regs := rfl
@[simp] theorem Gov.smbOut_kept (g : Gov) (l : List Nat) : (g.smbOut l).kept = g.kept := rfl
@[simp] theorem Gov.smbOut_clk (g : Gov) (l : List Nat) : (g.smbOut l).clk = g.clk := rfl
@[simp] theorem Gov.smbOut_brg (g : Gov) (l : List Nat) : (g.smbOut l).brg = g.brg := rfl
@[simp] theorem Gov.smbOut_recr (g : Gov) (l : List Nat) : (g.smbOut l).recr = g.recr := rfl
@[simp] theorem Gov.smbOut_rails (g : Gov) (l : List Nat) : (g.smbOut l).rails = g.rails := rfl
@[simp] theorem Gov.smbOut_phs (g : Gov) (l : List Nat) : (g.smbOut l).phs = g.phs := rfl
@[simp] theorem Gov.smbOut_convs (g : Gov) (l : List Nat) : (g.smbOut l).convs = g.convs := rfl
@[simp] theorem Gov.smbOut_probes (g : Gov) (l : List Nat) : (g.smbOut l).probes = g.probes := rfl
@[simp] theorem Gov.smbOut_calWait (g : Gov) (l : List Nat) : (g.smbOut l).calWait = g.calWait := rfl
@[simp] theorem Gov.smbOut_st (g : Gov) (l : List Nat) : (g.smbOut l).st = g.st := rfl
@[simp] theorem Gov.smbOut_pl (g : Gov) (l : List Nat) : (g.smbOut l).pl = g.pl := rfl
@[simp] theorem Gov.smbOut_th (g : Gov) (l : List Nat) : (g.smbOut l).th = g.th := rfl
@[simp] theorem Gov.smbOut_ft (g : Gov) (l : List Nat) : (g.smbOut l).ft = g.ft := rfl
@[simp] theorem Gov.smbOut_hr (g : Gov) (l : List Nat) : (g.smbOut l).hr = g.hr := rfl
@[simp] theorem Gov.smbOut_dm (g : Gov) (l : List Nat) : (g.smbOut l).dm = g.dm := rfl
@[simp] theorem Gov.smbOut_mb (g : Gov) (l : List Nat) : (g.smbOut l).mb = g.mb := rfl
@[simp] theorem Gov.smbOut_cfg (g : Gov) (l : List Nat) : (g.smbOut l).cfg = g.cfg := rfl
@[simp] theorem Gov.smbOut_mir (g : Gov) (l : List Nat) : (g.smbOut l).mir = g.mir := rfl
@[simp] theorem Gov.smbOut_dma (g : Gov) (l : List Nat) : (g.smbOut l).dma = g.dma := rfl
@[simp] theorem Gov.smbOut_rcv (g : Gov) (l : List Nat) : (g.smbOut l).rcv = g.rcv := rfl
@[simp] theorem Gov.smbOut_store (g : Gov) (l : List Nat) : (g.smbOut l).store = g.store := rfl
@[simp] theorem Gov.smbOut_io (g : Gov) (l : List Nat) : (g.smbOut l).io = { g.io with smb := { g.io.smb with out := l, nack := false } } := rfl
@[simp] theorem Gov.smbOut_test (g : Gov) (l : List Nat) : (g.smbOut l).test = g.test := rfl
@[simp] theorem Gov.smbOut_bus (g : Gov) (l : List Nat) : (g.smbOut l).bus = g.bus := rfl

/-! ## Gov.openGate -/

@[simp] theorem Gov.openGate_aon (g : Gov) (k : Nat) : (g.openGate k).aon = g.aon := rfl
@[simp] theorem Gov.openGate_porst (g : Gov) (k : Nat) : (g.openGate k).porst = g.porst := rfl
@[simp] theorem Gov.openGate_gclk (g : Gov) (k : Nat) : (g.openGate k).gclk = g.gclk := rfl
@[simp] theorem Gov.openGate_cold (g : Gov) (k : Nat) : (g.openGate k).cold = g.cold := rfl
@[simp] theorem Gov.openGate_gtime (g : Gov) (k : Nat) : (g.openGate k).gtime = g.gtime := rfl
@[simp] theorem Gov.openGate_fresh (g : Gov) (k : Nat) : (g.openGate k).fresh = g.fresh := rfl
@[simp] theorem Gov.openGate_regs (g : Gov) (k : Nat) : (g.openGate k).regs = g.regs := rfl
@[simp] theorem Gov.openGate_kept (g : Gov) (k : Nat) : (g.openGate k).kept = g.kept := rfl
@[simp] theorem Gov.openGate_clk (g : Gov) (k : Nat) : (g.openGate k).clk = g.clk := rfl
@[simp] theorem Gov.openGate_brg (g : Gov) (k : Nat) : (g.openGate k).brg = g.brg := rfl
@[simp] theorem Gov.openGate_recr (g : Gov) (k : Nat) : (g.openGate k).recr = g.recr := rfl
@[simp] theorem Gov.openGate_rails (g : Gov) (k : Nat) : (g.openGate k).rails = g.rails := rfl
@[simp] theorem Gov.openGate_phs (g : Gov) (k : Nat) : (g.openGate k).phs = g.phs := rfl
@[simp] theorem Gov.openGate_convs (g : Gov) (k : Nat) : (g.openGate k).convs = g.convs := rfl
@[simp] theorem Gov.openGate_probes (g : Gov) (k : Nat) : (g.openGate k).probes = g.probes := rfl
@[simp] theorem Gov.openGate_calWait (g : Gov) (k : Nat) : (g.openGate k).calWait = g.calWait := rfl
@[simp] theorem Gov.openGate_st (g : Gov) (k : Nat) : (g.openGate k).st = g.st := rfl
@[simp] theorem Gov.openGate_pl (g : Gov) (k : Nat) : (g.openGate k).pl = g.pl := rfl
@[simp] theorem Gov.openGate_th (g : Gov) (k : Nat) : (g.openGate k).th = g.th := rfl
@[simp] theorem Gov.openGate_ft (g : Gov) (k : Nat) : (g.openGate k).ft = g.ft := rfl
@[simp] theorem Gov.openGate_hr (g : Gov) (k : Nat) : (g.openGate k).hr = g.hr := rfl
@[simp] theorem Gov.openGate_dm (g : Gov) (k : Nat) : (g.openGate k).dm = g.dm := rfl
@[simp] theorem Gov.openGate_mb (g : Gov) (k : Nat) : (g.openGate k).mb = g.mb := rfl
@[simp] theorem Gov.openGate_cfg (g : Gov) (k : Nat) : (g.openGate k).cfg = g.cfg := rfl
@[simp] theorem Gov.openGate_mir (g : Gov) (k : Nat) : (g.openGate k).mir = g.mir := rfl
@[simp] theorem Gov.openGate_dma (g : Gov) (k : Nat) : (g.openGate k).dma = g.dma := rfl
@[simp] theorem Gov.openGate_rcv (g : Gov) (k : Nat) : (g.openGate k).rcv = g.rcv := rfl
@[simp] theorem Gov.openGate_store (g : Gov) (k : Nat) : (g.openGate k).store = g.store := rfl
@[simp] theorem Gov.openGate_io (g : Gov) (k : Nat) : (g.openGate k).io = g.io := rfl
@[simp] theorem Gov.openGate_test (g : Gov) (k : Nat) : (g.openGate k).test = g.test := rfl
@[simp] theorem Gov.rd_openGate (g : Gov) (k : Nat) (f : Fld) : (g.openGate k).rd f = g.rd f := rfl

/-! ## Gov.openFor -/

@[simp] theorem Gov.openFor_aon (g : Gov) (off : Nat) : (g.openFor off).aon = g.aon := rfl
@[simp] theorem Gov.openFor_porst (g : Gov) (off : Nat) : (g.openFor off).porst = g.porst := rfl
@[simp] theorem Gov.openFor_gclk (g : Gov) (off : Nat) : (g.openFor off).gclk = g.gclk := rfl
@[simp] theorem Gov.openFor_cold (g : Gov) (off : Nat) : (g.openFor off).cold = g.cold := rfl
@[simp] theorem Gov.openFor_gtime (g : Gov) (off : Nat) : (g.openFor off).gtime = g.gtime := rfl
@[simp] theorem Gov.openFor_fresh (g : Gov) (off : Nat) : (g.openFor off).fresh = g.fresh := rfl
@[simp] theorem Gov.openFor_regs (g : Gov) (off : Nat) : (g.openFor off).regs = g.regs := rfl
@[simp] theorem Gov.openFor_kept (g : Gov) (off : Nat) : (g.openFor off).kept = g.kept := rfl
@[simp] theorem Gov.openFor_clk (g : Gov) (off : Nat) : (g.openFor off).clk = g.clk := rfl
@[simp] theorem Gov.openFor_brg (g : Gov) (off : Nat) : (g.openFor off).brg = g.brg := rfl
@[simp] theorem Gov.openFor_recr (g : Gov) (off : Nat) : (g.openFor off).recr = g.recr := rfl
@[simp] theorem Gov.openFor_rails (g : Gov) (off : Nat) : (g.openFor off).rails = g.rails := rfl
@[simp] theorem Gov.openFor_phs (g : Gov) (off : Nat) : (g.openFor off).phs = g.phs := rfl
@[simp] theorem Gov.openFor_convs (g : Gov) (off : Nat) : (g.openFor off).convs = g.convs := rfl
@[simp] theorem Gov.openFor_probes (g : Gov) (off : Nat) : (g.openFor off).probes = g.probes := rfl
@[simp] theorem Gov.openFor_calWait (g : Gov) (off : Nat) : (g.openFor off).calWait = g.calWait := rfl
@[simp] theorem Gov.openFor_st (g : Gov) (off : Nat) : (g.openFor off).st = g.st := rfl
@[simp] theorem Gov.openFor_pl (g : Gov) (off : Nat) : (g.openFor off).pl = g.pl := rfl
@[simp] theorem Gov.openFor_th (g : Gov) (off : Nat) : (g.openFor off).th = g.th := rfl
@[simp] theorem Gov.openFor_ft (g : Gov) (off : Nat) : (g.openFor off).ft = g.ft := rfl
@[simp] theorem Gov.openFor_hr (g : Gov) (off : Nat) : (g.openFor off).hr = g.hr := rfl
@[simp] theorem Gov.openFor_dm (g : Gov) (off : Nat) : (g.openFor off).dm = g.dm := rfl
@[simp] theorem Gov.openFor_mb (g : Gov) (off : Nat) : (g.openFor off).mb = g.mb := rfl
@[simp] theorem Gov.openFor_cfg (g : Gov) (off : Nat) : (g.openFor off).cfg = g.cfg := rfl
@[simp] theorem Gov.openFor_mir (g : Gov) (off : Nat) : (g.openFor off).mir = g.mir := rfl
@[simp] theorem Gov.openFor_dma (g : Gov) (off : Nat) : (g.openFor off).dma = g.dma := rfl
@[simp] theorem Gov.openFor_rcv (g : Gov) (off : Nat) : (g.openFor off).rcv = g.rcv := rfl
@[simp] theorem Gov.openFor_store (g : Gov) (off : Nat) : (g.openFor off).store = g.store := rfl
@[simp] theorem Gov.openFor_io (g : Gov) (off : Nat) : (g.openFor off).io = g.io := rfl
@[simp] theorem Gov.openFor_test (g : Gov) (off : Nat) : (g.openFor off).test = g.test := rfl
@[simp] theorem Gov.rd_openFor (g : Gov) (off : Nat) (f : Fld) : (g.openFor off).rd f = g.rd f := rfl

/-! ## Gov.count: the register file alone -/

@[simp] theorem Gov.count_aon (g : Gov) (f : Fld) (n : Nat) : (g.count f n).aon = g.aon := rfl
@[simp] theorem Gov.count_porst (g : Gov) (f : Fld) (n : Nat) : (g.count f n).porst = g.porst := rfl
@[simp] theorem Gov.count_gclk (g : Gov) (f : Fld) (n : Nat) : (g.count f n).gclk = g.gclk := rfl
@[simp] theorem Gov.count_cold (g : Gov) (f : Fld) (n : Nat) : (g.count f n).cold = g.cold := rfl
@[simp] theorem Gov.count_gtime (g : Gov) (f : Fld) (n : Nat) : (g.count f n).gtime = g.gtime := rfl
@[simp] theorem Gov.count_fresh (g : Gov) (f : Fld) (n : Nat) : (g.count f n).fresh = g.fresh := rfl
@[simp] theorem Gov.count_kept (g : Gov) (f : Fld) (n : Nat) : (g.count f n).kept = g.kept := rfl
@[simp] theorem Gov.count_clk (g : Gov) (f : Fld) (n : Nat) : (g.count f n).clk = g.clk := rfl
@[simp] theorem Gov.count_brg (g : Gov) (f : Fld) (n : Nat) : (g.count f n).brg = g.brg := rfl
@[simp] theorem Gov.count_recr (g : Gov) (f : Fld) (n : Nat) : (g.count f n).recr = g.recr := rfl
@[simp] theorem Gov.count_rails (g : Gov) (f : Fld) (n : Nat) : (g.count f n).rails = g.rails := rfl
@[simp] theorem Gov.count_phs (g : Gov) (f : Fld) (n : Nat) : (g.count f n).phs = g.phs := rfl
@[simp] theorem Gov.count_convs (g : Gov) (f : Fld) (n : Nat) : (g.count f n).convs = g.convs := rfl
@[simp] theorem Gov.count_probes (g : Gov) (f : Fld) (n : Nat) : (g.count f n).probes = g.probes := rfl
@[simp] theorem Gov.count_calWait (g : Gov) (f : Fld) (n : Nat) : (g.count f n).calWait = g.calWait := rfl
@[simp] theorem Gov.count_st (g : Gov) (f : Fld) (n : Nat) : (g.count f n).st = g.st := rfl
@[simp] theorem Gov.count_pl (g : Gov) (f : Fld) (n : Nat) : (g.count f n).pl = g.pl := rfl
@[simp] theorem Gov.count_th (g : Gov) (f : Fld) (n : Nat) : (g.count f n).th = g.th := rfl
@[simp] theorem Gov.count_ft (g : Gov) (f : Fld) (n : Nat) : (g.count f n).ft = g.ft := rfl
@[simp] theorem Gov.count_hr (g : Gov) (f : Fld) (n : Nat) : (g.count f n).hr = g.hr := rfl
@[simp] theorem Gov.count_dm (g : Gov) (f : Fld) (n : Nat) : (g.count f n).dm = g.dm := rfl
@[simp] theorem Gov.count_mb (g : Gov) (f : Fld) (n : Nat) : (g.count f n).mb = g.mb := rfl
@[simp] theorem Gov.count_cfg (g : Gov) (f : Fld) (n : Nat) : (g.count f n).cfg = g.cfg := rfl
@[simp] theorem Gov.count_mir (g : Gov) (f : Fld) (n : Nat) : (g.count f n).mir = g.mir := rfl
@[simp] theorem Gov.count_dma (g : Gov) (f : Fld) (n : Nat) : (g.count f n).dma = g.dma := rfl
@[simp] theorem Gov.count_rcv (g : Gov) (f : Fld) (n : Nat) : (g.count f n).rcv = g.rcv := rfl
@[simp] theorem Gov.count_store (g : Gov) (f : Fld) (n : Nat) : (g.count f n).store = g.store := rfl
@[simp] theorem Gov.count_io (g : Gov) (f : Fld) (n : Nat) : (g.count f n).io = g.io := rfl
@[simp] theorem Gov.count_test (g : Gov) (f : Fld) (n : Nat) : (g.count f n).test = g.test := rfl
@[simp] theorem Gov.count_bus (g : Gov) (f : Fld) (n : Nat) : (g.count f n).bus = g.bus := rfl

/-! ## Gov.setBit: the register file alone -/

@[simp] theorem Gov.setBit_aon (g : Gov) (f : Fld) (i : Nat) : (g.setBit f i).aon = g.aon := rfl
@[simp] theorem Gov.setBit_porst (g : Gov) (f : Fld) (i : Nat) : (g.setBit f i).porst = g.porst := rfl
@[simp] theorem Gov.setBit_gclk (g : Gov) (f : Fld) (i : Nat) : (g.setBit f i).gclk = g.gclk := rfl
@[simp] theorem Gov.setBit_cold (g : Gov) (f : Fld) (i : Nat) : (g.setBit f i).cold = g.cold := rfl
@[simp] theorem Gov.setBit_gtime (g : Gov) (f : Fld) (i : Nat) : (g.setBit f i).gtime = g.gtime := rfl
@[simp] theorem Gov.setBit_fresh (g : Gov) (f : Fld) (i : Nat) : (g.setBit f i).fresh = g.fresh := rfl
@[simp] theorem Gov.setBit_kept (g : Gov) (f : Fld) (i : Nat) : (g.setBit f i).kept = g.kept := rfl
@[simp] theorem Gov.setBit_clk (g : Gov) (f : Fld) (i : Nat) : (g.setBit f i).clk = g.clk := rfl
@[simp] theorem Gov.setBit_brg (g : Gov) (f : Fld) (i : Nat) : (g.setBit f i).brg = g.brg := rfl
@[simp] theorem Gov.setBit_recr (g : Gov) (f : Fld) (i : Nat) : (g.setBit f i).recr = g.recr := rfl
@[simp] theorem Gov.setBit_rails (g : Gov) (f : Fld) (i : Nat) : (g.setBit f i).rails = g.rails := rfl
@[simp] theorem Gov.setBit_phs (g : Gov) (f : Fld) (i : Nat) : (g.setBit f i).phs = g.phs := rfl
@[simp] theorem Gov.setBit_convs (g : Gov) (f : Fld) (i : Nat) : (g.setBit f i).convs = g.convs := rfl
@[simp] theorem Gov.setBit_probes (g : Gov) (f : Fld) (i : Nat) : (g.setBit f i).probes = g.probes := rfl
@[simp] theorem Gov.setBit_calWait (g : Gov) (f : Fld) (i : Nat) : (g.setBit f i).calWait = g.calWait := rfl
@[simp] theorem Gov.setBit_st (g : Gov) (f : Fld) (i : Nat) : (g.setBit f i).st = g.st := rfl
@[simp] theorem Gov.setBit_pl (g : Gov) (f : Fld) (i : Nat) : (g.setBit f i).pl = g.pl := rfl
@[simp] theorem Gov.setBit_th (g : Gov) (f : Fld) (i : Nat) : (g.setBit f i).th = g.th := rfl
@[simp] theorem Gov.setBit_ft (g : Gov) (f : Fld) (i : Nat) : (g.setBit f i).ft = g.ft := rfl
@[simp] theorem Gov.setBit_hr (g : Gov) (f : Fld) (i : Nat) : (g.setBit f i).hr = g.hr := rfl
@[simp] theorem Gov.setBit_dm (g : Gov) (f : Fld) (i : Nat) : (g.setBit f i).dm = g.dm := rfl
@[simp] theorem Gov.setBit_mb (g : Gov) (f : Fld) (i : Nat) : (g.setBit f i).mb = g.mb := rfl
@[simp] theorem Gov.setBit_cfg (g : Gov) (f : Fld) (i : Nat) : (g.setBit f i).cfg = g.cfg := rfl
@[simp] theorem Gov.setBit_mir (g : Gov) (f : Fld) (i : Nat) : (g.setBit f i).mir = g.mir := rfl
@[simp] theorem Gov.setBit_dma (g : Gov) (f : Fld) (i : Nat) : (g.setBit f i).dma = g.dma := rfl
@[simp] theorem Gov.setBit_rcv (g : Gov) (f : Fld) (i : Nat) : (g.setBit f i).rcv = g.rcv := rfl
@[simp] theorem Gov.setBit_store (g : Gov) (f : Fld) (i : Nat) : (g.setBit f i).store = g.store := rfl
@[simp] theorem Gov.setBit_io (g : Gov) (f : Fld) (i : Nat) : (g.setBit f i).io = g.io := rfl
@[simp] theorem Gov.setBit_test (g : Gov) (f : Fld) (i : Nat) : (g.setBit f i).test = g.test := rfl
@[simp] theorem Gov.setBit_bus (g : Gov) (f : Fld) (i : Nat) : (g.setBit f i).bus = g.bus := rfl

/-! ## Gov.clrBit: the register file alone -/

@[simp] theorem Gov.clrBit_aon (g : Gov) (f : Fld) (i : Nat) : (g.clrBit f i).aon = g.aon := rfl
@[simp] theorem Gov.clrBit_porst (g : Gov) (f : Fld) (i : Nat) : (g.clrBit f i).porst = g.porst := rfl
@[simp] theorem Gov.clrBit_gclk (g : Gov) (f : Fld) (i : Nat) : (g.clrBit f i).gclk = g.gclk := rfl
@[simp] theorem Gov.clrBit_cold (g : Gov) (f : Fld) (i : Nat) : (g.clrBit f i).cold = g.cold := rfl
@[simp] theorem Gov.clrBit_gtime (g : Gov) (f : Fld) (i : Nat) : (g.clrBit f i).gtime = g.gtime := rfl
@[simp] theorem Gov.clrBit_fresh (g : Gov) (f : Fld) (i : Nat) : (g.clrBit f i).fresh = g.fresh := rfl
@[simp] theorem Gov.clrBit_kept (g : Gov) (f : Fld) (i : Nat) : (g.clrBit f i).kept = g.kept := rfl
@[simp] theorem Gov.clrBit_clk (g : Gov) (f : Fld) (i : Nat) : (g.clrBit f i).clk = g.clk := rfl
@[simp] theorem Gov.clrBit_brg (g : Gov) (f : Fld) (i : Nat) : (g.clrBit f i).brg = g.brg := rfl
@[simp] theorem Gov.clrBit_recr (g : Gov) (f : Fld) (i : Nat) : (g.clrBit f i).recr = g.recr := rfl
@[simp] theorem Gov.clrBit_rails (g : Gov) (f : Fld) (i : Nat) : (g.clrBit f i).rails = g.rails := rfl
@[simp] theorem Gov.clrBit_phs (g : Gov) (f : Fld) (i : Nat) : (g.clrBit f i).phs = g.phs := rfl
@[simp] theorem Gov.clrBit_convs (g : Gov) (f : Fld) (i : Nat) : (g.clrBit f i).convs = g.convs := rfl
@[simp] theorem Gov.clrBit_probes (g : Gov) (f : Fld) (i : Nat) : (g.clrBit f i).probes = g.probes := rfl
@[simp] theorem Gov.clrBit_calWait (g : Gov) (f : Fld) (i : Nat) : (g.clrBit f i).calWait = g.calWait := rfl
@[simp] theorem Gov.clrBit_st (g : Gov) (f : Fld) (i : Nat) : (g.clrBit f i).st = g.st := rfl
@[simp] theorem Gov.clrBit_pl (g : Gov) (f : Fld) (i : Nat) : (g.clrBit f i).pl = g.pl := rfl
@[simp] theorem Gov.clrBit_th (g : Gov) (f : Fld) (i : Nat) : (g.clrBit f i).th = g.th := rfl
@[simp] theorem Gov.clrBit_ft (g : Gov) (f : Fld) (i : Nat) : (g.clrBit f i).ft = g.ft := rfl
@[simp] theorem Gov.clrBit_hr (g : Gov) (f : Fld) (i : Nat) : (g.clrBit f i).hr = g.hr := rfl
@[simp] theorem Gov.clrBit_dm (g : Gov) (f : Fld) (i : Nat) : (g.clrBit f i).dm = g.dm := rfl
@[simp] theorem Gov.clrBit_mb (g : Gov) (f : Fld) (i : Nat) : (g.clrBit f i).mb = g.mb := rfl
@[simp] theorem Gov.clrBit_cfg (g : Gov) (f : Fld) (i : Nat) : (g.clrBit f i).cfg = g.cfg := rfl
@[simp] theorem Gov.clrBit_mir (g : Gov) (f : Fld) (i : Nat) : (g.clrBit f i).mir = g.mir := rfl
@[simp] theorem Gov.clrBit_dma (g : Gov) (f : Fld) (i : Nat) : (g.clrBit f i).dma = g.dma := rfl
@[simp] theorem Gov.clrBit_rcv (g : Gov) (f : Fld) (i : Nat) : (g.clrBit f i).rcv = g.rcv := rfl
@[simp] theorem Gov.clrBit_store (g : Gov) (f : Fld) (i : Nat) : (g.clrBit f i).store = g.store := rfl
@[simp] theorem Gov.clrBit_io (g : Gov) (f : Fld) (i : Nat) : (g.clrBit f i).io = g.io := rfl
@[simp] theorem Gov.clrBit_test (g : Gov) (f : Fld) (i : Nat) : (g.clrBit f i).test = g.test := rfl
@[simp] theorem Gov.clrBit_bus (g : Gov) (f : Fld) (i : Nat) : (g.clrBit f i).bus = g.bus := rfl

/-! ## Gov.wrB: the register file alone -/

@[simp] theorem Gov.wrB_aon (g : Gov) (f : Fld) (v : Bool) : (g.wrB f v).aon = g.aon := rfl
@[simp] theorem Gov.wrB_porst (g : Gov) (f : Fld) (v : Bool) : (g.wrB f v).porst = g.porst := rfl
@[simp] theorem Gov.wrB_gclk (g : Gov) (f : Fld) (v : Bool) : (g.wrB f v).gclk = g.gclk := rfl
@[simp] theorem Gov.wrB_cold (g : Gov) (f : Fld) (v : Bool) : (g.wrB f v).cold = g.cold := rfl
@[simp] theorem Gov.wrB_gtime (g : Gov) (f : Fld) (v : Bool) : (g.wrB f v).gtime = g.gtime := rfl
@[simp] theorem Gov.wrB_fresh (g : Gov) (f : Fld) (v : Bool) : (g.wrB f v).fresh = g.fresh := rfl
@[simp] theorem Gov.wrB_kept (g : Gov) (f : Fld) (v : Bool) : (g.wrB f v).kept = g.kept := rfl
@[simp] theorem Gov.wrB_clk (g : Gov) (f : Fld) (v : Bool) : (g.wrB f v).clk = g.clk := rfl
@[simp] theorem Gov.wrB_brg (g : Gov) (f : Fld) (v : Bool) : (g.wrB f v).brg = g.brg := rfl
@[simp] theorem Gov.wrB_recr (g : Gov) (f : Fld) (v : Bool) : (g.wrB f v).recr = g.recr := rfl
@[simp] theorem Gov.wrB_rails (g : Gov) (f : Fld) (v : Bool) : (g.wrB f v).rails = g.rails := rfl
@[simp] theorem Gov.wrB_phs (g : Gov) (f : Fld) (v : Bool) : (g.wrB f v).phs = g.phs := rfl
@[simp] theorem Gov.wrB_convs (g : Gov) (f : Fld) (v : Bool) : (g.wrB f v).convs = g.convs := rfl
@[simp] theorem Gov.wrB_probes (g : Gov) (f : Fld) (v : Bool) : (g.wrB f v).probes = g.probes := rfl
@[simp] theorem Gov.wrB_calWait (g : Gov) (f : Fld) (v : Bool) : (g.wrB f v).calWait = g.calWait := rfl
@[simp] theorem Gov.wrB_st (g : Gov) (f : Fld) (v : Bool) : (g.wrB f v).st = g.st := rfl
@[simp] theorem Gov.wrB_pl (g : Gov) (f : Fld) (v : Bool) : (g.wrB f v).pl = g.pl := rfl
@[simp] theorem Gov.wrB_th (g : Gov) (f : Fld) (v : Bool) : (g.wrB f v).th = g.th := rfl
@[simp] theorem Gov.wrB_ft (g : Gov) (f : Fld) (v : Bool) : (g.wrB f v).ft = g.ft := rfl
@[simp] theorem Gov.wrB_hr (g : Gov) (f : Fld) (v : Bool) : (g.wrB f v).hr = g.hr := rfl
@[simp] theorem Gov.wrB_dm (g : Gov) (f : Fld) (v : Bool) : (g.wrB f v).dm = g.dm := rfl
@[simp] theorem Gov.wrB_mb (g : Gov) (f : Fld) (v : Bool) : (g.wrB f v).mb = g.mb := rfl
@[simp] theorem Gov.wrB_cfg (g : Gov) (f : Fld) (v : Bool) : (g.wrB f v).cfg = g.cfg := rfl
@[simp] theorem Gov.wrB_mir (g : Gov) (f : Fld) (v : Bool) : (g.wrB f v).mir = g.mir := rfl
@[simp] theorem Gov.wrB_dma (g : Gov) (f : Fld) (v : Bool) : (g.wrB f v).dma = g.dma := rfl
@[simp] theorem Gov.wrB_rcv (g : Gov) (f : Fld) (v : Bool) : (g.wrB f v).rcv = g.rcv := rfl
@[simp] theorem Gov.wrB_store (g : Gov) (f : Fld) (v : Bool) : (g.wrB f v).store = g.store := rfl
@[simp] theorem Gov.wrB_io (g : Gov) (f : Fld) (v : Bool) : (g.wrB f v).io = g.io := rfl
@[simp] theorem Gov.wrB_test (g : Gov) (f : Fld) (v : Bool) : (g.wrB f v).test = g.test := rfl
@[simp] theorem Gov.wrB_bus (g : Gov) (f : Fld) (v : Bool) : (g.wrB f v).bus = g.bus := rfl

/-! ## Gov.svc: the register file alone -/

@[simp] theorem Gov.svc_aon (g : Gov) (i : Nat) : (g.svc i).aon = g.aon := rfl
@[simp] theorem Gov.svc_porst (g : Gov) (i : Nat) : (g.svc i).porst = g.porst := rfl
@[simp] theorem Gov.svc_gclk (g : Gov) (i : Nat) : (g.svc i).gclk = g.gclk := rfl
@[simp] theorem Gov.svc_cold (g : Gov) (i : Nat) : (g.svc i).cold = g.cold := rfl
@[simp] theorem Gov.svc_gtime (g : Gov) (i : Nat) : (g.svc i).gtime = g.gtime := rfl
@[simp] theorem Gov.svc_fresh (g : Gov) (i : Nat) : (g.svc i).fresh = g.fresh := rfl
@[simp] theorem Gov.svc_kept (g : Gov) (i : Nat) : (g.svc i).kept = g.kept := rfl
@[simp] theorem Gov.svc_clk (g : Gov) (i : Nat) : (g.svc i).clk = g.clk := rfl
@[simp] theorem Gov.svc_brg (g : Gov) (i : Nat) : (g.svc i).brg = g.brg := rfl
@[simp] theorem Gov.svc_recr (g : Gov) (i : Nat) : (g.svc i).recr = g.recr := rfl
@[simp] theorem Gov.svc_rails (g : Gov) (i : Nat) : (g.svc i).rails = g.rails := rfl
@[simp] theorem Gov.svc_phs (g : Gov) (i : Nat) : (g.svc i).phs = g.phs := rfl
@[simp] theorem Gov.svc_convs (g : Gov) (i : Nat) : (g.svc i).convs = g.convs := rfl
@[simp] theorem Gov.svc_probes (g : Gov) (i : Nat) : (g.svc i).probes = g.probes := rfl
@[simp] theorem Gov.svc_calWait (g : Gov) (i : Nat) : (g.svc i).calWait = g.calWait := rfl
@[simp] theorem Gov.svc_st (g : Gov) (i : Nat) : (g.svc i).st = g.st := rfl
@[simp] theorem Gov.svc_pl (g : Gov) (i : Nat) : (g.svc i).pl = g.pl := rfl
@[simp] theorem Gov.svc_th (g : Gov) (i : Nat) : (g.svc i).th = g.th := rfl
@[simp] theorem Gov.svc_ft (g : Gov) (i : Nat) : (g.svc i).ft = g.ft := rfl
@[simp] theorem Gov.svc_hr (g : Gov) (i : Nat) : (g.svc i).hr = g.hr := rfl
@[simp] theorem Gov.svc_dm (g : Gov) (i : Nat) : (g.svc i).dm = g.dm := rfl
@[simp] theorem Gov.svc_mb (g : Gov) (i : Nat) : (g.svc i).mb = g.mb := rfl
@[simp] theorem Gov.svc_cfg (g : Gov) (i : Nat) : (g.svc i).cfg = g.cfg := rfl
@[simp] theorem Gov.svc_mir (g : Gov) (i : Nat) : (g.svc i).mir = g.mir := rfl
@[simp] theorem Gov.svc_dma (g : Gov) (i : Nat) : (g.svc i).dma = g.dma := rfl
@[simp] theorem Gov.svc_rcv (g : Gov) (i : Nat) : (g.svc i).rcv = g.rcv := rfl
@[simp] theorem Gov.svc_store (g : Gov) (i : Nat) : (g.svc i).store = g.store := rfl
@[simp] theorem Gov.svc_io (g : Gov) (i : Nat) : (g.svc i).io = g.io := rfl
@[simp] theorem Gov.svc_test (g : Gov) (i : Nat) : (g.svc i).test = g.test := rfl
@[simp] theorem Gov.svc_bus (g : Gov) (i : Nat) : (g.svc i).bus = g.bus := rfl

/-! ## Events, histogram samples and trace entries: the register file and the recorder -/

theorem Gov.evt_eq (g : Gov) (e : Evt) : ∃ r q, g.evt e = { g with regs := r, recr := q } := by
  unfold Gov.evt; split
  · exact ⟨_, _, rfl⟩
  · exact ⟨_, _, rfl⟩
theorem Gov.evp_eq (g : Gov) (port code a b c d : Nat) :
    ∃ r q, g.evp port code a b c d = { g with regs := r, recr := q } := g.evt_eq _
theorem Gov.ev_eq (g : Gov) (code a b c d : Nat) : ∃ r q, g.ev code a b c d = { g with regs := r, recr := q } :=
  g.evt_eq _
theorem Gov.flushHist_eq (g : Gov) (h : Nat) : ∃ r q, g.flushHist h = { g with regs := r, recr := q } := by
  unfold Gov.flushHist; simp only; split
  · exact ⟨g.regs, g.recr, rfl⟩
  · split
    · exact ⟨g.regs, g.recr, rfl⟩
    · exact ⟨_, _, rfl⟩
theorem Gov.histo_eq (g : Gov) (h : Nat) (v : Int) : ∃ r q, g.histo h v = { g with regs := r, recr := q } := by
  unfold Gov.histo; split
  · simp only; split
    · obtain ⟨r, q, e⟩ := Gov.flushHist_eq (g.setHist h _) h
      exact ⟨r, q, e⟩
    · exact ⟨_, _, rfl⟩
  · exact ⟨g.regs, g.recr, rfl⟩
theorem Gov.traceAt_eq (g : Gov) (b kind t : Nat) (capt : Bool) (a c d e : Nat) :
    ∃ r q, g.traceAt b kind t capt a c d e = { g with regs := r, recr := q } := by
  unfold Gov.traceAt; split
  · simp only; split
    · exact ⟨_, _, rfl⟩
    · exact ⟨_, _, rfl⟩
  · exact ⟨g.regs, g.recr, rfl⟩
theorem Gov.trace_eq (g : Gov) (b kind a c d e : Nat) : ∃ r q, g.trace b kind a c d e = { g with regs := r, recr := q } :=
  g.traceAt_eq ..

@[simp] theorem Gov.evt_aon (g : Gov) (e : Evt) : (g.evt e).aon = g.aon := by
  obtain ⟨r, q, h⟩ := g.evt_eq e; rw [h]
@[simp] theorem Gov.evt_porst (g : Gov) (e : Evt) : (g.evt e).porst = g.porst := by
  obtain ⟨r, q, h⟩ := g.evt_eq e; rw [h]
@[simp] theorem Gov.evt_gclk (g : Gov) (e : Evt) : (g.evt e).gclk = g.gclk := by
  obtain ⟨r, q, h⟩ := g.evt_eq e; rw [h]
@[simp] theorem Gov.evt_cold (g : Gov) (e : Evt) : (g.evt e).cold = g.cold := by
  obtain ⟨r, q, h⟩ := g.evt_eq e; rw [h]
@[simp] theorem Gov.evt_gtime (g : Gov) (e : Evt) : (g.evt e).gtime = g.gtime := by
  obtain ⟨r, q, h⟩ := g.evt_eq e; rw [h]
@[simp] theorem Gov.evt_fresh (g : Gov) (e : Evt) : (g.evt e).fresh = g.fresh := by
  obtain ⟨r, q, h⟩ := g.evt_eq e; rw [h]
@[simp] theorem Gov.evt_kept (g : Gov) (e : Evt) : (g.evt e).kept = g.kept := by
  obtain ⟨r, q, h⟩ := g.evt_eq e; rw [h]
@[simp] theorem Gov.evt_clk (g : Gov) (e : Evt) : (g.evt e).clk = g.clk := by
  obtain ⟨r, q, h⟩ := g.evt_eq e; rw [h]
@[simp] theorem Gov.evt_brg (g : Gov) (e : Evt) : (g.evt e).brg = g.brg := by
  obtain ⟨r, q, h⟩ := g.evt_eq e; rw [h]
@[simp] theorem Gov.evt_rails (g : Gov) (e : Evt) : (g.evt e).rails = g.rails := by
  obtain ⟨r, q, h⟩ := g.evt_eq e; rw [h]
@[simp] theorem Gov.evt_phs (g : Gov) (e : Evt) : (g.evt e).phs = g.phs := by
  obtain ⟨r, q, h⟩ := g.evt_eq e; rw [h]
@[simp] theorem Gov.evt_convs (g : Gov) (e : Evt) : (g.evt e).convs = g.convs := by
  obtain ⟨r, q, h⟩ := g.evt_eq e; rw [h]
@[simp] theorem Gov.evt_probes (g : Gov) (e : Evt) : (g.evt e).probes = g.probes := by
  obtain ⟨r, q, h⟩ := g.evt_eq e; rw [h]
@[simp] theorem Gov.evt_calWait (g : Gov) (e : Evt) : (g.evt e).calWait = g.calWait := by
  obtain ⟨r, q, h⟩ := g.evt_eq e; rw [h]
@[simp] theorem Gov.evt_st (g : Gov) (e : Evt) : (g.evt e).st = g.st := by
  obtain ⟨r, q, h⟩ := g.evt_eq e; rw [h]
@[simp] theorem Gov.evt_pl (g : Gov) (e : Evt) : (g.evt e).pl = g.pl := by
  obtain ⟨r, q, h⟩ := g.evt_eq e; rw [h]
@[simp] theorem Gov.evt_th (g : Gov) (e : Evt) : (g.evt e).th = g.th := by
  obtain ⟨r, q, h⟩ := g.evt_eq e; rw [h]
@[simp] theorem Gov.evt_ft (g : Gov) (e : Evt) : (g.evt e).ft = g.ft := by
  obtain ⟨r, q, h⟩ := g.evt_eq e; rw [h]
@[simp] theorem Gov.evt_hr (g : Gov) (e : Evt) : (g.evt e).hr = g.hr := by
  obtain ⟨r, q, h⟩ := g.evt_eq e; rw [h]
@[simp] theorem Gov.evt_dm (g : Gov) (e : Evt) : (g.evt e).dm = g.dm := by
  obtain ⟨r, q, h⟩ := g.evt_eq e; rw [h]
@[simp] theorem Gov.evt_mb (g : Gov) (e : Evt) : (g.evt e).mb = g.mb := by
  obtain ⟨r, q, h⟩ := g.evt_eq e; rw [h]
@[simp] theorem Gov.evt_cfg (g : Gov) (e : Evt) : (g.evt e).cfg = g.cfg := by
  obtain ⟨r, q, h⟩ := g.evt_eq e; rw [h]
@[simp] theorem Gov.evt_mir (g : Gov) (e : Evt) : (g.evt e).mir = g.mir := by
  obtain ⟨r, q, h⟩ := g.evt_eq e; rw [h]
@[simp] theorem Gov.evt_dma (g : Gov) (e : Evt) : (g.evt e).dma = g.dma := by
  obtain ⟨r, q, h⟩ := g.evt_eq e; rw [h]
@[simp] theorem Gov.evt_rcv (g : Gov) (e : Evt) : (g.evt e).rcv = g.rcv := by
  obtain ⟨r, q, h⟩ := g.evt_eq e; rw [h]
@[simp] theorem Gov.evt_store (g : Gov) (e : Evt) : (g.evt e).store = g.store := by
  obtain ⟨r, q, h⟩ := g.evt_eq e; rw [h]
@[simp] theorem Gov.evt_io (g : Gov) (e : Evt) : (g.evt e).io = g.io := by
  obtain ⟨r, q, h⟩ := g.evt_eq e; rw [h]
@[simp] theorem Gov.evt_test (g : Gov) (e : Evt) : (g.evt e).test = g.test := by
  obtain ⟨r, q, h⟩ := g.evt_eq e; rw [h]
@[simp] theorem Gov.evt_bus (g : Gov) (e : Evt) : (g.evt e).bus = g.bus := by
  obtain ⟨r, q, h⟩ := g.evt_eq e; rw [h]

@[simp] theorem Gov.evp_aon (g : Gov) (port code a b c d : Nat) : (g.evp port code a b c d).aon = g.aon := by
  obtain ⟨r, q, h⟩ := g.evp_eq port code a b c d; rw [h]
@[simp] theorem Gov.evp_porst (g : Gov) (port code a b c d : Nat) : (g.evp port code a b c d).porst = g.porst := by
  obtain ⟨r, q, h⟩ := g.evp_eq port code a b c d; rw [h]
@[simp] theorem Gov.evp_gclk (g : Gov) (port code a b c d : Nat) : (g.evp port code a b c d).gclk = g.gclk := by
  obtain ⟨r, q, h⟩ := g.evp_eq port code a b c d; rw [h]
@[simp] theorem Gov.evp_cold (g : Gov) (port code a b c d : Nat) : (g.evp port code a b c d).cold = g.cold := by
  obtain ⟨r, q, h⟩ := g.evp_eq port code a b c d; rw [h]
@[simp] theorem Gov.evp_gtime (g : Gov) (port code a b c d : Nat) : (g.evp port code a b c d).gtime = g.gtime := by
  obtain ⟨r, q, h⟩ := g.evp_eq port code a b c d; rw [h]
@[simp] theorem Gov.evp_fresh (g : Gov) (port code a b c d : Nat) : (g.evp port code a b c d).fresh = g.fresh := by
  obtain ⟨r, q, h⟩ := g.evp_eq port code a b c d; rw [h]
@[simp] theorem Gov.evp_kept (g : Gov) (port code a b c d : Nat) : (g.evp port code a b c d).kept = g.kept := by
  obtain ⟨r, q, h⟩ := g.evp_eq port code a b c d; rw [h]
@[simp] theorem Gov.evp_clk (g : Gov) (port code a b c d : Nat) : (g.evp port code a b c d).clk = g.clk := by
  obtain ⟨r, q, h⟩ := g.evp_eq port code a b c d; rw [h]
@[simp] theorem Gov.evp_brg (g : Gov) (port code a b c d : Nat) : (g.evp port code a b c d).brg = g.brg := by
  obtain ⟨r, q, h⟩ := g.evp_eq port code a b c d; rw [h]
@[simp] theorem Gov.evp_rails (g : Gov) (port code a b c d : Nat) : (g.evp port code a b c d).rails = g.rails := by
  obtain ⟨r, q, h⟩ := g.evp_eq port code a b c d; rw [h]
@[simp] theorem Gov.evp_phs (g : Gov) (port code a b c d : Nat) : (g.evp port code a b c d).phs = g.phs := by
  obtain ⟨r, q, h⟩ := g.evp_eq port code a b c d; rw [h]
@[simp] theorem Gov.evp_convs (g : Gov) (port code a b c d : Nat) : (g.evp port code a b c d).convs = g.convs := by
  obtain ⟨r, q, h⟩ := g.evp_eq port code a b c d; rw [h]
@[simp] theorem Gov.evp_probes (g : Gov) (port code a b c d : Nat) : (g.evp port code a b c d).probes = g.probes := by
  obtain ⟨r, q, h⟩ := g.evp_eq port code a b c d; rw [h]
@[simp] theorem Gov.evp_calWait (g : Gov) (port code a b c d : Nat) : (g.evp port code a b c d).calWait = g.calWait := by
  obtain ⟨r, q, h⟩ := g.evp_eq port code a b c d; rw [h]
@[simp] theorem Gov.evp_st (g : Gov) (port code a b c d : Nat) : (g.evp port code a b c d).st = g.st := by
  obtain ⟨r, q, h⟩ := g.evp_eq port code a b c d; rw [h]
@[simp] theorem Gov.evp_pl (g : Gov) (port code a b c d : Nat) : (g.evp port code a b c d).pl = g.pl := by
  obtain ⟨r, q, h⟩ := g.evp_eq port code a b c d; rw [h]
@[simp] theorem Gov.evp_th (g : Gov) (port code a b c d : Nat) : (g.evp port code a b c d).th = g.th := by
  obtain ⟨r, q, h⟩ := g.evp_eq port code a b c d; rw [h]
@[simp] theorem Gov.evp_ft (g : Gov) (port code a b c d : Nat) : (g.evp port code a b c d).ft = g.ft := by
  obtain ⟨r, q, h⟩ := g.evp_eq port code a b c d; rw [h]
@[simp] theorem Gov.evp_hr (g : Gov) (port code a b c d : Nat) : (g.evp port code a b c d).hr = g.hr := by
  obtain ⟨r, q, h⟩ := g.evp_eq port code a b c d; rw [h]
@[simp] theorem Gov.evp_dm (g : Gov) (port code a b c d : Nat) : (g.evp port code a b c d).dm = g.dm := by
  obtain ⟨r, q, h⟩ := g.evp_eq port code a b c d; rw [h]
@[simp] theorem Gov.evp_mb (g : Gov) (port code a b c d : Nat) : (g.evp port code a b c d).mb = g.mb := by
  obtain ⟨r, q, h⟩ := g.evp_eq port code a b c d; rw [h]
@[simp] theorem Gov.evp_cfg (g : Gov) (port code a b c d : Nat) : (g.evp port code a b c d).cfg = g.cfg := by
  obtain ⟨r, q, h⟩ := g.evp_eq port code a b c d; rw [h]
@[simp] theorem Gov.evp_mir (g : Gov) (port code a b c d : Nat) : (g.evp port code a b c d).mir = g.mir := by
  obtain ⟨r, q, h⟩ := g.evp_eq port code a b c d; rw [h]
@[simp] theorem Gov.evp_dma (g : Gov) (port code a b c d : Nat) : (g.evp port code a b c d).dma = g.dma := by
  obtain ⟨r, q, h⟩ := g.evp_eq port code a b c d; rw [h]
@[simp] theorem Gov.evp_rcv (g : Gov) (port code a b c d : Nat) : (g.evp port code a b c d).rcv = g.rcv := by
  obtain ⟨r, q, h⟩ := g.evp_eq port code a b c d; rw [h]
@[simp] theorem Gov.evp_store (g : Gov) (port code a b c d : Nat) : (g.evp port code a b c d).store = g.store := by
  obtain ⟨r, q, h⟩ := g.evp_eq port code a b c d; rw [h]
@[simp] theorem Gov.evp_io (g : Gov) (port code a b c d : Nat) : (g.evp port code a b c d).io = g.io := by
  obtain ⟨r, q, h⟩ := g.evp_eq port code a b c d; rw [h]
@[simp] theorem Gov.evp_test (g : Gov) (port code a b c d : Nat) : (g.evp port code a b c d).test = g.test := by
  obtain ⟨r, q, h⟩ := g.evp_eq port code a b c d; rw [h]
@[simp] theorem Gov.evp_bus (g : Gov) (port code a b c d : Nat) : (g.evp port code a b c d).bus = g.bus := by
  obtain ⟨r, q, h⟩ := g.evp_eq port code a b c d; rw [h]

@[simp] theorem Gov.ev_aon (g : Gov) (code a b c d : Nat) : (g.ev code a b c d).aon = g.aon := by
  obtain ⟨r, q, h⟩ := g.ev_eq code a b c d; rw [h]
@[simp] theorem Gov.ev_porst (g : Gov) (code a b c d : Nat) : (g.ev code a b c d).porst = g.porst := by
  obtain ⟨r, q, h⟩ := g.ev_eq code a b c d; rw [h]
@[simp] theorem Gov.ev_gclk (g : Gov) (code a b c d : Nat) : (g.ev code a b c d).gclk = g.gclk := by
  obtain ⟨r, q, h⟩ := g.ev_eq code a b c d; rw [h]
@[simp] theorem Gov.ev_cold (g : Gov) (code a b c d : Nat) : (g.ev code a b c d).cold = g.cold := by
  obtain ⟨r, q, h⟩ := g.ev_eq code a b c d; rw [h]
@[simp] theorem Gov.ev_gtime (g : Gov) (code a b c d : Nat) : (g.ev code a b c d).gtime = g.gtime := by
  obtain ⟨r, q, h⟩ := g.ev_eq code a b c d; rw [h]
@[simp] theorem Gov.ev_fresh (g : Gov) (code a b c d : Nat) : (g.ev code a b c d).fresh = g.fresh := by
  obtain ⟨r, q, h⟩ := g.ev_eq code a b c d; rw [h]
@[simp] theorem Gov.ev_kept (g : Gov) (code a b c d : Nat) : (g.ev code a b c d).kept = g.kept := by
  obtain ⟨r, q, h⟩ := g.ev_eq code a b c d; rw [h]
@[simp] theorem Gov.ev_clk (g : Gov) (code a b c d : Nat) : (g.ev code a b c d).clk = g.clk := by
  obtain ⟨r, q, h⟩ := g.ev_eq code a b c d; rw [h]
@[simp] theorem Gov.ev_brg (g : Gov) (code a b c d : Nat) : (g.ev code a b c d).brg = g.brg := by
  obtain ⟨r, q, h⟩ := g.ev_eq code a b c d; rw [h]
@[simp] theorem Gov.ev_rails (g : Gov) (code a b c d : Nat) : (g.ev code a b c d).rails = g.rails := by
  obtain ⟨r, q, h⟩ := g.ev_eq code a b c d; rw [h]
@[simp] theorem Gov.ev_phs (g : Gov) (code a b c d : Nat) : (g.ev code a b c d).phs = g.phs := by
  obtain ⟨r, q, h⟩ := g.ev_eq code a b c d; rw [h]
@[simp] theorem Gov.ev_convs (g : Gov) (code a b c d : Nat) : (g.ev code a b c d).convs = g.convs := by
  obtain ⟨r, q, h⟩ := g.ev_eq code a b c d; rw [h]
@[simp] theorem Gov.ev_probes (g : Gov) (code a b c d : Nat) : (g.ev code a b c d).probes = g.probes := by
  obtain ⟨r, q, h⟩ := g.ev_eq code a b c d; rw [h]
@[simp] theorem Gov.ev_calWait (g : Gov) (code a b c d : Nat) : (g.ev code a b c d).calWait = g.calWait := by
  obtain ⟨r, q, h⟩ := g.ev_eq code a b c d; rw [h]
@[simp] theorem Gov.ev_st (g : Gov) (code a b c d : Nat) : (g.ev code a b c d).st = g.st := by
  obtain ⟨r, q, h⟩ := g.ev_eq code a b c d; rw [h]
@[simp] theorem Gov.ev_pl (g : Gov) (code a b c d : Nat) : (g.ev code a b c d).pl = g.pl := by
  obtain ⟨r, q, h⟩ := g.ev_eq code a b c d; rw [h]
@[simp] theorem Gov.ev_th (g : Gov) (code a b c d : Nat) : (g.ev code a b c d).th = g.th := by
  obtain ⟨r, q, h⟩ := g.ev_eq code a b c d; rw [h]
@[simp] theorem Gov.ev_ft (g : Gov) (code a b c d : Nat) : (g.ev code a b c d).ft = g.ft := by
  obtain ⟨r, q, h⟩ := g.ev_eq code a b c d; rw [h]
@[simp] theorem Gov.ev_hr (g : Gov) (code a b c d : Nat) : (g.ev code a b c d).hr = g.hr := by
  obtain ⟨r, q, h⟩ := g.ev_eq code a b c d; rw [h]
@[simp] theorem Gov.ev_dm (g : Gov) (code a b c d : Nat) : (g.ev code a b c d).dm = g.dm := by
  obtain ⟨r, q, h⟩ := g.ev_eq code a b c d; rw [h]
@[simp] theorem Gov.ev_mb (g : Gov) (code a b c d : Nat) : (g.ev code a b c d).mb = g.mb := by
  obtain ⟨r, q, h⟩ := g.ev_eq code a b c d; rw [h]
@[simp] theorem Gov.ev_cfg (g : Gov) (code a b c d : Nat) : (g.ev code a b c d).cfg = g.cfg := by
  obtain ⟨r, q, h⟩ := g.ev_eq code a b c d; rw [h]
@[simp] theorem Gov.ev_mir (g : Gov) (code a b c d : Nat) : (g.ev code a b c d).mir = g.mir := by
  obtain ⟨r, q, h⟩ := g.ev_eq code a b c d; rw [h]
@[simp] theorem Gov.ev_dma (g : Gov) (code a b c d : Nat) : (g.ev code a b c d).dma = g.dma := by
  obtain ⟨r, q, h⟩ := g.ev_eq code a b c d; rw [h]
@[simp] theorem Gov.ev_rcv (g : Gov) (code a b c d : Nat) : (g.ev code a b c d).rcv = g.rcv := by
  obtain ⟨r, q, h⟩ := g.ev_eq code a b c d; rw [h]
@[simp] theorem Gov.ev_store (g : Gov) (code a b c d : Nat) : (g.ev code a b c d).store = g.store := by
  obtain ⟨r, q, h⟩ := g.ev_eq code a b c d; rw [h]
@[simp] theorem Gov.ev_io (g : Gov) (code a b c d : Nat) : (g.ev code a b c d).io = g.io := by
  obtain ⟨r, q, h⟩ := g.ev_eq code a b c d; rw [h]
@[simp] theorem Gov.ev_test (g : Gov) (code a b c d : Nat) : (g.ev code a b c d).test = g.test := by
  obtain ⟨r, q, h⟩ := g.ev_eq code a b c d; rw [h]
@[simp] theorem Gov.ev_bus (g : Gov) (code a b c d : Nat) : (g.ev code a b c d).bus = g.bus := by
  obtain ⟨r, q, h⟩ := g.ev_eq code a b c d; rw [h]

@[simp] theorem Gov.flushHist_aon (g : Gov) (h : Nat) : (g.flushHist h).aon = g.aon := by
  obtain ⟨r, q, h⟩ := g.flushHist_eq h; rw [h]
@[simp] theorem Gov.flushHist_porst (g : Gov) (h : Nat) : (g.flushHist h).porst = g.porst := by
  obtain ⟨r, q, h⟩ := g.flushHist_eq h; rw [h]
@[simp] theorem Gov.flushHist_gclk (g : Gov) (h : Nat) : (g.flushHist h).gclk = g.gclk := by
  obtain ⟨r, q, h⟩ := g.flushHist_eq h; rw [h]
@[simp] theorem Gov.flushHist_cold (g : Gov) (h : Nat) : (g.flushHist h).cold = g.cold := by
  obtain ⟨r, q, h⟩ := g.flushHist_eq h; rw [h]
@[simp] theorem Gov.flushHist_gtime (g : Gov) (h : Nat) : (g.flushHist h).gtime = g.gtime := by
  obtain ⟨r, q, h⟩ := g.flushHist_eq h; rw [h]
@[simp] theorem Gov.flushHist_fresh (g : Gov) (h : Nat) : (g.flushHist h).fresh = g.fresh := by
  obtain ⟨r, q, h⟩ := g.flushHist_eq h; rw [h]
@[simp] theorem Gov.flushHist_kept (g : Gov) (h : Nat) : (g.flushHist h).kept = g.kept := by
  obtain ⟨r, q, h⟩ := g.flushHist_eq h; rw [h]
@[simp] theorem Gov.flushHist_clk (g : Gov) (h : Nat) : (g.flushHist h).clk = g.clk := by
  obtain ⟨r, q, h⟩ := g.flushHist_eq h; rw [h]
@[simp] theorem Gov.flushHist_brg (g : Gov) (h : Nat) : (g.flushHist h).brg = g.brg := by
  obtain ⟨r, q, h⟩ := g.flushHist_eq h; rw [h]
@[simp] theorem Gov.flushHist_rails (g : Gov) (h : Nat) : (g.flushHist h).rails = g.rails := by
  obtain ⟨r, q, h⟩ := g.flushHist_eq h; rw [h]
@[simp] theorem Gov.flushHist_phs (g : Gov) (h : Nat) : (g.flushHist h).phs = g.phs := by
  obtain ⟨r, q, h⟩ := g.flushHist_eq h; rw [h]
@[simp] theorem Gov.flushHist_convs (g : Gov) (h : Nat) : (g.flushHist h).convs = g.convs := by
  obtain ⟨r, q, h⟩ := g.flushHist_eq h; rw [h]
@[simp] theorem Gov.flushHist_probes (g : Gov) (h : Nat) : (g.flushHist h).probes = g.probes := by
  obtain ⟨r, q, h⟩ := g.flushHist_eq h; rw [h]
@[simp] theorem Gov.flushHist_calWait (g : Gov) (h : Nat) : (g.flushHist h).calWait = g.calWait := by
  obtain ⟨r, q, h⟩ := g.flushHist_eq h; rw [h]
@[simp] theorem Gov.flushHist_st (g : Gov) (h : Nat) : (g.flushHist h).st = g.st := by
  obtain ⟨r, q, h⟩ := g.flushHist_eq h; rw [h]
@[simp] theorem Gov.flushHist_pl (g : Gov) (h : Nat) : (g.flushHist h).pl = g.pl := by
  obtain ⟨r, q, h⟩ := g.flushHist_eq h; rw [h]
@[simp] theorem Gov.flushHist_th (g : Gov) (h : Nat) : (g.flushHist h).th = g.th := by
  obtain ⟨r, q, h⟩ := g.flushHist_eq h; rw [h]
@[simp] theorem Gov.flushHist_ft (g : Gov) (h : Nat) : (g.flushHist h).ft = g.ft := by
  obtain ⟨r, q, h⟩ := g.flushHist_eq h; rw [h]
@[simp] theorem Gov.flushHist_hr (g : Gov) (h : Nat) : (g.flushHist h).hr = g.hr := by
  obtain ⟨r, q, h⟩ := g.flushHist_eq h; rw [h]
@[simp] theorem Gov.flushHist_dm (g : Gov) (h : Nat) : (g.flushHist h).dm = g.dm := by
  obtain ⟨r, q, h⟩ := g.flushHist_eq h; rw [h]
@[simp] theorem Gov.flushHist_mb (g : Gov) (h : Nat) : (g.flushHist h).mb = g.mb := by
  obtain ⟨r, q, h⟩ := g.flushHist_eq h; rw [h]
@[simp] theorem Gov.flushHist_cfg (g : Gov) (h : Nat) : (g.flushHist h).cfg = g.cfg := by
  obtain ⟨r, q, h⟩ := g.flushHist_eq h; rw [h]
@[simp] theorem Gov.flushHist_mir (g : Gov) (h : Nat) : (g.flushHist h).mir = g.mir := by
  obtain ⟨r, q, h⟩ := g.flushHist_eq h; rw [h]
@[simp] theorem Gov.flushHist_dma (g : Gov) (h : Nat) : (g.flushHist h).dma = g.dma := by
  obtain ⟨r, q, h⟩ := g.flushHist_eq h; rw [h]
@[simp] theorem Gov.flushHist_rcv (g : Gov) (h : Nat) : (g.flushHist h).rcv = g.rcv := by
  obtain ⟨r, q, h⟩ := g.flushHist_eq h; rw [h]
@[simp] theorem Gov.flushHist_store (g : Gov) (h : Nat) : (g.flushHist h).store = g.store := by
  obtain ⟨r, q, h⟩ := g.flushHist_eq h; rw [h]
@[simp] theorem Gov.flushHist_io (g : Gov) (h : Nat) : (g.flushHist h).io = g.io := by
  obtain ⟨r, q, h⟩ := g.flushHist_eq h; rw [h]
@[simp] theorem Gov.flushHist_test (g : Gov) (h : Nat) : (g.flushHist h).test = g.test := by
  obtain ⟨r, q, h⟩ := g.flushHist_eq h; rw [h]
@[simp] theorem Gov.flushHist_bus (g : Gov) (h : Nat) : (g.flushHist h).bus = g.bus := by
  obtain ⟨r, q, h⟩ := g.flushHist_eq h; rw [h]

@[simp] theorem Gov.histo_aon (g : Gov) (h : Nat) (v : Int) : (g.histo h v).aon = g.aon := by
  obtain ⟨r, q, h⟩ := g.histo_eq h v; rw [h]
@[simp] theorem Gov.histo_porst (g : Gov) (h : Nat) (v : Int) : (g.histo h v).porst = g.porst := by
  obtain ⟨r, q, h⟩ := g.histo_eq h v; rw [h]
@[simp] theorem Gov.histo_gclk (g : Gov) (h : Nat) (v : Int) : (g.histo h v).gclk = g.gclk := by
  obtain ⟨r, q, h⟩ := g.histo_eq h v; rw [h]
@[simp] theorem Gov.histo_cold (g : Gov) (h : Nat) (v : Int) : (g.histo h v).cold = g.cold := by
  obtain ⟨r, q, h⟩ := g.histo_eq h v; rw [h]
@[simp] theorem Gov.histo_gtime (g : Gov) (h : Nat) (v : Int) : (g.histo h v).gtime = g.gtime := by
  obtain ⟨r, q, h⟩ := g.histo_eq h v; rw [h]
@[simp] theorem Gov.histo_fresh (g : Gov) (h : Nat) (v : Int) : (g.histo h v).fresh = g.fresh := by
  obtain ⟨r, q, h⟩ := g.histo_eq h v; rw [h]
@[simp] theorem Gov.histo_kept (g : Gov) (h : Nat) (v : Int) : (g.histo h v).kept = g.kept := by
  obtain ⟨r, q, h⟩ := g.histo_eq h v; rw [h]
@[simp] theorem Gov.histo_clk (g : Gov) (h : Nat) (v : Int) : (g.histo h v).clk = g.clk := by
  obtain ⟨r, q, h⟩ := g.histo_eq h v; rw [h]
@[simp] theorem Gov.histo_brg (g : Gov) (h : Nat) (v : Int) : (g.histo h v).brg = g.brg := by
  obtain ⟨r, q, h⟩ := g.histo_eq h v; rw [h]
@[simp] theorem Gov.histo_rails (g : Gov) (h : Nat) (v : Int) : (g.histo h v).rails = g.rails := by
  obtain ⟨r, q, h⟩ := g.histo_eq h v; rw [h]
@[simp] theorem Gov.histo_phs (g : Gov) (h : Nat) (v : Int) : (g.histo h v).phs = g.phs := by
  obtain ⟨r, q, h⟩ := g.histo_eq h v; rw [h]
@[simp] theorem Gov.histo_convs (g : Gov) (h : Nat) (v : Int) : (g.histo h v).convs = g.convs := by
  obtain ⟨r, q, h⟩ := g.histo_eq h v; rw [h]
@[simp] theorem Gov.histo_probes (g : Gov) (h : Nat) (v : Int) : (g.histo h v).probes = g.probes := by
  obtain ⟨r, q, h⟩ := g.histo_eq h v; rw [h]
@[simp] theorem Gov.histo_calWait (g : Gov) (h : Nat) (v : Int) : (g.histo h v).calWait = g.calWait := by
  obtain ⟨r, q, h⟩ := g.histo_eq h v; rw [h]
@[simp] theorem Gov.histo_st (g : Gov) (h : Nat) (v : Int) : (g.histo h v).st = g.st := by
  obtain ⟨r, q, h⟩ := g.histo_eq h v; rw [h]
@[simp] theorem Gov.histo_pl (g : Gov) (h : Nat) (v : Int) : (g.histo h v).pl = g.pl := by
  obtain ⟨r, q, h⟩ := g.histo_eq h v; rw [h]
@[simp] theorem Gov.histo_th (g : Gov) (h : Nat) (v : Int) : (g.histo h v).th = g.th := by
  obtain ⟨r, q, h⟩ := g.histo_eq h v; rw [h]
@[simp] theorem Gov.histo_ft (g : Gov) (h : Nat) (v : Int) : (g.histo h v).ft = g.ft := by
  obtain ⟨r, q, h⟩ := g.histo_eq h v; rw [h]
@[simp] theorem Gov.histo_hr (g : Gov) (h : Nat) (v : Int) : (g.histo h v).hr = g.hr := by
  obtain ⟨r, q, h⟩ := g.histo_eq h v; rw [h]
@[simp] theorem Gov.histo_dm (g : Gov) (h : Nat) (v : Int) : (g.histo h v).dm = g.dm := by
  obtain ⟨r, q, h⟩ := g.histo_eq h v; rw [h]
@[simp] theorem Gov.histo_mb (g : Gov) (h : Nat) (v : Int) : (g.histo h v).mb = g.mb := by
  obtain ⟨r, q, h⟩ := g.histo_eq h v; rw [h]
@[simp] theorem Gov.histo_cfg (g : Gov) (h : Nat) (v : Int) : (g.histo h v).cfg = g.cfg := by
  obtain ⟨r, q, h⟩ := g.histo_eq h v; rw [h]
@[simp] theorem Gov.histo_mir (g : Gov) (h : Nat) (v : Int) : (g.histo h v).mir = g.mir := by
  obtain ⟨r, q, h⟩ := g.histo_eq h v; rw [h]
@[simp] theorem Gov.histo_dma (g : Gov) (h : Nat) (v : Int) : (g.histo h v).dma = g.dma := by
  obtain ⟨r, q, h⟩ := g.histo_eq h v; rw [h]
@[simp] theorem Gov.histo_rcv (g : Gov) (h : Nat) (v : Int) : (g.histo h v).rcv = g.rcv := by
  obtain ⟨r, q, h⟩ := g.histo_eq h v; rw [h]
@[simp] theorem Gov.histo_store (g : Gov) (h : Nat) (v : Int) : (g.histo h v).store = g.store := by
  obtain ⟨r, q, h⟩ := g.histo_eq h v; rw [h]
@[simp] theorem Gov.histo_io (g : Gov) (h : Nat) (v : Int) : (g.histo h v).io = g.io := by
  obtain ⟨r, q, h⟩ := g.histo_eq h v; rw [h]
@[simp] theorem Gov.histo_test (g : Gov) (h : Nat) (v : Int) : (g.histo h v).test = g.test := by
  obtain ⟨r, q, h⟩ := g.histo_eq h v; rw [h]
@[simp] theorem Gov.histo_bus (g : Gov) (h : Nat) (v : Int) : (g.histo h v).bus = g.bus := by
  obtain ⟨r, q, h⟩ := g.histo_eq h v; rw [h]

@[simp] theorem Gov.traceAt_aon (g : Gov) (b kind t : Nat) (capt : Bool) (a c d e : Nat) : (g.traceAt b kind t capt a c d e).aon = g.aon := by
  obtain ⟨r, q, h⟩ := g.traceAt_eq b kind t capt a c d e; rw [h]
@[simp] theorem Gov.traceAt_porst (g : Gov) (b kind t : Nat) (capt : Bool) (a c d e : Nat) : (g.traceAt b kind t capt a c d e).porst = g.porst := by
  obtain ⟨r, q, h⟩ := g.traceAt_eq b kind t capt a c d e; rw [h]
@[simp] theorem Gov.traceAt_gclk (g : Gov) (b kind t : Nat) (capt : Bool) (a c d e : Nat) : (g.traceAt b kind t capt a c d e).gclk = g.gclk := by
  obtain ⟨r, q, h⟩ := g.traceAt_eq b kind t capt a c d e; rw [h]
@[simp] theorem Gov.traceAt_cold (g : Gov) (b kind t : Nat) (capt : Bool) (a c d e : Nat) : (g.traceAt b kind t capt a c d e).cold = g.cold := by
  obtain ⟨r, q, h⟩ := g.traceAt_eq b kind t capt a c d e; rw [h]
@[simp] theorem Gov.traceAt_gtime (g : Gov) (b kind t : Nat) (capt : Bool) (a c d e : Nat) : (g.traceAt b kind t capt a c d e).gtime = g.gtime := by
  obtain ⟨r, q, h⟩ := g.traceAt_eq b kind t capt a c d e; rw [h]
@[simp] theorem Gov.traceAt_fresh (g : Gov) (b kind t : Nat) (capt : Bool) (a c d e : Nat) : (g.traceAt b kind t capt a c d e).fresh = g.fresh := by
  obtain ⟨r, q, h⟩ := g.traceAt_eq b kind t capt a c d e; rw [h]
@[simp] theorem Gov.traceAt_kept (g : Gov) (b kind t : Nat) (capt : Bool) (a c d e : Nat) : (g.traceAt b kind t capt a c d e).kept = g.kept := by
  obtain ⟨r, q, h⟩ := g.traceAt_eq b kind t capt a c d e; rw [h]
@[simp] theorem Gov.traceAt_clk (g : Gov) (b kind t : Nat) (capt : Bool) (a c d e : Nat) : (g.traceAt b kind t capt a c d e).clk = g.clk := by
  obtain ⟨r, q, h⟩ := g.traceAt_eq b kind t capt a c d e; rw [h]
@[simp] theorem Gov.traceAt_brg (g : Gov) (b kind t : Nat) (capt : Bool) (a c d e : Nat) : (g.traceAt b kind t capt a c d e).brg = g.brg := by
  obtain ⟨r, q, h⟩ := g.traceAt_eq b kind t capt a c d e; rw [h]
@[simp] theorem Gov.traceAt_rails (g : Gov) (b kind t : Nat) (capt : Bool) (a c d e : Nat) : (g.traceAt b kind t capt a c d e).rails = g.rails := by
  obtain ⟨r, q, h⟩ := g.traceAt_eq b kind t capt a c d e; rw [h]
@[simp] theorem Gov.traceAt_phs (g : Gov) (b kind t : Nat) (capt : Bool) (a c d e : Nat) : (g.traceAt b kind t capt a c d e).phs = g.phs := by
  obtain ⟨r, q, h⟩ := g.traceAt_eq b kind t capt a c d e; rw [h]
@[simp] theorem Gov.traceAt_convs (g : Gov) (b kind t : Nat) (capt : Bool) (a c d e : Nat) : (g.traceAt b kind t capt a c d e).convs = g.convs := by
  obtain ⟨r, q, h⟩ := g.traceAt_eq b kind t capt a c d e; rw [h]
@[simp] theorem Gov.traceAt_probes (g : Gov) (b kind t : Nat) (capt : Bool) (a c d e : Nat) : (g.traceAt b kind t capt a c d e).probes = g.probes := by
  obtain ⟨r, q, h⟩ := g.traceAt_eq b kind t capt a c d e; rw [h]
@[simp] theorem Gov.traceAt_calWait (g : Gov) (b kind t : Nat) (capt : Bool) (a c d e : Nat) : (g.traceAt b kind t capt a c d e).calWait = g.calWait := by
  obtain ⟨r, q, h⟩ := g.traceAt_eq b kind t capt a c d e; rw [h]
@[simp] theorem Gov.traceAt_st (g : Gov) (b kind t : Nat) (capt : Bool) (a c d e : Nat) : (g.traceAt b kind t capt a c d e).st = g.st := by
  obtain ⟨r, q, h⟩ := g.traceAt_eq b kind t capt a c d e; rw [h]
@[simp] theorem Gov.traceAt_pl (g : Gov) (b kind t : Nat) (capt : Bool) (a c d e : Nat) : (g.traceAt b kind t capt a c d e).pl = g.pl := by
  obtain ⟨r, q, h⟩ := g.traceAt_eq b kind t capt a c d e; rw [h]
@[simp] theorem Gov.traceAt_th (g : Gov) (b kind t : Nat) (capt : Bool) (a c d e : Nat) : (g.traceAt b kind t capt a c d e).th = g.th := by
  obtain ⟨r, q, h⟩ := g.traceAt_eq b kind t capt a c d e; rw [h]
@[simp] theorem Gov.traceAt_ft (g : Gov) (b kind t : Nat) (capt : Bool) (a c d e : Nat) : (g.traceAt b kind t capt a c d e).ft = g.ft := by
  obtain ⟨r, q, h⟩ := g.traceAt_eq b kind t capt a c d e; rw [h]
@[simp] theorem Gov.traceAt_hr (g : Gov) (b kind t : Nat) (capt : Bool) (a c d e : Nat) : (g.traceAt b kind t capt a c d e).hr = g.hr := by
  obtain ⟨r, q, h⟩ := g.traceAt_eq b kind t capt a c d e; rw [h]
@[simp] theorem Gov.traceAt_dm (g : Gov) (b kind t : Nat) (capt : Bool) (a c d e : Nat) : (g.traceAt b kind t capt a c d e).dm = g.dm := by
  obtain ⟨r, q, h⟩ := g.traceAt_eq b kind t capt a c d e; rw [h]
@[simp] theorem Gov.traceAt_mb (g : Gov) (b kind t : Nat) (capt : Bool) (a c d e : Nat) : (g.traceAt b kind t capt a c d e).mb = g.mb := by
  obtain ⟨r, q, h⟩ := g.traceAt_eq b kind t capt a c d e; rw [h]
@[simp] theorem Gov.traceAt_cfg (g : Gov) (b kind t : Nat) (capt : Bool) (a c d e : Nat) : (g.traceAt b kind t capt a c d e).cfg = g.cfg := by
  obtain ⟨r, q, h⟩ := g.traceAt_eq b kind t capt a c d e; rw [h]
@[simp] theorem Gov.traceAt_mir (g : Gov) (b kind t : Nat) (capt : Bool) (a c d e : Nat) : (g.traceAt b kind t capt a c d e).mir = g.mir := by
  obtain ⟨r, q, h⟩ := g.traceAt_eq b kind t capt a c d e; rw [h]
@[simp] theorem Gov.traceAt_dma (g : Gov) (b kind t : Nat) (capt : Bool) (a c d e : Nat) : (g.traceAt b kind t capt a c d e).dma = g.dma := by
  obtain ⟨r, q, h⟩ := g.traceAt_eq b kind t capt a c d e; rw [h]
@[simp] theorem Gov.traceAt_rcv (g : Gov) (b kind t : Nat) (capt : Bool) (a c d e : Nat) : (g.traceAt b kind t capt a c d e).rcv = g.rcv := by
  obtain ⟨r, q, h⟩ := g.traceAt_eq b kind t capt a c d e; rw [h]
@[simp] theorem Gov.traceAt_store (g : Gov) (b kind t : Nat) (capt : Bool) (a c d e : Nat) : (g.traceAt b kind t capt a c d e).store = g.store := by
  obtain ⟨r, q, h⟩ := g.traceAt_eq b kind t capt a c d e; rw [h]
@[simp] theorem Gov.traceAt_io (g : Gov) (b kind t : Nat) (capt : Bool) (a c d e : Nat) : (g.traceAt b kind t capt a c d e).io = g.io := by
  obtain ⟨r, q, h⟩ := g.traceAt_eq b kind t capt a c d e; rw [h]
@[simp] theorem Gov.traceAt_test (g : Gov) (b kind t : Nat) (capt : Bool) (a c d e : Nat) : (g.traceAt b kind t capt a c d e).test = g.test := by
  obtain ⟨r, q, h⟩ := g.traceAt_eq b kind t capt a c d e; rw [h]
@[simp] theorem Gov.traceAt_bus (g : Gov) (b kind t : Nat) (capt : Bool) (a c d e : Nat) : (g.traceAt b kind t capt a c d e).bus = g.bus := by
  obtain ⟨r, q, h⟩ := g.traceAt_eq b kind t capt a c d e; rw [h]

@[simp] theorem Gov.trace_aon (g : Gov) (b kind a c d e : Nat) : (g.trace b kind a c d e).aon = g.aon := by
  obtain ⟨r, q, h⟩ := g.trace_eq b kind a c d e; rw [h]
@[simp] theorem Gov.trace_porst (g : Gov) (b kind a c d e : Nat) : (g.trace b kind a c d e).porst = g.porst := by
  obtain ⟨r, q, h⟩ := g.trace_eq b kind a c d e; rw [h]
@[simp] theorem Gov.trace_gclk (g : Gov) (b kind a c d e : Nat) : (g.trace b kind a c d e).gclk = g.gclk := by
  obtain ⟨r, q, h⟩ := g.trace_eq b kind a c d e; rw [h]
@[simp] theorem Gov.trace_cold (g : Gov) (b kind a c d e : Nat) : (g.trace b kind a c d e).cold = g.cold := by
  obtain ⟨r, q, h⟩ := g.trace_eq b kind a c d e; rw [h]
@[simp] theorem Gov.trace_gtime (g : Gov) (b kind a c d e : Nat) : (g.trace b kind a c d e).gtime = g.gtime := by
  obtain ⟨r, q, h⟩ := g.trace_eq b kind a c d e; rw [h]
@[simp] theorem Gov.trace_fresh (g : Gov) (b kind a c d e : Nat) : (g.trace b kind a c d e).fresh = g.fresh := by
  obtain ⟨r, q, h⟩ := g.trace_eq b kind a c d e; rw [h]
@[simp] theorem Gov.trace_kept (g : Gov) (b kind a c d e : Nat) : (g.trace b kind a c d e).kept = g.kept := by
  obtain ⟨r, q, h⟩ := g.trace_eq b kind a c d e; rw [h]
@[simp] theorem Gov.trace_clk (g : Gov) (b kind a c d e : Nat) : (g.trace b kind a c d e).clk = g.clk := by
  obtain ⟨r, q, h⟩ := g.trace_eq b kind a c d e; rw [h]
@[simp] theorem Gov.trace_brg (g : Gov) (b kind a c d e : Nat) : (g.trace b kind a c d e).brg = g.brg := by
  obtain ⟨r, q, h⟩ := g.trace_eq b kind a c d e; rw [h]
@[simp] theorem Gov.trace_rails (g : Gov) (b kind a c d e : Nat) : (g.trace b kind a c d e).rails = g.rails := by
  obtain ⟨r, q, h⟩ := g.trace_eq b kind a c d e; rw [h]
@[simp] theorem Gov.trace_phs (g : Gov) (b kind a c d e : Nat) : (g.trace b kind a c d e).phs = g.phs := by
  obtain ⟨r, q, h⟩ := g.trace_eq b kind a c d e; rw [h]
@[simp] theorem Gov.trace_convs (g : Gov) (b kind a c d e : Nat) : (g.trace b kind a c d e).convs = g.convs := by
  obtain ⟨r, q, h⟩ := g.trace_eq b kind a c d e; rw [h]
@[simp] theorem Gov.trace_probes (g : Gov) (b kind a c d e : Nat) : (g.trace b kind a c d e).probes = g.probes := by
  obtain ⟨r, q, h⟩ := g.trace_eq b kind a c d e; rw [h]
@[simp] theorem Gov.trace_calWait (g : Gov) (b kind a c d e : Nat) : (g.trace b kind a c d e).calWait = g.calWait := by
  obtain ⟨r, q, h⟩ := g.trace_eq b kind a c d e; rw [h]
@[simp] theorem Gov.trace_st (g : Gov) (b kind a c d e : Nat) : (g.trace b kind a c d e).st = g.st := by
  obtain ⟨r, q, h⟩ := g.trace_eq b kind a c d e; rw [h]
@[simp] theorem Gov.trace_pl (g : Gov) (b kind a c d e : Nat) : (g.trace b kind a c d e).pl = g.pl := by
  obtain ⟨r, q, h⟩ := g.trace_eq b kind a c d e; rw [h]
@[simp] theorem Gov.trace_th (g : Gov) (b kind a c d e : Nat) : (g.trace b kind a c d e).th = g.th := by
  obtain ⟨r, q, h⟩ := g.trace_eq b kind a c d e; rw [h]
@[simp] theorem Gov.trace_ft (g : Gov) (b kind a c d e : Nat) : (g.trace b kind a c d e).ft = g.ft := by
  obtain ⟨r, q, h⟩ := g.trace_eq b kind a c d e; rw [h]
@[simp] theorem Gov.trace_hr (g : Gov) (b kind a c d e : Nat) : (g.trace b kind a c d e).hr = g.hr := by
  obtain ⟨r, q, h⟩ := g.trace_eq b kind a c d e; rw [h]
@[simp] theorem Gov.trace_dm (g : Gov) (b kind a c d e : Nat) : (g.trace b kind a c d e).dm = g.dm := by
  obtain ⟨r, q, h⟩ := g.trace_eq b kind a c d e; rw [h]
@[simp] theorem Gov.trace_mb (g : Gov) (b kind a c d e : Nat) : (g.trace b kind a c d e).mb = g.mb := by
  obtain ⟨r, q, h⟩ := g.trace_eq b kind a c d e; rw [h]
@[simp] theorem Gov.trace_cfg (g : Gov) (b kind a c d e : Nat) : (g.trace b kind a c d e).cfg = g.cfg := by
  obtain ⟨r, q, h⟩ := g.trace_eq b kind a c d e; rw [h]
@[simp] theorem Gov.trace_mir (g : Gov) (b kind a c d e : Nat) : (g.trace b kind a c d e).mir = g.mir := by
  obtain ⟨r, q, h⟩ := g.trace_eq b kind a c d e; rw [h]
@[simp] theorem Gov.trace_dma (g : Gov) (b kind a c d e : Nat) : (g.trace b kind a c d e).dma = g.dma := by
  obtain ⟨r, q, h⟩ := g.trace_eq b kind a c d e; rw [h]
@[simp] theorem Gov.trace_rcv (g : Gov) (b kind a c d e : Nat) : (g.trace b kind a c d e).rcv = g.rcv := by
  obtain ⟨r, q, h⟩ := g.trace_eq b kind a c d e; rw [h]
@[simp] theorem Gov.trace_store (g : Gov) (b kind a c d e : Nat) : (g.trace b kind a c d e).store = g.store := by
  obtain ⟨r, q, h⟩ := g.trace_eq b kind a c d e; rw [h]
@[simp] theorem Gov.trace_io (g : Gov) (b kind a c d e : Nat) : (g.trace b kind a c d e).io = g.io := by
  obtain ⟨r, q, h⟩ := g.trace_eq b kind a c d e; rw [h]
@[simp] theorem Gov.trace_test (g : Gov) (b kind a c d e : Nat) : (g.trace b kind a c d e).test = g.test := by
  obtain ⟨r, q, h⟩ := g.trace_eq b kind a c d e; rw [h]
@[simp] theorem Gov.trace_bus (g : Gov) (b kind a c d e : Nat) : (g.trace b kind a c d e).bus = g.bus := by
  obtain ⟨r, q, h⟩ := g.trace_eq b kind a c d e; rw [h]

end Sys2Proof.Machine
end

