-- ==== Sys2Proof/Laws/Frame.lean ====
section
/-! SUPPORT. Registers read after writes, and what each shared operation of Ops.lean may change, said once in the form of
Gov.onlyChanges, which composes. -/

namespace Sys2Proof.Machine

/-! ## Register fields -/

@[simp] theorem Gov.rd_wr_same (g : Gov) (f : Fld) (v : Nat) : (g.wr f v).rd f = v % 2 ^ f.len := by
  simp [Gov.rd]

theorem Gov.rd_wr_ne (g : Gov) {f f' : Fld} (v : Nat) (h : f.key ≠ f'.key) : (g.wr f' v).rd f = g.rd f := by
  simp [Gov.rd, mget_mput_ne _ _ _ h]

theorem Gov.rd_wr (g : Gov) (f f' : Fld) (v : Nat) :
    (g.wr f' v).rd f = if f.key = f'.key then v % 2 ^ f'.len else g.rd f := by
  split
  · simp [Gov.rd, *]
  · exact g.rd_wr_ne v ‹_›

/-- A field that lies at another offset is not the one written. -/
theorem Fld.key_ne {f f' : Fld} (hf : f.lo < 64) (hf' : f'.lo < 64) (h : f.off ≠ f'.off) : f.key ≠ f'.key := by
  unfold Fld.key; omega

/-! ## Gov.onlyChanges composes -/

theorem Gov.onlyChanges_refl (ps : List Part) (rs : List (Nat × Nat)) (g : Gov) : g.onlyChanges ps rs g := by
  refine ⟨fun p _ => ?_, fun _ _ _ => rfl⟩
  cases p <;> simp [Part.same]

theorem Part.same_trans {p : Part} {a b c : Gov} (h : p.same a b) (h' : p.same b c) : p.same a c := by
  cases p <;> simp_all [Part.same]

theorem Gov.onlyChanges_trans {ps : List Part} {rs : List (Nat × Nat)} {a b c : Gov} (h : a.onlyChanges ps rs b)
    (h' : b.onlyChanges ps rs c) : a.onlyChanges ps rs c :=
  ⟨fun p hp => Part.same_trans (h.1 p hp) (h'.1 p hp), fun f hf hr => (h'.2 f hf hr).trans (h.2 f hf hr)⟩

theorem Gov.onlyChanges_mono {ps ps' : List Part} {rs rs' : List (Nat × Nat)} {a b : Gov} (h : a.onlyChanges ps rs b)
    (hp : ∀ p ∈ ps, p ∈ ps') (hr : ∀ r ∈ rs, r ∈ rs') : a.onlyChanges ps' rs' b :=
  ⟨fun p hn => h.1 p fun hm => hn (hp p hm), fun f hf hn => h.2 f hf fun r hm => hn r (hr r hm)⟩

theorem Gov.onlyChanges_ite {ps : List Part} {rs : List (Nat × Nat)} {g a b : Gov} {c : Prop} [Decidable c]
    (ha : c → g.onlyChanges ps rs a) (hb : ¬c → g.onlyChanges ps rs b) : g.onlyChanges ps rs (if c then a else b) := by
  split
  · exact ha ‹_›
  · exact hb ‹_›

/-- A fold whose every step changes only `ps` and `rs`. -/
theorem Gov.onlyChanges_foldl {α : Type} {ps : List Part} {rs : List (Nat × Nat)} (f : Gov → α → Gov) (l : List α)
    (hf : ∀ (g : Gov), ∀ x ∈ l, g.onlyChanges ps rs (f g x)) (g : Gov) : g.onlyChanges ps rs (l.foldl f g) := by
  induction l generalizing g with
  | nil => exact g.onlyChanges_refl ps rs
  | cons x l ih =>
    exact Gov.onlyChanges_trans (hf g x List.mem_cons_self) (ih (fun g y hy => hf g y (List.mem_cons_of_mem x hy)) _)

theorem Gov.onlyChanges_each {ps : List Part} {rs : List (Nat × Nat)} (l : List Nat) (f : Gov → Nat → Gov)
    (hf : ∀ (g : Gov), ∀ x ∈ l, g.onlyChanges ps rs (f g x)) (g : Gov) : g.onlyChanges ps rs (g.each l f) :=
  Gov.onlyChanges_foldl f l hf g

/-- A register that `onlyChanges` leaves. -/
theorem Gov.onlyChanges_rd {ps : List Part} {rs : List (Nat × Nat)} {g t : Gov} (h : g.onlyChanges ps rs t) (f : Fld)
    (hf : f.lo < 64) (hr : ∀ r ∈ rs, f.off < r.1 ∨ r.2 < f.off) : t.rd f = g.rd f := h.2 f hf hr

/-! ## What the shared operations change -/

/-- A write of a field changes no part, and only the register at the field's offset. -/
theorem Gov.wr_only {rs : List (Nat × Nat)} (ps : List Part) (g : Gov) (f : Fld) (v : Nat) (hf : f.lo < 64)
    (hr : ∃ r ∈ rs, r.1 ≤ f.off ∧ f.off ≤ r.2) : g.onlyChanges ps rs (g.wr f v) := by
  refine ⟨fun p _ => by cases p <;> simp [Part.same], fun f' hf' hn => ?_⟩
  obtain ⟨r, hm, h1, h2⟩ := hr
  have := hn r hm
  exact g.rd_wr_ne v (Fld.key_ne hf' hf (by omega))

theorem Gov.count_only {rs : List (Nat × Nat)} (ps : List Part) (g : Gov) (f : Fld) (n : Nat) (hf : f.lo < 64)
    (hr : ∃ r ∈ rs, r.1 ≤ f.off ∧ f.off ≤ r.2) : g.onlyChanges ps rs (g.count f n) := by
  unfold Gov.count
  exact g.wr_only ps f _ hf hr

theorem Gov.setBit_only {rs : List (Nat × Nat)} (ps : List Part) (g : Gov) (f : Fld) (i : Nat) (hf : f.lo < 64)
    (hr : ∃ r ∈ rs, r.1 ≤ f.off ∧ f.off ≤ r.2) : g.onlyChanges ps rs (g.setBit f i) := g.wr_only ps f _ hf hr

theorem Gov.clrBit_only {rs : List (Nat × Nat)} (ps : List Part) (g : Gov) (f : Fld) (i : Nat) (hf : f.lo < 64)
    (hr : ∃ r ∈ rs, r.1 ≤ f.off ∧ f.off ≤ r.2) : g.onlyChanges ps rs (g.clrBit f i) := g.wr_only ps f _ hf hr

theorem Gov.wrB_only {rs : List (Nat × Nat)} (ps : List Part) (g : Gov) (f : Fld) (v : Bool) (hf : f.lo < 64)
    (hr : ∃ r ∈ rs, r.1 ≤ f.off ∧ f.off ≤ r.2) : g.onlyChanges ps rs (g.wrB f v) := g.wr_only ps f _ hf hr

/-- SVC_CAUSE alone. -/
theorem Gov.svc_only {rs : List (Nat × Nat)} (ps : List Part) (g : Gov) (i : Nat)
    (hr : ∃ r ∈ rs, r.1 ≤ 0x14038 ∧ 0x14038 ≤ r.2) : g.onlyChanges ps rs (g.svc i) :=
  g.setBit_only ps F.SVC_CAUSE_CAUSE i (by decide) hr

/-- An event changes the recorder, REC_CNT[1] and REC_STAT. -/
theorem Gov.evt_only {ps : List Part} {rs : List (Nat × Nat)} (g : Gov) (e : Evt) (hp : Part.recr ∈ ps)
    (hr : (0x16000, 0x1642F) ∈ rs) : g.onlyChanges ps rs (g.evt e) := by
  unfold Gov.evt
  split
  · refine ⟨fun p hn => ?_, fun _ _ _ => rfl⟩
    cases p <;> simp_all [Part.same]
  · refine Gov.onlyChanges_trans (Gov.onlyChanges_trans ⟨fun p hn => ?_, fun f _ _ => ?_⟩
      (Gov.count_only ps { g with recr := _ } (F.REC_CNT_COUNT 1) 1 (by decide) ⟨_, hr, by decide, by decide⟩))
      (Gov.wr_only ps _ F.REC_STAT_DROP_SEEN 1 (by decide) ⟨_, hr, by decide, by decide⟩)
    · cases p <;> simp_all [Part.same]
    · rfl

theorem Gov.evp_only {ps : List Part} {rs : List (Nat × Nat)} (g : Gov) (port code a b c d : Nat) (hp : Part.recr ∈ ps)
    (hr : (0x16000, 0x1642F) ∈ rs) : g.onlyChanges ps rs (g.evp port code a b c d) := g.evt_only _ hp hr

theorem Gov.ev_only {ps : List Part} {rs : List (Nat × Nat)} (g : Gov) (code a b c d : Nat) (hp : Part.recr ∈ ps)
    (hr : (0x16000, 0x1642F) ∈ rs) : g.onlyChanges ps rs (g.ev code a b c d) := g.evt_only _ hp hr

/-- A change of one part by a plain record update. -/
theorem Gov.onlyChanges_recr {ps : List Part} {rs : List (Nat × Nat)} (g : Gov) (r : Recr) (hp : Part.recr ∈ ps) :
    g.onlyChanges ps rs { g with recr := r } := by
  refine ⟨fun p hn => ?_, fun _ _ _ => rfl⟩
  cases p <;> simp_all [Part.same]

theorem Gov.flushHist_only {ps : List Part} {rs : List (Nat × Nat)} (g : Gov) (h : Nat) (hp : Part.recr ∈ ps)
    (hr : (0x16000, 0x1642F) ∈ rs) : g.onlyChanges ps rs (g.flushHist h) := by
  unfold Gov.flushHist
  simp only
  split
  · exact g.onlyChanges_refl ps rs
  · split
    · exact g.onlyChanges_refl ps rs
    · exact Gov.onlyChanges_trans (g.onlyChanges_recr _ hp)
        (Gov.count_only ps _ (F.REC_CNT_COUNT 7) 1 (by decide) ⟨_, hr, by decide, by decide⟩)

theorem Gov.histo_only {ps : List Part} {rs : List (Nat × Nat)} (g : Gov) (h : Nat) (v : Int) (hp : Part.recr ∈ ps)
    (hr : (0x16000, 0x1642F) ∈ rs) : g.onlyChanges ps rs (g.histo h v) := by
  unfold Gov.histo
  split
  · simp only
    split
    · exact Gov.onlyChanges_trans (g.onlyChanges_recr _ hp) (Gov.flushHist_only _ h hp hr)
    · exact g.onlyChanges_recr _ hp
  · exact g.onlyChanges_refl ps rs

theorem Gov.traceAt_only {ps : List Part} {rs : List (Nat × Nat)} (g : Gov) (b kind t : Nat) (capt : Bool)
    (a c d e : Nat) (hp : Part.recr ∈ ps) (hr : (0x16000, 0x1642F) ∈ rs) :
    g.onlyChanges ps rs (g.traceAt b kind t capt a c d e) := by
  unfold Gov.traceAt
  split
  · simp only
    split
    · exact Gov.onlyChanges_trans (g.onlyChanges_recr _ hp)
        (Gov.count_only ps _ (F.REC_CNT_COUNT 2) 1 (by decide) ⟨_, hr, by decide, by decide⟩)
    · exact Gov.onlyChanges_trans (Gov.onlyChanges_trans (g.onlyChanges_recr _ hp)
        (Gov.count_only ps _ (F.REC_CNT_COUNT 3) 1 (by decide) ⟨_, hr, by decide, by decide⟩))
        (Gov.setBit_only ps _ F.TRC_STAT_LOSS b (by decide) ⟨_, hr, by decide, by decide⟩)
  · exact g.onlyChanges_refl ps rs

theorem Gov.trace_only {ps : List Part} {rs : List (Nat × Nat)} (g : Gov) (b kind a c d e : Nat) (hp : Part.recr ∈ ps)
    (hr : (0x16000, 0x1642F) ∈ rs) : g.onlyChanges ps rs (g.trace b kind a c d e) :=
  g.traceAt_only b kind _ false a c d e hp hr

/-- Time moves on. -/
theorem Gov.runTo_only {ps : List Part} {rs : List (Nat × Nat)} (g : Gov) (t : Nat) (hp : Part.time ∈ ps) :
    g.onlyChanges ps rs (g.runTo t) := by
  refine ⟨fun p hn => ?_, fun _ _ _ => rfl⟩
  cases p <;> simp_all [Part.same]

/-! ## The same, one operation after another: the outermost operation first -/

theorem Gov.onlyChanges_with_st {ps : List Part} {rs : List (Nat × Nat)} {g x : Gov}
    (h : g.onlyChanges ps rs x) : ∀ (v), Part.st ∈ ps → g.onlyChanges ps rs {x with st := v} := by
  intro v hp; refine Gov.onlyChanges_trans h ⟨fun p hn => ?_, fun _ _ _ => rfl⟩
  cases p <;> simp_all [Part.same]
theorem Gov.onlyChanges_with_kept {ps : List Part} {rs : List (Nat × Nat)} {g x : Gov}
    (h : g.onlyChanges ps rs x) : ∀ (v), Part.kept ∈ ps → g.onlyChanges ps rs {x with kept := v} := by
  intro v hp; refine Gov.onlyChanges_trans h ⟨fun p hn => ?_, fun _ _ _ => rfl⟩
  cases p <;> simp_all [Part.same]
theorem Gov.onlyChanges_with_clk {ps : List Part} {rs : List (Nat × Nat)} {g x : Gov}
    (h : g.onlyChanges ps rs x) : ∀ (v), Part.clk ∈ ps → g.onlyChanges ps rs {x with clk := v} := by
  intro v hp; refine Gov.onlyChanges_trans h ⟨fun p hn => ?_, fun _ _ _ => rfl⟩
  cases p <;> simp_all [Part.same]
theorem Gov.onlyChanges_with_brg {ps : List Part} {rs : List (Nat × Nat)} {g x : Gov}
    (h : g.onlyChanges ps rs x) : ∀ (v), Part.brg ∈ ps → g.onlyChanges ps rs {x with brg := v} := by
  intro v hp; refine Gov.onlyChanges_trans h ⟨fun p hn => ?_, fun _ _ _ => rfl⟩
  cases p <;> simp_all [Part.same]
theorem Gov.onlyChanges_with_recr {ps : List Part} {rs : List (Nat × Nat)} {g x : Gov}
    (h : g.onlyChanges ps rs x) : ∀ (v), Part.recr ∈ ps → g.onlyChanges ps rs {x with recr := v} := by
  intro v hp; refine Gov.onlyChanges_trans h ⟨fun p hn => ?_, fun _ _ _ => rfl⟩
  cases p <;> simp_all [Part.same]
theorem Gov.onlyChanges_with_rails {ps : List Part} {rs : List (Nat × Nat)} {g x : Gov}
    (h : g.onlyChanges ps rs x) : ∀ (v), Part.rails ∈ ps → g.onlyChanges ps rs {x with rails := v} := by
  intro v hp; refine Gov.onlyChanges_trans h ⟨fun p hn => ?_, fun _ _ _ => rfl⟩
  cases p <;> simp_all [Part.same]
theorem Gov.onlyChanges_with_phs {ps : List Part} {rs : List (Nat × Nat)} {g x : Gov}
    (h : g.onlyChanges ps rs x) : ∀ (v), Part.phs ∈ ps → g.onlyChanges ps rs {x with phs := v} := by
  intro v hp; refine Gov.onlyChanges_trans h ⟨fun p hn => ?_, fun _ _ _ => rfl⟩
  cases p <;> simp_all [Part.same]
theorem Gov.onlyChanges_with_convs {ps : List Part} {rs : List (Nat × Nat)} {g x : Gov}
    (h : g.onlyChanges ps rs x) : ∀ (v), Part.convs ∈ ps → g.onlyChanges ps rs {x with convs := v} := by
  intro v hp; refine Gov.onlyChanges_trans h ⟨fun p hn => ?_, fun _ _ _ => rfl⟩
  cases p <;> simp_all [Part.same]
theorem Gov.onlyChanges_with_probes {ps : List Part} {rs : List (Nat × Nat)} {g x : Gov}
    (h : g.onlyChanges ps rs x) : ∀ (v), Part.probes ∈ ps → g.onlyChanges ps rs {x with probes := v} := by
  intro v hp; refine Gov.onlyChanges_trans h ⟨fun p hn => ?_, fun _ _ _ => rfl⟩
  cases p <;> simp_all [Part.same]
theorem Gov.onlyChanges_with_calWait {ps : List Part} {rs : List (Nat × Nat)} {g x : Gov}
    (h : g.onlyChanges ps rs x) : ∀ (v), Part.calWait ∈ ps → g.onlyChanges ps rs {x with calWait := v} := by
  intro v hp; refine Gov.onlyChanges_trans h ⟨fun p hn => ?_, fun _ _ _ => rfl⟩
  cases p <;> simp_all [Part.same]
theorem Gov.onlyChanges_with_pl {ps : List Part} {rs : List (Nat × Nat)} {g x : Gov}
    (h : g.onlyChanges ps rs x) : ∀ (v), Part.pl ∈ ps → g.onlyChanges ps rs {x with pl := v} := by
  intro v hp; refine Gov.onlyChanges_trans h ⟨fun p hn => ?_, fun _ _ _ => rfl⟩
  cases p <;> simp_all [Part.same]
theorem Gov.onlyChanges_with_th {ps : List Part} {rs : List (Nat × Nat)} {g x : Gov}
    (h : g.onlyChanges ps rs x) : ∀ (v), Part.th ∈ ps → g.onlyChanges ps rs {x with th := v} := by
  intro v hp; refine Gov.onlyChanges_trans h ⟨fun p hn => ?_, fun _ _ _ => rfl⟩
  cases p <;> simp_all [Part.same]
theorem Gov.onlyChanges_with_ft {ps : List Part} {rs : List (Nat × Nat)} {g x : Gov}
    (h : g.onlyChanges ps rs x) : ∀ (v), Part.ft ∈ ps → g.onlyChanges ps rs {x with ft := v} := by
  intro v hp; refine Gov.onlyChanges_trans h ⟨fun p hn => ?_, fun _ _ _ => rfl⟩
  cases p <;> simp_all [Part.same]
theorem Gov.onlyChanges_with_hr {ps : List Part} {rs : List (Nat × Nat)} {g x : Gov}
    (h : g.onlyChanges ps rs x) : ∀ (v), Part.hr ∈ ps → g.onlyChanges ps rs {x with hr := v} := by
  intro v hp; refine Gov.onlyChanges_trans h ⟨fun p hn => ?_, fun _ _ _ => rfl⟩
  cases p <;> simp_all [Part.same]
theorem Gov.onlyChanges_with_dm {ps : List Part} {rs : List (Nat × Nat)} {g x : Gov}
    (h : g.onlyChanges ps rs x) : ∀ (v), Part.dm ∈ ps → g.onlyChanges ps rs {x with dm := v} := by
  intro v hp; refine Gov.onlyChanges_trans h ⟨fun p hn => ?_, fun _ _ _ => rfl⟩
  cases p <;> simp_all [Part.same]
theorem Gov.onlyChanges_with_mb {ps : List Part} {rs : List (Nat × Nat)} {g x : Gov}
    (h : g.onlyChanges ps rs x) : ∀ (v), Part.mb ∈ ps → g.onlyChanges ps rs {x with mb := v} := by
  intro v hp; refine Gov.onlyChanges_trans h ⟨fun p hn => ?_, fun _ _ _ => rfl⟩
  cases p <;> simp_all [Part.same]
theorem Gov.onlyChanges_with_cfg {ps : List Part} {rs : List (Nat × Nat)} {g x : Gov}
    (h : g.onlyChanges ps rs x) : ∀ (v), Part.cfg ∈ ps → g.onlyChanges ps rs {x with cfg := v} := by
  intro v hp; refine Gov.onlyChanges_trans h ⟨fun p hn => ?_, fun _ _ _ => rfl⟩
  cases p <;> simp_all [Part.same]
theorem Gov.onlyChanges_with_mir {ps : List Part} {rs : List (Nat × Nat)} {g x : Gov}
    (h : g.onlyChanges ps rs x) : ∀ (v), Part.mir ∈ ps → g.onlyChanges ps rs {x with mir := v} := by
  intro v hp; refine Gov.onlyChanges_trans h ⟨fun p hn => ?_, fun _ _ _ => rfl⟩
  cases p <;> simp_all [Part.same]
theorem Gov.onlyChanges_with_dma {ps : List Part} {rs : List (Nat × Nat)} {g x : Gov}
    (h : g.onlyChanges ps rs x) : ∀ (v), Part.dma ∈ ps → g.onlyChanges ps rs {x with dma := v} := by
  intro v hp; refine Gov.onlyChanges_trans h ⟨fun p hn => ?_, fun _ _ _ => rfl⟩
  cases p <;> simp_all [Part.same]
theorem Gov.onlyChanges_with_rcv {ps : List Part} {rs : List (Nat × Nat)} {g x : Gov}
    (h : g.onlyChanges ps rs x) : ∀ (v), Part.rcv ∈ ps → g.onlyChanges ps rs {x with rcv := v} := by
  intro v hp; refine Gov.onlyChanges_trans h ⟨fun p hn => ?_, fun _ _ _ => rfl⟩
  cases p <;> simp_all [Part.same]
theorem Gov.onlyChanges_with_store {ps : List Part} {rs : List (Nat × Nat)} {g x : Gov}
    (h : g.onlyChanges ps rs x) : ∀ (v), Part.store ∈ ps → g.onlyChanges ps rs {x with store := v} := by
  intro v hp; refine Gov.onlyChanges_trans h ⟨fun p hn => ?_, fun _ _ _ => rfl⟩
  cases p <;> simp_all [Part.same]
theorem Gov.onlyChanges_with_test {ps : List Part} {rs : List (Nat × Nat)} {g x : Gov}
    (h : g.onlyChanges ps rs x) : ∀ (v), Part.test ∈ ps → g.onlyChanges ps rs {x with test := v} := by
  intro v hp; refine Gov.onlyChanges_trans h ⟨fun p hn => ?_, fun _ _ _ => rfl⟩
  cases p <;> simp_all [Part.same]
theorem Gov.onlyChanges_nextFresh {ps : List Part} {rs : List (Nat × Nat)} {g x : Gov}
    (h : g.onlyChanges ps rs x) (hp : Part.fresh ∈ ps) : g.onlyChanges ps rs x.nextFresh := by
  refine Gov.onlyChanges_trans h ⟨fun p hn => ?_, fun _ _ _ => rfl⟩
  cases p <;> simp_all [Part.same]
theorem Gov.onlyChanges_ev {ps : List Part} {rs : List (Nat × Nat)} {g x : Gov} (code a b c d : Nat)
    (h : g.onlyChanges ps rs x) (hp : Part.recr ∈ ps) (hr : (0x16000, 0x1642F) ∈ rs) :
    g.onlyChanges ps rs (x.ev code a b c d) :=
  Gov.onlyChanges_trans h (Gov.ev_only x code a b c d hp hr)
theorem Gov.onlyChanges_evp {ps : List Part} {rs : List (Nat × Nat)} {g x : Gov} (port code a b c d : Nat)
    (h : g.onlyChanges ps rs x) (hp : Part.recr ∈ ps) (hr : (0x16000, 0x1642F) ∈ rs) :
    g.onlyChanges ps rs (x.evp port code a b c d) :=
  Gov.onlyChanges_trans h (Gov.evp_only x port code a b c d hp hr)
theorem Gov.onlyChanges_evt {ps : List Part} {rs : List (Nat × Nat)} {g x : Gov} (e : Evt)
    (h : g.onlyChanges ps rs x) (hp : Part.recr ∈ ps) (hr : (0x16000, 0x1642F) ∈ rs) :
    g.onlyChanges ps rs (x.evt e) :=
  Gov.onlyChanges_trans h (Gov.evt_only x e hp hr)
theorem Gov.onlyChanges_trace {ps : List Part} {rs : List (Nat × Nat)} {g x : Gov} (b kind a c d e : Nat)
    (h : g.onlyChanges ps rs x) (hp : Part.recr ∈ ps) (hr : (0x16000, 0x1642F) ∈ rs) :
    g.onlyChanges ps rs (x.trace b kind a c d e) :=
  Gov.onlyChanges_trans h (Gov.trace_only x b kind a c d e hp hr)
theorem Gov.onlyChanges_traceAt {ps : List Part} {rs : List (Nat × Nat)} {g x : Gov} (b kind t : Nat) (capt : Bool) (a c d e : Nat)
    (h : g.onlyChanges ps rs x) (hp : Part.recr ∈ ps) (hr : (0x16000, 0x1642F) ∈ rs) :
    g.onlyChanges ps rs (x.traceAt b kind t capt a c d e) :=
  Gov.onlyChanges_trans h (Gov.traceAt_only x b kind t capt a c d e hp hr)
theorem Gov.onlyChanges_histo {ps : List Part} {rs : List (Nat × Nat)} {g x : Gov} (h : Nat) (v : Int)
    (h0 : g.onlyChanges ps rs x) (hp : Part.recr ∈ ps) (hr : (0x16000, 0x1642F) ∈ rs) :
    g.onlyChanges ps rs (x.histo h v) :=
  Gov.onlyChanges_trans h0 (Gov.histo_only x h v hp hr)
theorem Gov.onlyChanges_flushHist {ps : List Part} {rs : List (Nat × Nat)} {g x : Gov} (h : Nat)
    (h0 : g.onlyChanges ps rs x) (hp : Part.recr ∈ ps) (hr : (0x16000, 0x1642F) ∈ rs) :
    g.onlyChanges ps rs (x.flushHist h) :=
  Gov.onlyChanges_trans h0 (Gov.flushHist_only x h hp hr)
theorem Gov.onlyChanges_wr {ps : List Part} {rs : List (Nat × Nat)} {g x : Gov} (f : Fld) (v : Nat)
    (h : g.onlyChanges ps rs x) (hf : f.lo < 64) (hr : ∃ r ∈ rs, r.1 ≤ f.off ∧ f.off ≤ r.2) :
    g.onlyChanges ps rs (x.wr f v) :=
  Gov.onlyChanges_trans h (Gov.wr_only ps x f v hf hr)
theorem Gov.onlyChanges_wrB {ps : List Part} {rs : List (Nat × Nat)} {g x : Gov} (f : Fld) (v : Bool)
    (h : g.onlyChanges ps rs x) (hf : f.lo < 64) (hr : ∃ r ∈ rs, r.1 ≤ f.off ∧ f.off ≤ r.2) :
    g.onlyChanges ps rs (x.wrB f v) :=
  Gov.onlyChanges_trans h (Gov.wrB_only ps x f v hf hr)
theorem Gov.onlyChanges_setBit {ps : List Part} {rs : List (Nat × Nat)} {g x : Gov} (f : Fld) (v : Nat)
    (h : g.onlyChanges ps rs x) (hf : f.lo < 64) (hr : ∃ r ∈ rs, r.1 ≤ f.off ∧ f.off ≤ r.2) :
    g.onlyChanges ps rs (x.setBit f v) :=
  Gov.onlyChanges_trans h (Gov.setBit_only ps x f v hf hr)
theorem Gov.onlyChanges_clrBit {ps : List Part} {rs : List (Nat × Nat)} {g x : Gov} (f : Fld) (v : Nat)
    (h : g.onlyChanges ps rs x) (hf : f.lo < 64) (hr : ∃ r ∈ rs, r.1 ≤ f.off ∧ f.off ≤ r.2) :
    g.onlyChanges ps rs (x.clrBit f v) :=
  Gov.onlyChanges_trans h (Gov.clrBit_only ps x f v hf hr)
theorem Gov.onlyChanges_count {ps : List Part} {rs : List (Nat × Nat)} {g x : Gov} (f : Fld) (v : Nat)
    (h : g.onlyChanges ps rs x) (hf : f.lo < 64) (hr : ∃ r ∈ rs, r.1 ≤ f.off ∧ f.off ≤ r.2) :
    g.onlyChanges ps rs (x.count f v) :=
  Gov.onlyChanges_trans h (Gov.count_only ps x f v hf hr)
theorem Gov.onlyChanges_svc {ps : List Part} {rs : List (Nat × Nat)} {g x : Gov} (i : Nat)
    (h : g.onlyChanges ps rs x) (hr : ∃ r ∈ rs, r.1 ≤ 0x14038 ∧ 0x14038 ≤ r.2) : g.onlyChanges ps rs (x.svc i) :=
  Gov.onlyChanges_trans h (Gov.svc_only ps x i hr)
theorem Gov.onlyChanges_runTo {ps : List Part} {rs : List (Nat × Nat)} {g x : Gov} (t : Nat)
    (h : g.onlyChanges ps rs x) (hp : Part.time ∈ ps) : g.onlyChanges ps rs (x.runTo t) :=
  Gov.onlyChanges_trans h (Gov.runTo_only x t hp)

/-! ## Registers after events and samples -/

/-- An event leaves every register outside the recorder's counters and status. -/
theorem Gov.rd_evt (g : Gov) (e : Evt) {f : Fld} (h : f.key < 0x16000 * 64) : (g.evt e).rd f = g.rd f := by
  have h1 : f.key ≠ (F.REC_CNT_COUNT 1).key := by have : (F.REC_CNT_COUNT 1).key = 5771776 := by decide
                                                  omega
  have h2 : f.key ≠ F.REC_STAT_DROP_SEEN.key := by have : F.REC_STAT_DROP_SEEN.key = 5767689 := by decide
                                                   omega
  unfold Gov.evt
  split
  · rfl
  · rw [Gov.rd_wr_ne _ _ h2, Gov.count, Gov.rd_wr_ne _ _ h1]; rfl
theorem Gov.rd_evp (g : Gov) (port code a b c d : Nat) {f : Fld} (h : f.key < 0x16000 * 64) :
    (g.evp port code a b c d).rd f = g.rd f := g.rd_evt _ h
theorem Gov.rd_ev (g : Gov) (code a b c d : Nat) {f : Fld} (h : f.key < 0x16000 * 64) :
    (g.ev code a b c d).rd f = g.rd f := g.rd_evt _ h

theorem Gov.rd_traceAt (g : Gov) (b kind t : Nat) (capt : Bool) (a c d e : Nat) {f : Fld} (h : f.key < 0x16000 * 64) :
    (g.traceAt b kind t capt a c d e).rd f = g.rd f := by
  have h1 : f.key ≠ (F.REC_CNT_COUNT 2).key := by have : (F.REC_CNT_COUNT 2).key = 5772288 := by decide
                                                  omega
  have h2 : f.key ≠ (F.REC_CNT_COUNT 3).key := by have : (F.REC_CNT_COUNT 3).key = 5772800 := by decide
                                                  omega
  have h3 : f.key ≠ F.TRC_STAT_LOSS.key := by have : F.TRC_STAT_LOSS.key = 5835272 := by decide
                                              omega
  unfold Gov.traceAt
  split
  · simp only
    split
    · rw [Gov.count, Gov.rd_wr_ne _ _ h1]; rfl
    · rw [Gov.setBit, Gov.rd_wr_ne _ _ h3, Gov.count, Gov.rd_wr_ne _ _ h2]; rfl
  · rfl
theorem Gov.rd_trace (g : Gov) (b kind a c d e : Nat) {f : Fld} (h : f.key < 0x16000 * 64) :
    (g.trace b kind a c d e).rd f = g.rd f := g.rd_traceAt _ _ _ _ _ _ _ _ h

theorem Gov.rd_histo (g : Gov) (hh : Nat) (v : Int) {f : Fld} (h : f.key < 0x16000 * 64) :
    (g.histo hh v).rd f = g.rd f := by
  have h1 : f.key ≠ (F.REC_CNT_COUNT 7).key := by have : (F.REC_CNT_COUNT 7).key = 5774848 := by decide
                                                  omega
  have fl : ∀ (g : Gov), (g.flushHist hh).rd f = g.rd f := by
    intro g
    unfold Gov.flushHist
    simp only
    split
    · rfl
    · split
      · rfl
      · rw [Gov.count, Gov.rd_wr_ne _ _ h1]; rfl
  unfold Gov.histo
  split
  · simp only
    split
    · rw [fl]; rfl
    · rfl
  · rfl

theorem Gov.rd_count (g : Gov) {f k : Fld} (n : Nat) (h : f.key ≠ k.key) : (g.count k n).rd f = g.rd f := g.rd_wr_ne _ h
theorem Gov.rd_setBit (g : Gov) {f k : Fld} (i : Nat) (h : f.key ≠ k.key) : (g.setBit k i).rd f = g.rd f := g.rd_wr_ne _ h
theorem Gov.rd_clrBit (g : Gov) {f k : Fld} (i : Nat) (h : f.key ≠ k.key) : (g.clrBit k i).rd f = g.rd f := g.rd_wr_ne _ h
theorem Gov.rd_wrB (g : Gov) {f k : Fld} (v : Bool) (h : f.key ≠ k.key) : (g.wrB k v).rd f = g.rd f := g.rd_wr_ne _ h

/-! ## Budgets and sizes -/

theorem Build.ok_partitions {b : Build} (h : b.ok = true) : b.partitions ≤ 16 := by simp [Build.ok] at h; omega
theorem Build.ok_rails {b : Build} (h : b.ok = true) : b.rails ≤ 16 := by simp [Build.ok] at h; omega
theorem Build.ok_phases {b : Build} (h : b.ok = true) : b.phases ≤ 96 := by simp [Build.ok] at h; omega
theorem Build.ok_dies {b : Build} (h : b.ok = true) : b.dies ≤ 8 := by simp [Build.ok] at h; omega
theorem Build.ok_tiles {b : Build} (h : b.ok = true) : b.tiles ≤ 64 := by simp [Build.ok] at h; omega

/-- Budgets passed to admission: DMD_MOD and DMD_PART alone. -/
theorem Gov.budApply_only {rs : List (Nat × Nat)} (ps : List Part) (b : Build) (g : Gov) (hb : b.ok = true)
    (hr : (0xA200, 0xA2FF) ∈ rs) : g.onlyChanges ps rs (g.budApply b) := by
  have hq := Build.ok_partitions hb
  unfold Gov.budApply
  refine Gov.onlyChanges_trans ?_ (Gov.onlyChanges_each _ _ (fun g q h => ?_) _)
  · refine Gov.onlyChanges_trans ?_ (Gov.wr_only ps _ F.DMD_MOD_RSV _ (by decide) ⟨_, hr, by decide, by decide⟩)
    exact g.wr_only ps F.DMD_MOD_CAP _ (by decide) ⟨_, hr, by decide, by decide⟩
  · have := List.mem_range.mp h
    exact g.wr_only ps (F.DMD_PART_BUD q) _ (by simp [F.DMD_PART_BUD])
      ⟨_, hr, by simp [F.DMD_PART_BUD]; omega, by simp [F.DMD_PART_BUD]; omega⟩

theorem Gov.onlyChanges_budApply {ps : List Part} {rs : List (Nat × Nat)} {g x : Gov} (b : Build)
    (h : g.onlyChanges ps rs x) (hb : b.ok = true) (hr : (0xA200,0xA2FF) ∈ rs) : g.onlyChanges ps rs (x.budApply b) :=
  Gov.onlyChanges_trans h (Gov.budApply_only ps b x hb hr)

/-! ## What a row adds to its governor change -/

theorem Gov.latch_only {ps : List Part} {rs : List (Nat × Nat)} (b : Build) (g o : Gov) (hp : Part.pmbus ∈ ps) :
    g.onlyChanges ps rs (g.latch b o) := by
  unfold Gov.latch
  split
  · refine ⟨fun p hn => ?_, fun _ _ _ => rfl⟩
    cases p <;> simp_all [Part.same]
  · exact g.onlyChanges_refl ps rs

/-- The level causes of the cycles that passed: SVC_CAUSE alone, and nothing where no time passed. -/
theorem Gov.passed_only {ps : List Part} {rs : List (Nat × Nat)} (b : Build) (g t : Gov)
    (hr : ∃ r ∈ rs, r.1 ≤ 0x14038 ∧ 0x14038 ≤ r.2) : t.onlyChanges ps rs (g.passed b t) := by
  unfold Gov.passed
  split
  · exact Gov.onlyChanges_foldl _ _ (fun t i _ => t.svc_only ps i hr) _
  · exact t.onlyChanges_refl ps rs

/-- The bus follows a row: no other part, and no register. -/
theorem Gov.wake_only {ps : List Part} {rs : List (Nat × Nat)} (g t : Gov) (hb : Part.bus ∈ ps) :
    t.onlyChanges ps rs (g.wake t) := by
  refine ⟨fun p hn => ?_, fun _ _ _ => rfl⟩
  cases p <;> simp_all [Part.same, Gov.wake]

/-- A row that is an `apply` changes what its change does, the latched PMBus bits, the bus, and SVC_CAUSE. -/
theorem State.apply_only {ps : List Part} {rs : List (Nat × Nat)} (s : State) (f : Build → List Host.Cell → Gov → Gov)
    (h : s.gov.onlyChanges ps rs (f s.build s.mem s.gov)) (hp : Part.pmbus ∈ ps) (hb : Part.bus ∈ ps)
    (hr : ∃ r ∈ rs, r.1 ≤ 0x14038 ∧ 0x14038 ≤ r.2) : s.gov.onlyChanges ps rs (s.apply f).gov := by
  rw [State.apply_gov]
  exact Gov.onlyChanges_trans (Gov.onlyChanges_trans (Gov.onlyChanges_trans h (Gov.passed_only s.build s.gov _ hr))
    (Gov.latch_only _ _ _ hp)) (Gov.wake_only _ _ hb)

/-- Where no time passes, a row adds nothing to SVC_CAUSE. -/
theorem Gov.passed_same_time {b : Build} {g t : Gov} (h : t.gtime = g.gtime) : g.passed b t = t := by
  simp [Gov.passed, h]

/-! ## What a row's latching and passing of time leave -/

theorem Gov.latch_eq (b : Build) (g o : Gov) : ∃ i, g.latch b o = { g with io := i } := by
  unfold Gov.latch
  split
  · exact ⟨_, rfl⟩
  · exact ⟨g.io, rfl⟩

theorem Gov.setBits_eq (l : List Nat) (g : Gov) : ∃ r, l.foldl (fun (t : Gov) i => t.svc i) g = { g with regs := r } := by
  induction l generalizing g with
  | nil => exact ⟨g.regs, rfl⟩
  | cons i l ih => obtain ⟨r, h⟩ := ih (g.svc i); exact ⟨r, h⟩

theorem Gov.passed_eq (b : Build) (g t : Gov) : ∃ r, g.passed b t = { t with regs := r } := by
  unfold Gov.passed
  split
  · exact Gov.setBits_eq _ _
  · exact ⟨t.regs, rfl⟩

@[simp] theorem Gov.latch_aon (b : Build) (g o : Gov) : (g.latch b o).aon = g.aon := by
  obtain ⟨i, h⟩ := g.latch_eq b o; rw [h]
@[simp] theorem Gov.latch_porst (b : Build) (g o : Gov) : (g.latch b o).porst = g.porst := by
  obtain ⟨i, h⟩ := g.latch_eq b o; rw [h]
@[simp] theorem Gov.latch_gclk (b : Build) (g o : Gov) : (g.latch b o).gclk = g.gclk := by
  obtain ⟨i, h⟩ := g.latch_eq b o; rw [h]
@[simp] theorem Gov.latch_cold (b : Build) (g o : Gov) : (g.latch b o).cold = g.cold := by
  obtain ⟨i, h⟩ := g.latch_eq b o; rw [h]
@[simp] theorem Gov.latch_gtime (b : Build) (g o : Gov) : (g.latch b o).gtime = g.gtime := by
  obtain ⟨i, h⟩ := g.latch_eq b o; rw [h]
@[simp] theorem Gov.latch_fresh (b : Build) (g o : Gov) : (g.latch b o).fresh = g.fresh := by
  obtain ⟨i, h⟩ := g.latch_eq b o; rw [h]
@[simp] theorem Gov.latch_regs (b : Build) (g o : Gov) : (g.latch b o).regs = g.regs := by
  obtain ⟨i, h⟩ := g.latch_eq b o; rw [h]
@[simp] theorem Gov.latch_kept (b : Build) (g o : Gov) : (g.latch b o).kept = g.kept := by
  obtain ⟨i, h⟩ := g.latch_eq b o; rw [h]
@[simp] theorem Gov.latch_clk (b : Build) (g o : Gov) : (g.latch b o).clk = g.clk := by
  obtain ⟨i, h⟩ := g.latch_eq b o; rw [h]
@[simp] theorem Gov.latch_brg (b : Build) (g o : Gov) : (g.latch b o).brg = g.brg := by
  obtain ⟨i, h⟩ := g.latch_eq b o; rw [h]
@[simp] theorem Gov.latch_recr (b : Build) (g o : Gov) : (g.latch b o).recr = g.recr := by
  obtain ⟨i, h⟩ := g.latch_eq b o; rw [h]
@[simp] theorem Gov.latch_rails (b : Build) (g o : Gov) : (g.latch b o).rails = g.rails := by
  obtain ⟨i, h⟩ := g.latch_eq b o; rw [h]
@[simp] theorem Gov.latch_phs (b : Build) (g o : Gov) : (g.latch b o).phs = g.phs := by
  obtain ⟨i, h⟩ := g.latch_eq b o; rw [h]
@[simp] theorem Gov.latch_convs (b : Build) (g o : Gov) : (g.latch b o).convs = g.convs := by
  obtain ⟨i, h⟩ := g.latch_eq b o; rw [h]
@[simp] theorem Gov.latch_probes (b : Build) (g o : Gov) : (g.latch b o).probes = g.probes := by
  obtain ⟨i, h⟩ := g.latch_eq b o; rw [h]
@[simp] theorem Gov.latch_calWait (b : Build) (g o : Gov) : (g.latch b o).calWait = g.calWait := by
  obtain ⟨i, h⟩ := g.latch_eq b o; rw [h]
@[simp] theorem Gov.latch_st (b : Build) (g o : Gov) : (g.latch b o).st = g.st := by
  obtain ⟨i, h⟩ := g.latch_eq b o; rw [h]
@[simp] theorem Gov.latch_pl (b : Build) (g o : Gov) : (g.latch b o).pl = g.pl := by
  obtain ⟨i, h⟩ := g.latch_eq b o; rw [h]
@[simp] theorem Gov.latch_th (b : Build) (g o : Gov) : (g.latch b o).th = g.th := by
  obtain ⟨i, h⟩ := g.latch_eq b o; rw [h]
@[simp] theorem Gov.latch_ft (b : Build) (g o : Gov) : (g.latch b o).ft = g.ft := by
  obtain ⟨i, h⟩ := g.latch_eq b o; rw [h]
@[simp] theorem Gov.latch_hr (b : Build) (g o : Gov) : (g.latch b o).hr = g.hr := by
  obtain ⟨i, h⟩ := g.latch_eq b o; rw [h]
@[simp] theorem Gov.latch_dm (b : Build) (g o : Gov) : (g.latch b o).dm = g.dm := by
  obtain ⟨i, h⟩ := g.latch_eq b o; rw [h]
@[simp] theorem Gov.latch_mb (b : Build) (g o : Gov) : (g.latch b o).mb = g.mb := by
  obtain ⟨i, h⟩ := g.latch_eq b o; rw [h]
@[simp] theorem Gov.latch_cfg (b : Build) (g o : Gov) : (g.latch b o).cfg = g.cfg := by
  obtain ⟨i, h⟩ := g.latch_eq b o; rw [h]
@[simp] theorem Gov.latch_mir (b : Build) (g o : Gov) : (g.latch b o).mir = g.mir := by
  obtain ⟨i, h⟩ := g.latch_eq b o; rw [h]
@[simp] theorem Gov.latch_dma (b : Build) (g o : Gov) : (g.latch b o).dma = g.dma := by
  obtain ⟨i, h⟩ := g.latch_eq b o; rw [h]
@[simp] theorem Gov.latch_rcv (b : Build) (g o : Gov) : (g.latch b o).rcv = g.rcv := by
  obtain ⟨i, h⟩ := g.latch_eq b o; rw [h]
@[simp] theorem Gov.latch_store (b : Build) (g o : Gov) : (g.latch b o).store = g.store := by
  obtain ⟨i, h⟩ := g.latch_eq b o; rw [h]
@[simp] theorem Gov.latch_test (b : Build) (g o : Gov) : (g.latch b o).test = g.test := by
  obtain ⟨i, h⟩ := g.latch_eq b o; rw [h]
@[simp] theorem Gov.latch_bus (b : Build) (g o : Gov) : (g.latch b o).bus = g.bus := by
  obtain ⟨i, h⟩ := g.latch_eq b o; rw [h]
@[simp] theorem Gov.rd_latch (b : Build) (g o : Gov) (f : Fld) : (g.latch b o).rd f = g.rd f := by simp [Gov.rd]
@[simp] theorem Gov.latch_hrs (b : Build) (g o : Gov) : (g.latch b o).io.hrs = g.io.hrs := by unfold Gov.latch; split <;> rfl
@[simp] theorem Gov.latch_iopage (b : Build) (g o : Gov) : (g.latch b o).io.page = g.io.page := by unfold Gov.latch; split <;> rfl
@[simp] theorem Gov.latch_tap (b : Build) (g o : Gov) : (g.latch b o).io.tap = g.io.tap := by unfold Gov.latch; split <;> rfl
@[simp] theorem Gov.latch_smbpage (b : Build) (g o : Gov) : (g.latch b o).io.smb.page = g.io.smb.page := by
  unfold Gov.latch; split <;> rfl
@[simp] theorem Gov.latch_sel (b : Build) (g o : Gov) : (g.latch b o).io.smb.sel = g.io.smb.sel := by
  unfold Gov.latch; split <;> rfl
@[simp] theorem Gov.latch_cml (b : Build) (g o : Gov) : (g.latch b o).io.smb.cml = g.io.smb.cml := by
  unfold Gov.latch; split <;> rfl
@[simp] theorem Gov.latch_out (b : Build) (g o : Gov) : (g.latch b o).io.smb.out = g.io.smb.out := by
  unfold Gov.latch; split <;> rfl
@[simp] theorem Gov.latch_nack (b : Build) (g o : Gov) : (g.latch b o).io.smb.nack = g.io.smb.nack := by
  unfold Gov.latch; split <;> rfl

@[simp] theorem Gov.wake_aon (g t : Gov) : (g.wake t).aon = t.aon := rfl
@[simp] theorem Gov.wake_porst (g t : Gov) : (g.wake t).porst = t.porst := rfl
@[simp] theorem Gov.wake_gclk (g t : Gov) : (g.wake t).gclk = t.gclk := rfl
@[simp] theorem Gov.wake_cold (g t : Gov) : (g.wake t).cold = t.cold := rfl
@[simp] theorem Gov.wake_gtime (g t : Gov) : (g.wake t).gtime = t.gtime := rfl
@[simp] theorem Gov.wake_fresh (g t : Gov) : (g.wake t).fresh = t.fresh := rfl
@[simp] theorem Gov.wake_regs (g t : Gov) : (g.wake t).regs = t.regs := rfl
@[simp] theorem Gov.wake_kept (g t : Gov) : (g.wake t).kept = t.kept := rfl
@[simp] theorem Gov.wake_clk (g t : Gov) : (g.wake t).clk = t.clk := rfl
@[simp] theorem Gov.wake_brg (g t : Gov) : (g.wake t).brg = t.brg := rfl
@[simp] theorem Gov.wake_recr (g t : Gov) : (g.wake t).recr = t.recr := rfl
@[simp] theorem Gov.wake_rails (g t : Gov) : (g.wake t).rails = t.rails := rfl
@[simp] theorem Gov.wake_phs (g t : Gov) : (g.wake t).phs = t.phs := rfl
@[simp] theorem Gov.wake_convs (g t : Gov) : (g.wake t).convs = t.convs := rfl
@[simp] theorem Gov.wake_probes (g t : Gov) : (g.wake t).probes = t.probes := rfl
@[simp] theorem Gov.wake_calWait (g t : Gov) : (g.wake t).calWait = t.calWait := rfl
@[simp] theorem Gov.wake_st (g t : Gov) : (g.wake t).st = t.st := rfl
@[simp] theorem Gov.wake_pl (g t : Gov) : (g.wake t).pl = t.pl := rfl
@[simp] theorem Gov.wake_th (g t : Gov) : (g.wake t).th = t.th := rfl
@[simp] theorem Gov.wake_ft (g t : Gov) : (g.wake t).ft = t.ft := rfl
@[simp] theorem Gov.wake_hr (g t : Gov) : (g.wake t).hr = t.hr := rfl
@[simp] theorem Gov.wake_dm (g t : Gov) : (g.wake t).dm = t.dm := rfl
@[simp] theorem Gov.wake_mb (g t : Gov) : (g.wake t).mb = t.mb := rfl
@[simp] theorem Gov.wake_cfg (g t : Gov) : (g.wake t).cfg = t.cfg := rfl
@[simp] theorem Gov.wake_mir (g t : Gov) : (g.wake t).mir = t.mir := rfl
@[simp] theorem Gov.wake_dma (g t : Gov) : (g.wake t).dma = t.dma := rfl
@[simp] theorem Gov.wake_rcv (g t : Gov) : (g.wake t).rcv = t.rcv := rfl
@[simp] theorem Gov.wake_store (g t : Gov) : (g.wake t).store = t.store := rfl
@[simp] theorem Gov.wake_io (g t : Gov) : (g.wake t).io = t.io := rfl
@[simp] theorem Gov.wake_test (g t : Gov) : (g.wake t).test = t.test := rfl
@[simp] theorem Gov.wake_bus (g t : Gov) : (g.wake t).bus = g.busAfter t := rfl
@[simp] theorem Gov.rd_wake (g t : Gov) (f : Fld) : (g.wake t).rd f = t.rd f := rfl

@[simp] theorem Gov.passed_aon (b : Build) (g t : Gov) : (g.passed b t).aon = t.aon := by
  obtain ⟨r, h⟩ := g.passed_eq b t; rw [h]
@[simp] theorem Gov.passed_porst (b : Build) (g t : Gov) : (g.passed b t).porst = t.porst := by
  obtain ⟨r, h⟩ := g.passed_eq b t; rw [h]
@[simp] theorem Gov.passed_gclk (b : Build) (g t : Gov) : (g.passed b t).gclk = t.gclk := by
  obtain ⟨r, h⟩ := g.passed_eq b t; rw [h]
@[simp] theorem Gov.passed_cold (b : Build) (g t : Gov) : (g.passed b t).cold = t.cold := by
  obtain ⟨r, h⟩ := g.passed_eq b t; rw [h]
@[simp] theorem Gov.passed_gtime (b : Build) (g t : Gov) : (g.passed b t).gtime = t.gtime := by
  obtain ⟨r, h⟩ := g.passed_eq b t; rw [h]
@[simp] theorem Gov.passed_fresh (b : Build) (g t : Gov) : (g.passed b t).fresh = t.fresh := by
  obtain ⟨r, h⟩ := g.passed_eq b t; rw [h]
@[simp] theorem Gov.passed_kept (b : Build) (g t : Gov) : (g.passed b t).kept = t.kept := by
  obtain ⟨r, h⟩ := g.passed_eq b t; rw [h]
@[simp] theorem Gov.passed_clk (b : Build) (g t : Gov) : (g.passed b t).clk = t.clk := by
  obtain ⟨r, h⟩ := g.passed_eq b t; rw [h]
@[simp] theorem Gov.passed_brg (b : Build) (g t : Gov) : (g.passed b t).brg = t.brg := by
  obtain ⟨r, h⟩ := g.passed_eq b t; rw [h]
@[simp] theorem Gov.passed_recr (b : Build) (g t : Gov) : (g.passed b t).recr = t.recr := by
  obtain ⟨r, h⟩ := g.passed_eq b t; rw [h]
@[simp] theorem Gov.passed_rails (b : Build) (g t : Gov) : (g.passed b t).rails = t.rails := by
  obtain ⟨r, h⟩ := g.passed_eq b t; rw [h]
@[simp] theorem Gov.passed_phs (b : Build) (g t : Gov) : (g.passed b t).phs = t.phs := by
  obtain ⟨r, h⟩ := g.passed_eq b t; rw [h]
@[simp] theorem Gov.passed_convs (b : Build) (g t : Gov) : (g.passed b t).convs = t.convs := by
  obtain ⟨r, h⟩ := g.passed_eq b t; rw [h]
@[simp] theorem Gov.passed_probes (b : Build) (g t : Gov) : (g.passed b t).probes = t.probes := by
  obtain ⟨r, h⟩ := g.passed_eq b t; rw [h]
@[simp] theorem Gov.passed_calWait (b : Build) (g t : Gov) : (g.passed b t).calWait = t.calWait := by
  obtain ⟨r, h⟩ := g.passed_eq b t; rw [h]
@[simp] theorem Gov.passed_st (b : Build) (g t : Gov) : (g.passed b t).st = t.st := by
  obtain ⟨r, h⟩ := g.passed_eq b t; rw [h]
@[simp] theorem Gov.passed_pl (b : Build) (g t : Gov) : (g.passed b t).pl = t.pl := by
  obtain ⟨r, h⟩ := g.passed_eq b t; rw [h]
@[simp] theorem Gov.passed_th (b : Build) (g t : Gov) : (g.passed b t).th = t.th := by
  obtain ⟨r, h⟩ := g.passed_eq b t; rw [h]
@[simp] theorem Gov.passed_ft (b : Build) (g t : Gov) : (g.passed b t).ft = t.ft := by
  obtain ⟨r, h⟩ := g.passed_eq b t; rw [h]
@[simp] theorem Gov.passed_hr (b : Build) (g t : Gov) : (g.passed b t).hr = t.hr := by
  obtain ⟨r, h⟩ := g.passed_eq b t; rw [h]
@[simp] theorem Gov.passed_dm (b : Build) (g t : Gov) : (g.passed b t).dm = t.dm := by
  obtain ⟨r, h⟩ := g.passed_eq b t; rw [h]
@[simp] theorem Gov.passed_mb (b : Build) (g t : Gov) : (g.passed b t).mb = t.mb := by
  obtain ⟨r, h⟩ := g.passed_eq b t; rw [h]
@[simp] theorem Gov.passed_cfg (b : Build) (g t : Gov) : (g.passed b t).cfg = t.cfg := by
  obtain ⟨r, h⟩ := g.passed_eq b t; rw [h]
@[simp] theorem Gov.passed_mir (b : Build) (g t : Gov) : (g.passed b t).mir = t.mir := by
  obtain ⟨r, h⟩ := g.passed_eq b t; rw [h]
@[simp] theorem Gov.passed_dma (b : Build) (g t : Gov) : (g.passed b t).dma = t.dma := by
  obtain ⟨r, h⟩ := g.passed_eq b t; rw [h]
@[simp] theorem Gov.passed_rcv (b : Build) (g t : Gov) : (g.passed b t).rcv = t.rcv := by
  obtain ⟨r, h⟩ := g.passed_eq b t; rw [h]
@[simp] theorem Gov.passed_store (b : Build) (g t : Gov) : (g.passed b t).store = t.store := by
  obtain ⟨r, h⟩ := g.passed_eq b t; rw [h]
@[simp] theorem Gov.passed_io (b : Build) (g t : Gov) : (g.passed b t).io = t.io := by
  obtain ⟨r, h⟩ := g.passed_eq b t; rw [h]
@[simp] theorem Gov.passed_test (b : Build) (g t : Gov) : (g.passed b t).test = t.test := by
  obtain ⟨r, h⟩ := g.passed_eq b t; rw [h]
@[simp] theorem Gov.passed_bus (b : Build) (g t : Gov) : (g.passed b t).bus = t.bus := by
  obtain ⟨r, h⟩ := g.passed_eq b t; rw [h]

/-- The passing of time changes no register but SVC_CAUSE. -/
theorem Gov.rd_passed {b : Build} {g t : Gov} {f : Fld} (h : f.key ≠ F.SVC_CAUSE_CAUSE.key) :
    (g.passed b t).rd f = t.rd f := by
  have fold : ∀ (l : List Nat) (t : Gov), (l.foldl (fun (t : Gov) i => t.svc i) t).rd f = t.rd f := by
    intro l
    induction l with
    | nil => intro t; rfl
    | cons i l ih => intro t; exact (ih (t.svc i)).trans (t.rd_wr_ne _ h)
  unfold Gov.passed
  split
  · exact fold _ _
  · rfl

/-- A register but SVC_CAUSE after a row is what the row's change leaves. -/
theorem State.rd_apply (s : State) (f : Build → List Host.Cell → Gov → Gov) {k : Fld}
    (h : k.key ≠ F.SVC_CAUSE_CAUSE.key) : (s.apply f).gov.rd k = (f s.build s.mem s.gov).rd k := by
  rw [State.apply_gov, Gov.rd_wake, Gov.rd_latch, Gov.rd_passed h]

end Sys2Proof.Machine
end

