-- ==== Sys2Proof/Laws/Memory.lean ====
section
/-! SUPPORT. Every operation on the raw store bytes keeps their canonical form; reset leaves them in it. -/

namespace Sys2Proof.Machine

/-! ## The canonical form is kept -/

theorem memWf_nil : memWf [] = true := rfl

theorem State.reset_memOk : State.reset.memOk := rfl

theorem memWf_memMerge {m : List Host.Cell} (off w mask : Nat) (h : memWf m = true) :
    memWf (memMerge m off w mask) = true := memWf_memPutBytes 8 off _ h

theorem memWf_memLose {m : List Host.Cell} (off : Nat) (h : memWf m = true) : memWf (memLose m off) = true :=
  memWf_memPutBytes 8 _ 0 h

theorem memWf_memAfterLoss {m : List Host.Cell} (off : Nat) (h : memWf m = true) : memWf (memAfterLoss off m) = true := by
  unfold memAfterLoss; split
  · exact memWf_memLose off h
  · exact h

theorem memWf_memRewrite {m : List Host.Cell} (g : Gov) (k : Nat) (h : memWf m = true) :
    memWf (memRewrite g k m) = true := by
  unfold memRewrite; split
  · exact memWf_foldl _ (fun m e hm => memWf_memPutBytes 64 _ _ hm) _ h
  · split
    · exact memWf_foldl _ (fun m e hm => memWf_memPutBytes 96 _ _ hm) _ h
    · exact h

theorem memWf_memAfterCopy {m : List Host.Cell} (g : Gov) (lost : List Nat) (h : memWf m = true) :
    memWf (memAfterCopy g lost m) = true := by
  unfold memAfterCopy; split
  · exact h
  · exact memWf_memRewrite g _ (memWf_foldl _ (fun m o hm => memWf_memLose o hm) _ h)

theorem memWf_windowWriteMem {m : List Host.Cell} (port w data : Nat) (wide collide : Bool) (g : Gov)
    (h : memWf m = true) : memWf (windowWriteMem port w data wide collide g m) = true := by
  unfold windowWriteMem; split
  · simp only []; split
    · exact memWf_memMerge _ _ _ h
    · exact h
  · exact h

theorem memWf_windowReadMem {m : List Host.Cell} (port w rot : Nat) (wide bad0 bad1 : Bool) (g : Gov)
    (h : memWf m = true) : memWf (windowReadMem port w rot wide bad0 bad1 g m) = true := by
  have lose : ∀ (bad : Bool) (o : Nat) (m : List Host.Cell), memWf m = true →
      memWf (if bad ∧ o < 0xC00000 ∧ g.dark (o / 0x40000) = false then memAfterLoss o m else m) = true := by
    intro bad o m hm; split
    · exact memWf_memAfterLoss o hm
    · exact hm
  unfold windowReadMem; split
  · simp only []; split
    · exact lose _ _ _ (lose _ _ _ h)
    · exact lose _ _ _ h
  · exact h

theorem memWf_tapRegaccMem {m : List Host.Cell} (wr : Bool) (off data : Nat) (bad collide : Bool) (g : Gov)
    (h : memWf m = true) : memWf (tapRegaccMem wr off data bad collide g m) = true := by
  unfold tapRegaccMem; simp only []; split
  · exact h
  · split
    · exact memWf_windowWriteMem _ _ _ _ _ _ h
    · exact memWf_windowReadMem _ _ _ _ _ _ _ h

theorem memWf_storeWriteWords (l : List Nat) (off : Nat) (g : Gov) {m : List Host.Cell} (h : memWf m = true) :
    memWf (storeWriteWords off l g m) = true := by
  induction l generalizing off m with
  | nil => exact h
  | cons w r ih =>
    unfold storeWriteWords
    refine ih _ ?_
    split
    · exact memWf_memMerge _ _ _ h
    · exact h

theorem memWf_storeReadWords (b : Build) (bad : List Nat) (n off : Nat) (g : Gov) {m : List Host.Cell}
    (h : memWf m = true) : memWf (storeReadWords b bad n off g m).2.1 = true := by
  induction n generalizing off g m with
  | zero => exact h
  | succ n ih =>
    unfold storeReadWords
    refine ih _ _ ?_
    split
    · exact memWf_memAfterLoss _ h
    · exact h

theorem memWf_interpretMem (e : OpEnv) (b : Build) (c : Cmd) (hres : Nat) (g : Gov) (h : memWf e.mem = true) :
    memWf (interpretMem e b c hres g) = true := by
  unfold interpretMem; split
  · exact h
  · split
    · exact memWf_storeWriteWords _ _ _ h
    · split
      · exact memWf_storeReadWords _ _ _ _ _ h
      · exact h

theorem memWf_opcodeMem (op arg : Nat) (x : Packet) (e : OpEnv) (b : Build) (g : Gov) (h : memWf e.mem = true) :
    memWf (opcodeMem op arg x e b g) = true := by
  unfold opcodeMem; simp only []; split
  · exact memWf_interpretMem _ _ _ _ _ h
  · exact h

theorem memWf_commandTakeMem (e : OpEnv) (b : Build) (g : Gov) (h : memWf e.mem = true) :
    memWf (commandTakeMem e b g) = true := by
  unfold commandTakeMem; split
  · simp only []; split
    · exact memWf_interpretMem _ _ _ _ _ h
    · exact h
  · exact h

theorem memWf_aonLossMem {m : List Host.Cell} (vdd vdda ns : Nat) (g : Gov) (h : memWf m = true) :
    memWf (aonLossMem vdd vdda ns g m) = true := by
  unfold aonLossMem; split
  · exact h
  · rfl

theorem memWf_porstMem {m : List Host.Cell} (ns : Nat) (g : Gov) (h : memWf m = true) :
    memWf (porstMem ns g m) = true := by
  unfold porstMem; split
  · rfl
  · exact h

/-! ## Where nothing waits, nothing settles -/

theorem Gov.answer_none {g : Gov} (h : g.mb.cmds = []) (kind obj code : Nat) (ws : List Nat) :
    g.answer kind obj code ws = g := by
  simp [Gov.answer, Gov.each, Gov.waiters, mkeys, h]

theorem Gov.answerCset_none {g : Gov} (h : g.mb.cmds = []) (b : Build) (n : Nat) : g.answerCset b n = g := by
  unfold Gov.answerCset; split
  · rfl
  · exact Gov.answer_none h _ _ _ _

theorem Gov.each_same {g : Gov} (l : List Nat) (f : Gov → Nat → Gov) (h : ∀ i, f g i = g) : g.each l f = g := by
  unfold Gov.each
  induction l with
  | nil => rfl
  | cons a r ih => rw [List.foldl_cons, h a]; exact ih

/-- Under `quiet` no entry is given, and no step, switch, bank or probe completes. -/
theorem Gov.settled_quiet {g : Gov} (h : g.quiet) (b : Build) : g.settled b = g := by
  obtain ⟨hc, hs, hw, hb, hd, h0, hp⟩ := h
  have ha : g.after b = g := by
    have hv : g.serve b = g := by simp [Gov.serve, hd, serveWait]
    unfold Gov.after Gov.settleSteps
    rw [hv]
    simp only [hs, List.foldl_nil]
    rw [Gov.each_same _ _ (fun n => Gov.answerCset_none hc b n)]
    unfold Gov.bankPass
    simp [hb]
  have hps : g.probes.filter (fun (e : Nat × Probe) => e.2.cal && g.railIdle e.1) = [] := by
    apply List.filter_eq_nil_iff.mpr
    intro e he
    simp [hp e he]
  have h0' : g0Probe b g = g := by simp [g0Probe, h0]
  unfold Gov.settled Gov.probeSettle
  rw [ha, h0', hw, hps]
  simp

end Sys2Proof.Machine
end

