-- ==== Sys2Proof/Tests/Slice0.lean ====
section
/-! SUPPORT. The model's own tests: ill-formed terms that WellFormed refuses; a state and operands that meet the premises of
each statement of the obligations; worked examples of the spec. -/

namespace Sys2Proof.Tests

open Sys2Proof.Machine

/-- A state of the greatest build with the governor `g`. -/
def box (g : Gov) : State := { State.reset with gov := g }

/-- A governor out of reset, in the Ready stage. -/
def up : Gov := { ({ porst := false, gclk := true } : Gov).wr F.BRG_STAT_STAGE sREADY with cold := false }

/-- The same in stage `k`. -/
def stg (k : Nat) : Gov := up.wr F.BRG_STAT_STAGE k

/-- `g` with the fields of a list set. -/
def put (g : Gov) (l : List (Fld × Nat)) : Gov := l.foldl (fun g e => g.wr e.1 e.2) g

/-- Rail 0 as START takes it: six phases of slice 0, a ramp and a good window. -/
def rail0 : List (Fld × Nat) :=
  [(F.RAIL_SEQ_EN 0, 1), (F.RAIL_CFG_FIRST 0, 0), (F.RAIL_CFG_COUNT 0, 6), (F.RAIL_SEQ_RAMP 0, 100), (F.RAIL_SEQ_PG_WIN 0, 10)]

/-- A signature of 3 A on rail 0 from slot 0 on, and one of 100 A. -/
def sig3 : Sig := { segA := [(24, 0)] }
def sig100 : Sig := { segA := [(800, 0)] }

/-- Requester 5 announces in slot 3: an announcement that has reached its lane. -/
def ann5 (cls : Nat) : Ann := { req := 5, sig := 4, ctx := 7, cgen := 2, cls := cls, slot := 3 }

/-- Demand with signature 4, context 7 live and that announcement at lane 0. -/
def dm5 (sg : Sig) (cls : Nat) : DmState :=
  { isOpen := true, sigs := [(4, sg)], ctxs := [(7, { st := 1, cgen := 2 })], hubs := [(0, { link := [ann5 cls], tick := 0 })],
    reqCnt := [(5, 1)] }

/-- 64 bytes as the number of a Hedgerow frame, their CRC in the last four. -/
def frameOfBytes (l : List Nat) : Nat :=
  leNat ((l ++ List.replicate 60 0).take 60) + crc32 ((l ++ List.replicate 60 0).take 60) * 2 ^ 480

/-- A packet of class 1 by port 5 in mailbox 15. -/
def pkt (arg : Nat) (ps : List Nat := []) : Packet :=
  { mbx := 15, port := 5, cls := 1, tag := 255, rsv := 0, arg := arg, params := ps }

/-- The raw bytes of one thermal record: node 0, enabled and FIXED, with its CRC. -/
def fixedNode : List Host.Cell :=
  (0xAB0000, 3) :: (List.range 4).map (fun k => (0xAB005C + k, BitVec.ofNat 8 (crc32 (3 :: List.replicate 91 0) / 256 ^ k)))

/-- No listed rail waits for a commit: no rail does. -/
theorem noCommit {g : Gov} (h : g.rails.all (fun e => e.2.commitAt == none) = true) (n : Nat) :
    (g.rail n).commitAt = none := by
  unfold Gov.rail
  generalize g.rails = m at h
  induction m with
  | nil => rfl
  | cons e r ih =>
    simp only [List.all_cons, Bool.and_eq_true, beq_iff_eq] at h
    simp only [mget]
    split
    · exact h.1
    · exact ih h.2

/-! ### WellFormed: a term that each check refuses, and the terms at the low end of each range -/

/-- A term that each check of WellFormed refuses, part 1. -/
theorem test_wf_refuses_1 :
    ([.senseLineCheckDone 16 0 0, .railDlyExpiry 16, .penMidLevelEnd 16, .pgTimeoutExpiry 16, .probeRepetitionStart
    16 0 0, .probePulseEnd 16 [], .probeComplete 16, .railOff 16 0, .refSourceReady 5, .refselWrite 6 0,
    .refselWrite 0 (2 ^ 64), .clkoutCtlWrite 6 0 false, .clkoutCtlWrite 0 (2 ^ 64) false, .clockGateClose 12 false,
    .gtimeLoRead 6, .vselCodeValid 8, .syncLost 16, .satelliteSupplyUp 512, .droopLevelChange 512 0, .tileClockEdge
    512, .headerReceive 512 0, .ringLoss 512, .reportReceived 512 0 0 false, .frameReturnCheck 8 false false 0,
    .norepSet 512, .norepService 512, .periodBoundary 16, .loopPass 16 none, .railCfgWrite 16 0 0, .railCfgWrite 0 6
    0, .railCfgWrite 0 0 (2 ^ 64), .railCtlCsetWrite 16 0 0, .railCtlCsetWrite 0 6 0, .railCtlOpenWrite 16 0 false,
    .railCtlOpenWrite 0 6 false, .railOptWrite 16 0 0 0, .railOptWrite 0 8 0 0, .railOptWrite 0 0 6 0, .railOptWrite
    0 0 0 (2 ^ 64), .railCoefWrite 6 0 0, .railCoefWrite 0 0 (2 ^ 64), .imonConversion 16 0 0, .imonConversion 0 2
    0, .imbServiceTimeout 96, .limitCut 96 0 0, .burstSample 16 ⟨0, 0⟩, .phaseShutdownDelay 96, .hiccupRetry 16 0,
    .hrResetTimeout 16, .graceEnd 16, .pfaultRecognised 96 0, .sliceLinkFail 16, .ovClampEnd 16 0,
    .announcementAccept 1024 0 0 0 0 0 0 0, .announcementAccept 0 4096 0 0 0 0 0 0, .announcementAccept 0 0 4096 0 0
    0 0 0, .announcementAccept 0 0 0 0 4 0 0 0, .laneDecision 8, .heldRetest 8, .entryBlocking 32768] : List Instr).all (fun i => !i.wf) = true := by decide

/-- A term that each check of WellFormed refuses, part 2. -/
theorem test_wf_refuses_2 :
    ([.completionAccept 1024 0 0, .completionAtCore 8, .diodeReadingArrival 32, .chatterWindowClose 512, .ftCfgWrite
    6 none 0, .ftCfgWrite 0 (some 32) 0, .ftCfgWrite 0 none (2 ^ 64), .frameReceive 9 0 0, .hrlUpRise 9, .linkLost 9
    0, .holdEnd 9, .hrEpochNowBit 6, .hrLinkForget 9 0, .hrLinkForget 0 6, .descriptorFetchDone [2 ^ 64],
    .orderIssue 0 1048576, .orderCompletion 65536 0, .orderTimeout 65536, .mbxPush 16 0 0 false false, .mbxPush 0 6 0
    false false, .mbxPush 0 0 (2 ^ 64) false false, .mbxPop 16 0 false false, .mbxPop 0 6 false false,
    .senderTimeout 16, .receiverTimeout 16, .mbxCtlRst 16 0, .mbxCtlRst 0 6, .govLockRead 6 false false,
    .govLockRelease 6, .govLockForce 6, .cfgStageOpen 6, .cfgStageAbort 6, .cfgCommitWrite 6 0, .cfgCommitWrite 0 (2
    ^ 64), .nop { pkt 0 with mbx := 16 }, .ident { pkt 0 with mbx := 16 }, .status { pkt 0 with mbx := 16 },
    .regRead { pkt 0 with mbx := 16 }, .regWrite { pkt 0 with mbx := 16 }, .storeRead { pkt 0 with mbx := 16 } [],
    .storeWrite { pkt 0 with mbx := 16 } none, .cfgOpen { pkt 0 with mbx := 16 }, .cfgCommit { pkt 0 with mbx := 16
    }, .cfgAbort { pkt 0 with mbx := 16 }, .lockTake { pkt 0 with mbx := 16 }, .lockRelease { pkt 0 with mbx := 16
    }, .lockForce { pkt 0 with mbx := 16 }, .brgStart { pkt 0 with mbx := 16 }, .brgStop { pkt 0 with mbx := 16 },
    .brgCtlStart 6, .brgCtlStop 6, .throttleAll { pkt 0 with mbx := 16 }, .throttleDie { pkt 0 with mbx := 16 },
    .budQuery { pkt 0 with mbx := 16 }, .hrEpochNow { pkt 0 with mbx := 16 }, .hrForget { pkt 0 with mbx := 16 },
    .hrQuery { pkt 0 with mbx := 16 }, .railQuery { pkt 0 with mbx := 16 }, .railPhases { pkt 0 with mbx := 16 },
    .railOpen { pkt 0 with mbx := 16 }] : List Instr).all (fun i => !i.wf) = true := by decide

/-- A term that each check of WellFormed refuses, part 3. -/
theorem test_wf_refuses_3 :
    ([.railCset { pkt 0 with mbx := 16 }, .sigLoad { pkt 0 with mbx := 16 }, .sigUnload { pkt 0 with mbx := 16 },
    .sigQuery { pkt 0 with mbx := 16 }, .ctxOpen { pkt 0 with mbx := 16 }, .ctxRevoke { pkt 0 with mbx := 16 },
    .ctxClose { pkt 0 with mbx := 16 }, .ctxQuery { pkt 0 with mbx := 16 }, .annCancel { pkt 0 with mbx := 16 },
    .reqReset { pkt 0 with mbx := 16 }, .reqEnable { pkt 0 with mbx := 16 }, .grantQuery { pkt 0 with mbx := 16 },
    .dmdQuery { pkt 0 with mbx := 16 }, .thLoad { pkt 0 with mbx := 16 }, .thBound { pkt 0 with mbx := 16 },
    .thQuery { pkt 0 with mbx := 16 }, .thHot { pkt 0 with mbx := 16 }, .ftQuery { pkt 0 with mbx := 16 }, .plStep {
    pkt 0 with mbx := 16 }, .plCtxPolicy { pkt 0 with mbx := 16 }, .plSeqFind { pkt 0 with mbx := 16 }, .plQuery {
    pkt 0 with mbx := 16 }, .rcvContext { pkt 0 with mbx := 16 }, .rcvEngine { pkt 0 with mbx := 16 }, .rcvPartition
    { pkt 0 with mbx := 16 }, .rcvChip { pkt 0 with mbx := 16 }, .rcvPwrcyc { pkt 0 with mbx := 16 }, .recMark { pkt
    0 with mbx := 16 }, .recPeek { pkt 0 with mbx := 16 }, .cntClear { pkt 0 with mbx := 16 }, .traceCtl { pkt 0
    with mbx := 16 }, .dumpState { pkt 0 with mbx := 16 }, .dumpSequence { pkt 0 with mbx := 16 }, .svcQuery { pkt 0
    with mbx := 16 }, .dwQuery { pkt 0 with mbx := 16 }, .calProbe { pkt 0 with mbx := 16 }, .probeDeferredStart 16,
    .storeBank { pkt 0 with mbx := 16 }, .loopDp { pkt 0 with mbx := 16 }, .thermDp { pkt 0 with mbx := 16 },
    .stRing { pkt 0 with mbx := 16 }, .sliceAdc { pkt 0 with mbx := 16 }, .ftScan { pkt 0 with mbx := 16 },
    .drainTimeout 4096, .partTimeout 16, .dmaTimeout 4, .rcvHoldWrite 6 0, .rcvHoldWrite 0 (2 ^ 64),
    .dwStatBlockedClear 6, .correctedWriteback 0xC00000, .correctedWriteback 4, .trcConsWrite 6 0, .trcConsWrite 0
    (2 ^ 64), .trcRingWrite 6 false 0, .trcRingWrite 0 false (2 ^ 64), .histCtlClear 6, .histCfgWrite 64 0 0,
    .histCfgWrite 0 6 0, .histCfgWrite 0 0 (2 ^ 64), .dumpStatHoldRelease 6] : List Instr).all (fun i => !i.wf) = true := by decide

/-- A term that each check of WellFormed refuses, part 4. -/
theorem test_wf_refuses_4 :
    ([.dmaErrorResponse 4 ⟨0, 0⟩, .dmaErrorResponse 0 ⟨32, 0⟩, .dmaStatClear 6 0, .dmaStatClear 0 (2 ^ 64), .plStatClear 6 0, .plStatClear 0 (2 ^ 64),
    .calImonWrite 96 0 0, .calImonWrite 0 6 0, .calImonWrite 0 0 (2 ^ 64), .storePageWrite 6 0, .storePageWrite 0 (2
    ^ 64), .storeWindowWrite 6 0x40000 0 false false, .storeWindowWrite 0 0x3FFFC 0 false false, .storeWindowWrite 0
    0x100000 0 false false, .storeWindowWrite 0 0x40000 (2 ^ 64) false
    false, .storeWindowRead 6 0x40000 0 false false false, .storeWindowRead 0 0x3FFFC 0 false false false,
    .storeWindowRead 0 0x100000 0 false false false,
    .storeWindowRead 0 0x40000 8 false false false, .railMeasRead 16 0 false false, .railMeasRead 0 6 false false,
    .phStatRead 96 0 false false, .phStatRead 0 6 false false, .hrLstatRead 9 0 false false, .hrLstatRead 0 6 false
    false, .plTdRead 6 false false, .storeEccRead 6 false false, .mbxStatRead 16 0 false false, .mbxStatRead 0 6
    false false, .mirCtlRead 6 false false, .registerWrite 6 0 0 false, .registerWrite 0 0x40000 0 false,
    .registerWrite 0 0 (2 ^ 64) false, .mfrMbxPush [2 ^ 64] false,
    .smbusUnsupportedCommand 256, .regacc false 1048576 0 false false, .regacc false 0 (2 ^ 64) false false,
    .refSourceUnready 5, .tileClockStop 512, .satelliteSupplyLoss 512, .pfaultNLevel 96 false] : List Instr).all (fun i => !i.wf) = true := by decide

/-- Terms at the low end of every range, which WellFormed accepts, part 1. -/
theorem test_wf_accepts_1 :
    ([.senseLineCheckDone 0 0 0, .railDlyExpiry 0, .penMidLevelEnd 0, .pgTimeoutExpiry 0, .probeRepetitionStart 0 0
    0, .probePulseEnd 0 [], .probeComplete 0, .railOff 0 0, .refSourceReady 0, .refselWrite 0 0, .clkoutCtlWrite 0 0
    false, .clockGateClose 0 false, .gtimeLoRead 0, .vselCodeValid 0, .syncLost 0, .satelliteSupplyUp 0,
    .droopLevelChange 0 0, .tileClockEdge 0, .headerReceive 0 0, .ringLoss 0, .reportReceived 0 0 0 false,
    .frameReturnCheck 0 false false 0, .norepSet 0, .norepService 0, .periodBoundary 0, .loopPass 0 none,
    .railCfgWrite 0 0 0, .railCtlCsetWrite 0 0 0, .railCtlOpenWrite 0 0 false, .railOptWrite 0 0 0 0, .railCoefWrite
    0 0 0, .imonConversion 0 0 0, .imbServiceTimeout 0, .limitCut 0 0 0, .burstSample 0 ⟨0, 0⟩, .phaseShutdownDelay 0,
    .hiccupRetry 0 0, .hrResetTimeout 0, .graceEnd 0, .pfaultRecognised 0 0, .sliceLinkFail 0, .ovClampEnd 0 0,
    .announcementAccept 0 0 0 0 0 0 0 0, .laneDecision 0, .heldRetest 0, .entryBlocking 0, .completionAccept 0 0 0,
    .completionAtCore 0, .diodeReadingArrival 0, .chatterWindowClose 0, .ftCfgWrite 0 none 0, .frameReceive 0 0 0,
    .hrlUpRise 0, .linkLost 0 0, .holdEnd 0, .hrEpochNowBit 0, .hrLinkForget 0 0, .descriptorFetchDone [],
    .orderIssue 0 0, .orderCompletion 0 0] : List Instr).all (fun i => i.wf) = true := by decide

/-- Terms at the low end of every range, which WellFormed accepts, part 2. -/
theorem test_wf_accepts_2 :
    ([.orderTimeout 0, .mbxPush 0 0 0 false false, .mbxPop 0 0 false false, .senderTimeout 0, .receiverTimeout 0,
    .mbxCtlRst 0 0, .govLockRead 0 false false, .govLockRelease 0, .govLockForce 0, .cfgStageOpen 0, .cfgStageAbort
    0, .cfgCommitWrite 0 0, .nop (pkt 0), .ident (pkt 0), .status (pkt 0), .regRead (pkt 0), .regWrite (pkt 0),
    .storeRead (pkt 0) [], .storeWrite (pkt 0) none, .cfgOpen (pkt 0), .cfgCommit (pkt 0), .cfgAbort (pkt 0),
    .lockTake (pkt 0), .lockRelease (pkt 0), .lockForce (pkt 0), .brgStart (pkt 0), .brgStop (pkt 0), .brgCtlStart
    0, .brgCtlStop 0, .throttleAll (pkt 0), .throttleDie (pkt 0), .budQuery (pkt 0), .hrEpochNow (pkt 0), .hrForget
    (pkt 0), .hrQuery (pkt 0), .railQuery (pkt 0), .railPhases (pkt 0), .railOpen (pkt 0), .railCset (pkt 0),
    .sigLoad (pkt 0), .sigUnload (pkt 0), .sigQuery (pkt 0), .ctxOpen (pkt 0), .ctxRevoke (pkt 0), .ctxClose (pkt
    0), .ctxQuery (pkt 0), .annCancel (pkt 0), .reqReset (pkt 0), .reqEnable (pkt 0), .grantQuery (pkt 0), .dmdQuery
    (pkt 0), .thLoad (pkt 0), .thBound (pkt 0), .thQuery (pkt 0), .thHot (pkt 0), .ftQuery (pkt 0), .plStep (pkt 0),
    .plCtxPolicy (pkt 0), .plSeqFind (pkt 0), .plQuery (pkt 0)] : List Instr).all (fun i => i.wf) = true := by decide

/-- Terms at the low end of every range, which WellFormed accepts, part 3. -/
theorem test_wf_accepts_3 :
    ([.rcvContext (pkt 0), .rcvEngine (pkt 0), .rcvPartition (pkt 0), .rcvChip (pkt 0), .rcvPwrcyc (pkt 0), .recMark
    (pkt 0), .recPeek (pkt 0), .cntClear (pkt 0), .traceCtl (pkt 0), .dumpState (pkt 0), .dumpSequence (pkt 0),
    .svcQuery (pkt 0), .dwQuery (pkt 0), .calProbe (pkt 0), .probeDeferredStart 0, .storeBank (pkt 0), .loopDp (pkt
    0), .thermDp (pkt 0), .stRing (pkt 0), .sliceAdc (pkt 0), .ftScan (pkt 0), .drainTimeout 0, .partTimeout 0,
    .dmaTimeout 0, .rcvHoldWrite 0 0, .dwStatBlockedClear 0, .correctedWriteback 0, .trcConsWrite 0 0, .trcRingWrite
    0 false 0, .histCtlClear 0, .histCfgWrite 0 0 0, .dumpStatHoldRelease 0, .dmaErrorResponse 0 ⟨0, 0⟩, .dmaStatClear 0
    0, .plStatClear 0 0, .calImonWrite 0 0 0, .storePageWrite 0 0, .storeWindowWrite 0 0x40000 0 false false,
    .storeWindowRead 0 0x40000 0 false false false, .railMeasRead 0 0 false false, .phStatRead 0 0 false false,
    .hrLstatRead 0 0 false false, .plTdRead 0 false false, .storeEccRead 0 false false, .mbxStatRead 0 0 false
    false, .mirCtlRead 0 false false, .registerWrite 0 0 0 false, .mfrMbxPush [] false, .smbusUnsupportedCommand 0,
    .regacc false 0 0 false false, .refSourceUnready 0, .tileClockStop 0, .satelliteSupplyLoss 0, .pfaultNLevel 0
    false] : List Instr).all (fun i => i.wf) = true := by decide

/-- Each field of a packet beyond its width is refused (Table 13.1). -/
theorem test_wf_packet :
    [{ pkt 0 with mbx := 16 }, { pkt 0 with port := 6 }, { pkt 0 with cls := 4 }, { pkt 0 with tag := 256 },
      { pkt 0 with rsv := 32 }, { pkt 0 with arg := 2 ^ 32 }, { pkt 0 with params := List.replicate 32 0 },
      { pkt 0 with params := [2 ^ 64] }].all (fun x => !Packet.wf x) = true := by decide

/-! ### A state and operands for the premises of each statement -/

/-- Every premise of SuppliesAndReset is met by some state and operands. -/
theorem test_meets_SuppliesAndReset :
    (∃ (s : State), s.gov.aon = false)
    ∧ (∃ (s : State) (vdd : Nat) (vdda : Nat) (ns : Nat), s.gov.aon = true ∧ ((vdd < 600 ∨ vdda < 1500)) ∧ 1000 ≤ ns)
    ∧ (∃ (s : State) (ns : Nat), s.gov.aon = true ∧ s.gov.porst = false ∧ 5 ≤ ns) :=
  ⟨⟨box { aon := false }, by decide⟩,
   ⟨box { up with gtime := 5 }, 599, 1500, 1000, by decide⟩,
   ⟨{ box { put up [(F.MIR_ADDR_ADDR, 3), (F.FT_STAT_TRIPPED, 1), (F.GOV_STAT_RSTCNT, 4)] with gtime := 9 } with mem := [(0, 1)] },
     5, by decide⟩⟩

/-- Every premise of ClockAndFuses is met by some state and operands. -/
theorem test_meets_ClockAndFuses :
    (∃ (s : State), s.gov.aon = true ∧ s.gov.porst = true)
    ∧ (∃ (s : State), s.gov.aon = true ∧ s.gov.porst = false ∧ s.gov.gclk = false)
    ∧ (∃ (s : State), s.build.ok = true ∧ s.gov.aon = true ∧ s.gov.porst = false ∧ s.gov.gclk = false ∧ s.gov.clk.xoWait
      = false)
    ∧ (∃ (s : State) (id1 : Nat) (id2 : Nat) (par : Bool), s.gov.aon = true ∧ s.gov.porst = false ∧ s.gov.brg.fuseDone =
      false ∧ id1 % 2 ^ 77 = id2 % 2 ^ 77 ∧ (popCount 77 (id1 % 2 ^ 77) + b2n par) % 2 = 0)
    ∧ (∃ (s : State), s.gov.aon = true ∧ s.gov.porst = false ∧ s.gov.brg.fuseDone = false) :=
  ⟨⟨box {}, by decide⟩,
   ⟨box { porst := false }, by decide⟩,
   ⟨box { porst := false, clk := { xoWait := false }, gtime := 7 }, by decide⟩,
   ⟨box { porst := false }, 3, 3, false, by decide⟩,
   ⟨box { porst := false }, by decide⟩⟩

/-- Every premise of StoreStage is met by some state and operands. -/
theorem test_meets_StoreStage :
    (∃ (s : State), s.gov.live = true ∧ s.gov.stage = sSTORE ∧ s.gov.recr.started = false ∧ s.gov.rd F.REC_HEAD_NEXT = 0
      ∧ s.gov.rd F.REC_HEAD_SLOTS ≠ 0 ∧ s.gov.dark 36 = false)
    ∧ (∃ (s : State), s.gov.live = true ∧ s.gov.stage = sSTORE ∧ s.gov.recr.started = false)
    ∧ (∃ (s : State), s.build.ok = true ∧ s.gov.live = true ∧ s.gov.stage = sSTORE ∧ s.gov.recr.started = true) :=
  ⟨⟨box (put (stg sSTORE) [(F.GOV_STAT_RSTCNT, 2), (F.REC_HEAD_SLOTS, 5)]), by decide⟩,
   ⟨box { stg sSTORE with gtime := 98305 }, by decide⟩,
   ⟨box { stg sSTORE with recr := { started := true }, gtime := 98304 }, by decide⟩⟩

/-- Every premise of Discovery is met by some state and operands. -/
theorem test_meets_Discovery :
    (∃ (s : State), s.gov.live = true ∧ s.gov.stage = sDISCOVER ∧ s.gov.brg.idDone = false)
    ∧ (∃ (s : State) (n : Nat), s.gov.live = true ∧ n < s.build.rails ∧ s.gov.stage = sDISCOVER)
    ∧ (∃ (s : State), s.gov.live = true ∧ s.gov.stage = sDISCOVER ∧ s.gov.brg.idDone = true ∧ (s.gov.flag
      F.BRG_CTL_AUTO && s.gov.flag F.BRG_STAT_CFG_RETAINED) = false)
    ∧ (∃ (s : State), s.gov.live = true ∧ s.gov.stage = sDISCOVER ∧ s.gov.brg.idDone = true ∧ s.gov.flag F.BRG_CTL_AUTO
      = true ∧ s.gov.flag F.BRG_STAT_CFG_RETAINED = true ∧ s.gov.flag F.FT_STAT_TRIPPED = false ∧ s.gov.flag
      F.FT_STAT_LATCHED = false ∧ startCheck s.build s.gov = none) :=
  ⟨⟨box (stg sDISCOVER), by decide⟩,
   ⟨box (stg sDISCOVER), 15, by decide⟩,
   ⟨box { stg sDISCOVER with brg := { idDone := true } }, by decide⟩,
   ⟨box { put (stg sDISCOVER) (rail0 ++ [(F.BRG_CTL_AUTO, 1), (F.BRG_STAT_CFG_RETAINED, 1)]) with brg := { idDone := true }, gtime := 4 }, by decide⟩⟩

/-- Every premise of StartAndStop is met by some state and operands. -/
theorem test_meets_StartAndStop :
    (∃ (s : State), s.gov.live = true ∧ ((s.gov.stage = sWAITCFG ∨ s.gov.stage = sOFF)) ∧ s.gov.flag F.FT_STAT_TRIPPED =
      false ∧ s.gov.flag F.FT_STAT_LATCHED = false ∧ startCheck s.build s.gov = none)
    ∧ (∃ (s : State), s.gov.live = true ∧ s.gov.stage = sREADY ∧ ((∀ e ∈ s.gov.probes, e.2.inPulse = false))) :=
  ⟨⟨box { put (stg sOFF) rail0 with gtime := 4 }, by decide⟩,
   ⟨box (put up rail0), by decide⟩⟩

/-- Every premise of VinRules is met by some state and operands. -/
theorem test_meets_VinRules :
    (∃ (s : State) (nV : Int), s.gov.live = true ∧ s.gov.quiet ∧ sDISCOVER ≤ s.gov.stage ∧ (s.gov.rail 0).sliceFail =
      false ∧ s.gov.vinInWindow (vinCode nV) = true ∧ s.gov.rd F.VIN_PROT_VIN_UVLO ≤ vinCode nV)
    ∧ (∃ (s : State) (t0 : Nat), s.gov.live = true ∧ s.gov.brg.vinIn = some t0)
    ∧ (∃ (s : State) (t0 : Nat), s.gov.live = true ∧ s.gov.quiet ∧ s.gov.brg.startAt = some t0 ∧ s.gov.stage = sSEQUP ∧
      s.gov.brg.vinOk = false ∧ s.gov.rd F.BRG_TIME_VIN_TO ≠ 0)
    ∧ (∃ (s : State) (t0 : Nat), s.gov.live = true ∧ s.gov.brg.vinOutSince = some t0 ∧ s.gov.stage = sREADY ∧ ((∀ e ∈
      s.gov.probes, e.2.inPulse = false))) :=
  ⟨⟨box (put (stg sDISCOVER) [(F.BRG_CTL_VIN_MIN, 100), (F.BRG_CTL_VIN_MAX, 120), (F.VIN_PROT_VIN_UVLO, 100)]),
     50000000, by decide⟩,
   ⟨box { stg sDISCOVER with brg := { vinIn := some 3 } }, 3, by decide⟩,
   ⟨box { put (stg sSEQUP) (rail0 ++ [(F.BRG_TIME_VIN_TO, 1)]) with brg := { startAt := some 3 } }, 3, by decide⟩,
   ⟨box { put up rail0 with brg := { vinOutSince := some 3 } }, 3, by decide⟩⟩

/-- Every premise of SequencingUp is met by some state and operands. -/
theorem test_meets_SequencingUp :
    (∃ (s : State) (q : Nat), s.build.ok = true ∧ s.gov.live = true ∧ s.gov.stage = sSEQUP ∧ s.gov.brg.vinOk = true ∧
      startedGood s.build s.gov = true ∧ nextGroup s.build s.gov s.gov.brg.group = some q ∧ (groupRails s.build s.gov
      q).all (fun n => (s.gov.rail n).senseDone) = true ∧ ((∀ n ∈ groupRails s.build s.gov q, s.gov.tracking n = true
      ∨ s.gov.rd (F.RAIL_SEQ_DLY n) ≠ 0)))
    ∧ (∃ (s : State) (n : Nat) (t0 : Nat), s.build.ok = true ∧ s.gov.live = true ∧ s.gov.stage = sSEQUP ∧ n <
      s.build.rails ∧ (s.gov.rail n).dlyAt = some t0 ∧ s.gov.nU n ≠ 0 ∧ (s.gov.rail n).sliceFail = false ∧ (∀ m ∈
      enabledRails s.build s.gov, s.gov.tracking m = true → s.gov.rd (F.RAIL_SEQ_SRC m) ≠ n))
    ∧ (∃ (s : State) (n : Nat) (t0 : Nat), s.gov.live = true ∧ n < s.build.rails ∧ (s.gov.rail n).midAt = some t0)
    ∧ (∃ (s : State) (n : Nat) (t0 : Nat), s.gov.live = true ∧ s.gov.stage = sSEQUP ∧ n < s.build.rails ∧
      s.gov.rampEnds n = some t0 ∧ (s.gov.rail n).good = false ∧ (s.gov.rail n).retry = false ∧ s.gov.rd
      (F.RAIL_SEQ_EN n) = 1 ∧ s.gov.mode n ≠ mFAULT) :=
  ⟨⟨box { put (stg sSEQUP) (rail0 ++ [(F.RAIL_SEQ_DLY 0, 2)]) with brg := { vinOk := true }, rails := [(0, { senseDone := true })], gtime := 5 }, 0, by decide⟩,
   ⟨box { put (stg sSEQUP) rail0 with rails := [(0, { dlyAt := some 9, first := 0, count := 6 })], phs := [(0, { usable := true })] }, 0, 9, by decide⟩,
   ⟨box { stg sSEQUP with rails := [(15, { midAt := some 9, first := 0, count := 6 })], phs := [(0, { usable := true })] }, 15, 9, by decide⟩,
   ⟨box { put (stg sSEQUP) rail0 with gtime := 200009, rails := [(0, { ramp := { t0 := 9, dur := 100000 }, started := true, switching := true, count := 6 })] },
     0, 100009, by decide⟩⟩

/-- Every premise of ProbeSequence is met by some state and operands. -/
theorem test_meets_ProbeSequence :
    (∃ (s : State) (n : Nat) (p : Probe), s.gov.live = true ∧ n < s.build.rails ∧ mfind s.gov.probes n = some p ∧
      p.inPulse = false ∧ p.reps < 8 ∧ s.gov.mode n = mCLOSED ∧ (s.gov.rail n).hold = false)
    ∧ (∃ (s : State) (n : Nat) (p : Probe), s.gov.live = true ∧ ({ s.gov with probes := [] } : Gov).quiet ∧ (∀ e ∈
      s.gov.probes, e.2.cal = true → s.gov.railIdle e.1 = false) ∧ mfind s.gov.probes n = some p ∧ p.inPulse = true ∧
      p.stopPend = false ∧ s.gov.mode n = mOPEN)
    ∧ (∃ (s : State) (n : Nat) (p : Probe), s.gov.live = true ∧ mfind s.gov.probes n = some p ∧ p.inPulse = false ∧
      p.reps = 8 ∧ p.cal = false) :=
  ⟨⟨box { put (stg sPROBE) (rail0 ++ [(F.RAIL_STAT_MODE 0, mCLOSED), (F.RAIL_STAT_DUTY 0, 77)]) with probes := [(0, { reps := 7, t0 := 5 })] }, 0, { reps := 7, t0 := 5 }, by decide⟩,
   ⟨box { put (stg sPROBE) (rail0 ++ [(F.RAIL_STAT_MODE 0, mOPEN)]) with probes := [(0, { reps := 7, inPulse := true, d0 := 9 })] }, 0,
     { reps := 7, inPulse := true, d0 := 9 }, by decide⟩,
   ⟨box { put (stg sPROBE) rail0 with probes := [(0, { reps := 8, kept := 8, t0 := 7 })] }, 0, { reps := 8, kept := 8, t0 := 7 }, by decide⟩⟩

/-- Every premise of LinksToReady is met by some state and operands. -/
theorem test_meets_LinksToReady :
    (∃ (s : State), s.gov.live = true ∧ s.gov.stage = sLINKS ∧ s.gov.flag F.GTIME_STAT_ALIGNED = false ∧ s.gov.flag
      F.BRG_STAT_UNALIGNED = false)
    ∧ (∃ (s : State), s.gov.live = true ∧ s.gov.stage = sLINKS ∧ ((s.gov.flag F.GTIME_STAT_ALIGNED = true ∨ s.gov.flag
      F.BRG_STAT_UNALIGNED = true)))
    ∧ (∃ (s : State) (t0 : Nat), s.gov.live = true ∧ s.gov.stage = sREADY ∧ s.gov.brg.readyWait = some t0) :=
  ⟨⟨box { put (stg sLINKS) [(F.BRG_TIME_HR_WAIT, 2)] with brg := { linksAt := 4 } }, by decide⟩,
   ⟨box { put (stg sLINKS) [(F.GTIME_STAT_ALIGNED, 1)] with gtime := 9 }, by decide⟩,
   ⟨box { up with brg := { readyWait := some 6 } }, 6, by decide⟩⟩

/-- Every premise of PowerDown is met by some state and operands. -/
theorem test_meets_PowerDown :
    (∃ (s : State) (t0 : Nat), s.build.ok = true ∧ s.gov.live = true ∧ s.gov.quiet ∧ s.gov.stage = sSEQDOWN ∧
      s.gov.brg.drainAt = some t0 ∧ (∀ n, (s.gov.rail n).commitAt = none))
    ∧ (∃ (s : State) (n : Nat) (nV : Int), s.build.ok = true ∧ s.gov.live = true ∧ s.gov.quiet ∧ n < s.build.rails ∧
      s.gov.mode n = mDOWN ∧ (∀ m, (s.gov.rail m).commitAt = none) ∧ voltCode nV < 100 ∧ (s.gov.rail n).sliceFail =
      false)
    ∧ (∃ (s : State) (n : Nat) (t0 : Nat) (nV : Int), s.build.ok = true ∧ s.gov.live = true ∧ s.gov.quiet ∧ n <
      s.build.rails ∧ s.gov.mode n = mDOWN ∧ (∀ m, (s.gov.rail m).commitAt = none) ∧ (100 ≤ voltCode nV ∨ (s.gov.rail
      n).sliceFail = true) ∧ s.gov.downEnd n = some t0) :=
  ⟨⟨box { put (stg sSEQDOWN) rail0 with brg := { drainAt := some 3 } }, 3, by decide, by decide, by decide, by decide, by decide, noCommit rfl⟩,
   ⟨box
     { put (stg sSEQDOWN) (rail0 ++ [(F.RAIL_STAT_MODE 0, mDOWN)]) with rails := [(0, { started := true, switching := true })] },
     0, 0, by decide, by decide, by decide, by decide, by decide, noCommit rfl, by decide⟩,
   ⟨box
     { put (stg sSEQDOWN) (rail0 ++ [(F.RAIL_STAT_MODE 0, mDOWN)]) with rails := [(0, { started := true, switching := true, ramp := { t0 := 5, dur := 10000 } })] },
     0, 10005, 1000000000, by decide, by decide, by decide, by decide, by decide, noCommit rfl, by decide⟩⟩

/-- Every premise of ReferenceSources is met by some state and operands. -/
theorem test_meets_ReferenceSources :
    (∃ (s : State) (j : Nat), s.gov.live = true ∧ j < 5 ∧ s.gov.refReady j = false)
    ∧ (∃ (s : State) (j : Nat), s.gov.live = true ∧ j < 5 ∧ s.gov.refReady j = true ∧ j ≠ s.gov.rd F.REF_STAT_CUR)
    ∧ (∃ (s : State), s.gov.live = true ∧ s.gov.rd F.REF_STAT_CUR < 5 ∧ s.gov.refReady (s.gov.rd F.REF_STAT_CUR) = true
      ∧ s.gov.flag F.REFSEL_AUTO = true ∧ s.gov.flag F.REF_STAT_SWITCHING = false ∧ s.gov.rd F.REFSEL_PREF < 4 ∧
      s.gov.refReady (s.gov.rd F.REFSEL_PREF) = true ∧ s.gov.rd F.REFSEL_PREF ≠ s.gov.rd F.REF_STAT_CUR)
    ∧ (∃ (s : State), s.gov.live = true ∧ s.gov.rd F.REF_STAT_CUR < 5 ∧ s.gov.refReady (s.gov.rd F.REF_STAT_CUR) = true
      ∧ s.gov.flag F.REFSEL_AUTO = false) :=
  ⟨⟨box { up with gtime := 4 }, 4, by decide⟩,
   ⟨box (put up [(F.REF_STAT_REF_RDY, 31), (F.REF_STAT_CUR, 4)]), 3, by decide⟩,
   ⟨box (put up [(F.REF_STAT_REF_RDY, 31), (F.REF_STAT_CUR, 4), (F.REFSEL_AUTO, 1), (F.REFSEL_PREF, 3)]), by decide⟩,
   ⟨box (put up [(F.REF_STAT_REF_RDY, 31), (F.REF_STAT_CUR, 4), (F.REFSEL_AUTO, 0)]), by decide⟩⟩

/-- Every premise of ReferenceSwitch is met by some state and operands. -/
theorem test_meets_ReferenceSwitch :
    (∃ (s : State) (w : Nat), s.gov.live = true ∧ s.gov.flag F.REFSEL_AUTO = false ∧ bits w 0 3 < 5 ∧ s.gov.refReady
      (bits w 0 3) = true ∧ s.gov.flag F.REF_STAT_SWITCHING = false)
    ∧ (∃ (s : State) (w : Nat), s.gov.live = true ∧ (s.gov.refReady (bits w 0 3) = false ∨ s.gov.flag F.REFSEL_AUTO =
      true ∨ 5 ≤ bits w 0 3 ∨ s.gov.flag F.REF_STAT_SWITCHING = true))
    ∧ (∃ (s : State), s.gov.live = true ∧ s.gov.flag F.REF_STAT_SWITCHING = true ∧ s.gov.rd F.REFSEL_SRC < 5 ∧
      s.gov.refReady (s.gov.rd F.REFSEL_SRC) = true)
    ∧ (∃ (s : State), s.gov.live = true ∧ s.gov.flag F.REFSEL_AUTO = true ∧ s.gov.rd F.REFSEL_PREF < 4 ∧ s.gov.refReady
      (s.gov.rd F.REFSEL_PREF) = true ∧ s.gov.rd F.REFSEL_PREF ≠ s.gov.rd F.REF_STAT_CUR ∧ s.gov.flag
      F.REF_STAT_SWITCHING = false)
    ∧ (∃ (s : State), s.gov.live = true ∧ s.gov.flag F.REF_STAT_HOLDOVER = true ∧ s.gov.flag F.REF_STAT_SWITCHING =
      false ∧ s.gov.refReady (s.gov.rd F.REF_STAT_CUR) = true ∧ s.gov.clk.switched = true)
    ∧ (∃ (s : State), s.gov.clk.switched = false) :=
  ⟨⟨box (put up [(F.REF_STAT_REF_RDY, 31), (F.REF_STAT_CUR, 4), (F.REFSEL_SRC, 4), (F.REFSEL_AUTO, 0)]), 0x28, by decide⟩,
   ⟨box (put up [(F.REF_STAT_REF_RDY, 15), (F.REFSEL_SRC, 3), (F.REFSEL_AUTO, 1)]), 4, by decide⟩,
   ⟨box (put up [(F.REF_STAT_REF_RDY, 16), (F.REFSEL_SRC, 4), (F.REF_STAT_SWITCHING, 1)]), by decide⟩,
   ⟨box (put up [(F.REF_STAT_REF_RDY, 8), (F.REFSEL_AUTO, 1), (F.REFSEL_PREF, 3), (F.REF_STAT_CUR, 4)]), by decide⟩,
   ⟨box { put up [(F.REF_STAT_REF_RDY, 8), (F.REF_STAT_CUR, 3), (F.REF_STAT_HOLDOVER, 1), (F.REF_STAT_LOST, 1)] with clk := { switched := true } },
     by decide⟩,
   ⟨box (put up [(F.REF_STAT_HOLDOVER, 1)]), by decide⟩⟩

/-- Every premise of ClocksAndSync is met by some state and operands. -/
theorem test_meets_ClocksAndSync :
    (∃ (s : State) (k : Nat), s.gov.live = true ∧ k < 12 ∧ bit (s.gov.rd F.CLKGATE_CTL_DIS) k = false ∧ s.gov.hasWork
      k = false)
    ∧ (∃ (s : State), s.gov.live = true)
    ∧ (∃ (s : State) (code : Nat) (n : Nat), s.gov.live = true ∧ n < s.build.rails ∧ s.gov.stage = sREADY ∧
      s.gov.running n = true ∧ (s.gov.rail n).vset < s.gov.rd (F.RAIL_OPT_VSET n (code % 8)) ∧ (s.gov.rail n).vchg =
      none)
    ∧ (∃ (s : State) (n : Nat), s.build.ok = true ∧ s.gov.live = true ∧ n < s.build.rails ∧ s.gov.flag
      (F.RAIL_CTL_SYNC_EN n) = true ∧ (s.gov.rail n).started = true ∧ 0 < (s.gov.rail n).per)
    ∧ (∃ (s : State) (n : Nat) (t0 : Nat), s.gov.live = true ∧ n < s.build.rails ∧ s.gov.flag (F.RAIL_CTL_SYNC_EN n) =
      true ∧ (s.gov.rail n).syncEdge = some t0 ∧ s.gov.flag (F.RAIL_STAT_SYNC_LOCK n) = true) :=
  ⟨⟨box up, 11, by decide⟩,
   ⟨box up, by decide⟩,
   ⟨box (put up (rail0 ++ [(F.RAIL_STAT_MODE 0, mCLOSED), (F.RAIL_OPT_VSET 0 7, 100)])), 7, 0, by decide⟩,
   ⟨box { put up [(F.RAIL_CTL_SYNC_EN 0, 1)] with rails := [(0, { started := true, per := 16000, syncEdge := some 5, syncGood := 2 })], gtime := 1005 }, 0, by decide⟩,
   ⟨box { put up [(F.RAIL_CTL_SYNC_EN 0, 1), (F.RAIL_STAT_SYNC_LOCK 0, 1)] with rails := [(0, { started := true, per := 16000, perCur := 15900, syncEdge := some 5 })], gtime := 1005 }, 0, 5, by decide⟩⟩

/-- Every premise of SatelliteClock is met by some state and operands. -/
theorem test_meets_SatelliteClock :
    (∃ (s : State) (u : Nat), s.build.tile u = true ∧ (s.gov.sat u).supply = false)
    ∧ (∃ (s : State) (u : Nat), s.build.tile u = true)
    ∧ (∃ (s : State) (u : Nat), s.build.tile u = true ∧ (s.gov.sat u).supply = true)
    ∧ (∃ (s : State) (u : Nat), s.build.tile u = true ∧ (s.gov.sat u).supply = true ∧ (s.gov.sat u).stopAt = none)
    ∧ (∃ (s : State) (u : Nat), s.build.tile u = true ∧ (s.gov.sat u).supply = true ∧ (s.gov.sat u).stopAt.isSome =
      true) :=
  ⟨⟨box {}, 511, by decide⟩,
   ⟨box { up with st := { sats := [(511, { supply := true, tcyc := 4 })] } }, 511, by decide⟩,
   ⟨box { up with st := { sats := [(0, { supply := true, set := { l1 := 1000, l2 := 900, hys := 10 } })] } }, 0,
     by decide⟩,
   ⟨box { up with st := { sats := [(63, { supply := true, ringOk := true, enBit := true })] }, gtime := 9 }, 63,
     by decide⟩,
   ⟨box
     { up with st := { sats := [(63, { supply := true, ringOk := true, en := true, enBit := true, stopAt := some 3 })] }, gtime := 9 },
     63, by decide⟩⟩

/-- Every premise of RingFrames is met by some state and operands. -/
theorem test_meets_RingFrames :
    (∃ (s : State) (d : Nat), s.gov.live = true ∧ d < s.build.dies ∧ s.gov.ringTest d = false)
    ∧ (∃ (s : State) (u : Nat) (err : Nat) (h : StHdr), s.gov.live = true ∧ s.build.tile u = true ∧ (s.gov.sat u).supply
      = true ∧ (s.gov.ring (u / 64)).hdr = some h ∧ hdrOk (Nat.xor h.word (err % 2 ^ 128)) = true ∧ bits (Nat.xor h.word
      (err % 2 ^ 128)) 0 8 % 4 = u % 64 / 16 ∧ bits (Nat.xor h.word (err % 2 ^ 128)) 0 8 % 64 = u % 64)
    ∧ (∃ (s : State) (u : Nat) (err : Nat) (h : StHdr), s.gov.live = true ∧ s.build.tile u = true ∧ (s.gov.sat u).supply
      = true ∧ (s.gov.ring (u / 64)).hdr = some h ∧ hdrOk (Nat.xor h.word (err % 2 ^ 128)) = false)
    ∧ (∃ (s : State) (d : Nat) (f : Nat) (rest : List Nat), s.build.ok = true ∧ s.gov.live = true ∧ d < s.build.dies ∧
      (s.gov.ring d).out = f :: rest ∧ f < 256)
    ∧ (∃ (s : State) (d : Nat) (f : Nat) (fnum : Nat) (rest : List Nat) (arrived : Bool) (crcOk : Bool), s.build.ok =
      true ∧ s.gov.live = true ∧ d < s.build.dies ∧ (s.gov.ring d).out = f :: rest ∧ (arrived && crcOk && decide (fnum %
      256 = f)) = false) :=
  ⟨⟨box { up with st := { rings := [(7, { fnum := 255, out := [254] })], enmask := [(7, 2 ^ 63)] } }, 7,
     by decide +kernel⟩,
   ⟨box
     { up with st := { sats := [(64, { supply := true })], rings := [(1, { hdr := some { fnum := 0, enm := 1, ofs := 9 } })] } },
     64, 0, { fnum := 0, enm := 1, ofs := 9 }, by decide +kernel⟩,
   ⟨box
     { up with st := { sats := [(64, { supply := true })], rings := [(1, { hdr := some { fnum := 0, enm := 1, ofs := 9 } })] } },
     64, 1, { fnum := 0, enm := 1, ofs := 9 }, by decide +kernel⟩,
   ⟨box { up with st := { rings := [(7, { out := [255, 0], okRun := 3 })] } }, 7, 255, [0], by decide +kernel⟩,
   ⟨box { up with st := { rings := [(7, { out := [255, 0], okRun := 4 })] } }, 7, 255, 254, [0], true, true,
     by decide +kernel⟩⟩

/-- Every premise of TileReports is met by some state and operands. -/
theorem test_meets_TileReports :
    (∃ (x : Sat) (now : Nat) (l : Nat), x.latch = some l ∧ l ≤ now)
    ∧ (∃ (s : State) (u : Nat) (err : Nat) (v : Nat) (w : Nat), s.build.ok = true ∧ s.gov.live = true ∧ s.build.tile u
      = true ∧ bit (s.gov.ring (u / 64)).due (u % 64) = true ∧ (s.gov.satNow u).slot = some v ∧ w = Nat.xor v (err % 2
      ^ 56) ∧ parity56 w = 0 ∧ bits w 0 6 = u % 64 ∧ (s.gov.trec u).valid = true)
    ∧ (∃ (s : State) (u : Nat) (err : Nat) (present : Bool), s.gov.live = true ∧ s.build.tile u = true ∧ bit
      (s.gov.ring (u / 64)).due (u % 64) = true ∧ (present = false ∨ (s.gov.satNow u).slot = none ∨ ∃ v, (s.gov.satNow
      u).slot = some v ∧ (parity56 (Nat.xor v (err % 2 ^ 56)) ≠ 0 ∨ bits (Nat.xor v (err % 2 ^ 56)) 0 6 ≠ u % 64)))
    ∧ (∃ (s : State) (u : Nat), s.build.ok = true ∧ s.gov.live = true ∧ s.build.tile u = true ∧ s.gov.flag
      (F.ST_TILE_NOREP u) = false)
    ∧ (∃ (s : State) (u : Nat), s.gov.live = true ∧ s.build.tile u = true ∧ s.gov.flag (F.ST_TILE_NOREP u) = true ∧
      (s.gov.trec u).norepTold = false) :=
  ⟨⟨{ supply := true, tcyc := 8, latch := some 14 }, 14, 14, by decide⟩,
   ⟨box
     { up with gtime := 100, st := { sats := [(65, { supply := true, slot := some 0x100001, tcyc := 70000, en := true, level := 2, dmax := 2, set := { hseq := 3 } })], rings := [(1, { due := 2 })], recs := [(65, { valid := true, lowC := 65535, tcyc := 9 })] } },
     65, 0, _, _, by decide, by decide, by decide, by decide, rfl, rfl, by decide⟩,
   ⟨box { up with st := { sats := [(65, { supply := true, slot := some 3 })], rings := [(1, { due := 2 })] } }, 65, 4, true, by decide, by decide, by decide,
     .inr (.inr ⟨3, by decide⟩)⟩,
   ⟨box { up with st := { recs := [(511, { lastRep := 10 })] } }, 511, by decide⟩,
   ⟨box { put up [(F.ST_TILE_NOREP 511, 1)] with st := { recs := [(511, { norepAt := 10 })] } }, 511, by decide⟩⟩

/-- Every premise of RailPasses is met by some state and operands. -/
theorem test_meets_RailPasses :
    (∃ (s : State) (n : Nat), s.gov.live = true ∧ n < s.build.rails ∧ 0 < (s.gov.rail n).perCur ∧ (s.gov.rail
      n).started = true ∧ s.gov.mode n ≠ mFAULT ∧ (s.gov.rail n).slewLeft = 0)
    ∧ (∃ (s : State) (n : Nat), s.gov.live = true ∧ n < s.build.rails ∧ 0 < (s.gov.rail n).perCur ∧ (s.gov.rail
      n).started = true ∧ s.gov.mode n ≠ mFAULT)
    ∧ (∃ (s : State) (n : Nat) (sample : Option Sample), s.gov.live = true ∧ s.gov.quiet ∧ n < s.build.rails ∧
      (s.gov.rail n).started = true ∧ s.gov.mode n ≠ mFAULT ∧ 0 < (s.gov.rail n).perCur ∧ (s.gov.rail n).jIdx <
      (s.gov.rail n).k ∧ (s.gov.rail n).sliceFail = false ∧ (∀ x, sample = some x → x.ofs < -250 ∨ 250 < x.ofs))
    ∧ (∃ (s : State) (n : Nat) (ofs : Int), s.build.ok = true ∧ s.gov.live = true ∧ s.gov.quiet ∧ n < s.build.rails ∧
      -250 ≤ ofs ∧ ofs ≤ 250 ∧ (s.gov.rail n).started = true ∧ 0 < (s.gov.rail n).perCur ∧ (s.gov.rail n).jIdx <
      (s.gov.rail n).k ∧ (s.gov.rail n).sliceFail = false ∧ s.gov.stage = sREADY ∧ s.gov.mode n = mCLOSED ∧ s.gov.flag
      (F.RAIL_CTL_OPEN n) = false ∧ (s.gov.rail n).hold = false ∧ (s.gov.rail n).ovCnt < 3 ∧ (s.gov.rail n).switching
      = true ∧ (s.gov.rail n).good = true ∧ (s.gov.rail n).retry = false ∧ (s.gov.rail n).close = none ∧ s.gov.flag
      (F.RAIL_FF_FF_EN n) = false ∧ s.gov.flag (F.RAIL_STAT_FF_ACT n) = false ∧ s.gov.rd (F.RAIL_CTL_DMAX n) < 2 ^ 16
      ∧ (∀ p ∈ (s.gov.rail n).block, p < 96))
    ∧ (∃ (s : State) (n : Nat) (ofs : Int), s.build.ok = true ∧ s.gov.live = true ∧ n < s.build.rails ∧ -250 ≤ ofs ∧
      ofs ≤ 250 ∧ (s.gov.rail n).started = true ∧ 0 < (s.gov.rail n).perCur ∧ (s.gov.rail n).jIdx < (s.gov.rail n).k ∧
      (s.gov.rail n).sliceFail = false ∧ s.gov.mode n = mBURST ∧ (s.gov.rail n).hold = false ∧ (s.gov.rail n).ovCnt <
      3)
    ∧ (∃ (s : State) (n : Nat) (nV : Int) (ofs : Int), s.build.ok = true ∧ s.gov.live = true ∧ n < s.build.rails ∧ -250
      ≤ ofs ∧ ofs ≤ 250 ∧ (s.gov.rail n).started = true ∧ 0 < (s.gov.rail n).perCur ∧ (s.gov.rail n).jIdx <
      (s.gov.rail n).k ∧ (s.gov.rail n).sliceFail = false ∧ s.gov.mode n = mBURST ∧ (s.gov.rail n).hold = false ∧
      (s.gov.rail n).ovCnt < 3 ∧ 0 < (s.gov.rail n).bursting ∧ (s.gov.rail n).vset + s.gov.lf n (F.RAIL_BURST_BHI n) <
      voltCode nV) :=
  ⟨⟨box { put up [(F.RAIL_STAT_MODE 0, mCLOSED)] with rails := [(0, { per := 16000, perCur := 16000, started := true, switching := true, good := true, k := 1, first := 0, count := 6 })], phs := [(0, { usable := true, pen := true, pwm := .high, sw := true, next := some 16000 })] }, 0, by decide⟩,
   ⟨box { put up [(F.RAIL_STAT_MODE 15, mCLOSED)] with rails := [(15, { per := 16000, perCur := 16000, started := true, switching := true, good := true, k := 1, first := 0, count := 6, slewLeft := 3, slewFrom := 15000 })], phs := [(0, { usable := true, pen := true, pwm := .high, sw := true, next := some 16000 })] }, 15, by decide⟩,
   ⟨box { put up [(F.RAIL_STAT_MODE 0, mCLOSED), (F.RAIL_MEAS_MISS 0, 255)] with rails := [(0, { per := 16000, perCur := 16000, started := true, switching := true, good := true, k := 1, first := 0, count := 6 })] }, 0, some ⟨5, 251⟩, by decide, by decide, by decide, by decide, by decide, by decide, by decide, by decide,
    fun _ h => by cases h; exact .inr (by decide)⟩,
   ⟨box { put up [(F.RAIL_STAT_MODE 0, mCLOSED), (F.RAIL_CTL_DMAX 0, 65535), (F.RAIL_CTL_DMIN 0, 5), (F.RAIL_COEF_LO_B0 0 0 0, 0x4000)] with rails := [(0, { per := 16000, perCur := 16000, started := true, switching := true, good := true, k := 1, first := 0, count := 6, vset := 1600 })] }, 0, -250, by decide⟩,
   ⟨box { put up [(F.RAIL_STAT_MODE 0, mBURST), (F.RAIL_BURST_BLO 0, 10)] with rails := [(0, { per := 16000, perCur := 16000, started := true, switching := true, good := true, k := 1, first := 0, count := 6, vset := 1600 })] }, 0, 250, by decide⟩,
   ⟨box { put up [(F.RAIL_STAT_MODE 0, mBURST), (F.RAIL_BURST_BLO 0, 10), (F.RAIL_BURST_BHI 0, 0)] with rails := [(0, { per := 16000, perCur := 16000, started := true, switching := true, good := true, k := 1, first := 0, count := 6, vset := 1500, bursting := 2 })] }, 0, 790000000, 0, by decide⟩⟩

/-- Every premise of PhaseRows is met by some state and operands. -/
theorem test_meets_PhaseRows :
    (∃ (s : State) (n : Nat) (c : Nat) (p : Nat) (l : List Nat), s.gov.live = true ∧ n < s.build.rails ∧ c < 2 ∧
      (s.gov.rail n).sliceFail = false ∧ l = (s.gov.rail n).block.filter (fun p => (p - (s.gov.rail n).first) % 2 ==
      c) ∧ (s.gov.conv n c).pos < l.length ∧ p = l.getD (s.gov.conv n c).pos 0 ∧ (s.gov.ph p).pen = true ∧ (s.gov.ph
      p).win.length < 15)
    ∧ (∃ (s : State) (p : Nat) (t0 : Nat), s.gov.live = true ∧ (s.gov.ph p).imbAt = some t0 ∧ s.gov.flag (F.PH_STAT_IMB
      p) = true)
    ∧ (∃ (s : State) (p : Nat) (n : Nat) (age : Nat) (r0 : Nat) (nV : Int), s.gov.live = true ∧ p < 96 ∧ n < 16 ∧
      railOf s.build s.gov p = some n ∧ (if (s.gov.phaseAt n p (16 * s.gov.gtime)).pwm = .high then some
      (s.gov.phaseAt n p (16 * s.gov.gtime)).rise else (s.gov.phaseAt n p (16 * s.gov.gtime)).next) = some r0 ∧
      (s.gov.phaseAt n p (r0 + 16 * age)).pen = true ∧ (s.gov.phaseAt n p (r0 + 16 * age)).pwm = .high ∧
      (s.gov.phaseAt n p (r0 + 16 * age)).rise = r0 ∧ 24 ≤ age ∧ s.gov.limThreshold n < nV)
    ∧ (∃ (s : State) (p : Nat), s.gov.live = true ∧ p < s.build.phases ∧ (s.gov.shutting p).shut ≠ 0 ∧ (s.gov.shutting
      p).shut ≠ 2)
    ∧ (∃ (s : State) (p : Nat), s.gov.live = true ∧ p < s.build.phases ∧ (s.gov.shutting p).shut ≠ 0 ∧ (s.gov.shutting
      p).shut = 2)
    ∧ (∃ (s : State) (p : Nat) (n : Nat) (ns : Nat), s.gov.live = true ∧ p < s.build.phases ∧ s.gov.faultSeen ns = true
      ∧ (s.gov.ph p).pen = true ∧ railOf s.build s.gov p = some n)
    ∧ (∃ (s : State) (ns : Nat), s.gov.live = true ∧ s.gov.quiet ∧ s.gov.faultSeen ns = false)
    ∧ (∃ (s : State) (p : Nat) (ns : Nat), s.gov.live = true ∧ s.gov.quiet ∧ p < s.build.phases ∧ s.gov.faultSeen ns =
      true ∧ (s.gov.ph p).pen = false)
    ∧ (∃ (s : State) (p : Nat), s.gov.live = true ∧ p < s.build.phases ∧ (s.gov.ph p).pen = false) :=
  ⟨⟨box { put up [(F.CAL_IMON_GAIN 5, 32768)] with rails := [(0, { count := 6 })], phs := [(5, { pen := true, win := [3] })], convs := [(1, { lfsr := 1, pos := 2 })] }, 0, 1, 5, _, by decide, by decide, by decide, by decide, rfl, by decide⟩,
   ⟨box { put up [(F.PH_STAT_IMB 95, 1)] with phs := [(95, { imbAt := some 5 })] }, 95, 5, by decide⟩,
   ⟨box
     { put up [(F.PH_STAT_CUTS 5, 255), (F.RAIL_STAT_MODE 0, mCLOSED), (F.RAIL_STAT_DUTY 0, 32768)] with gtime := 100, rails := [(0, { count := 6, started := true, switching := true, per := 16000, perCur := 16000 })], phs := [(5, { pen := true, pwm := .high, sw := true, rise := 1600, next := some 17600 })] },
     5, 0, 24, 1600, 2000000000, by decide⟩,
   ⟨box { up with phs := [(95, { pen := true, pwm := .mid, shut := 1, shutAt := 8 })] }, 95, by decide⟩,
   ⟨box { up with phs := [(95, { pen := true, pwm := .mid, shut := 2, shutAt := 8 })] }, 95, by decide⟩,
   ⟨box { up with rails := [(0, { count := 6, started := true })], phs := [(5, { pen := true, pwm := .low, usable := true }), (4, { pen := true, pwm := .low, usable := true })] }, 5, 0, 40, by decide, by decide, by decide, by decide, by decide⟩,
   ⟨box up, 19, by decide⟩,
   ⟨box up, 95, 40, by decide⟩,
   ⟨box up, 95, by decide⟩⟩

/-- Every premise of RailFaults is met by some state and operands. -/
theorem test_meets_RailFaults :
    (∃ (s : State) (n : Nat) (t0 : Nat), s.build.ok = true ∧ s.gov.live = true ∧ n < s.build.rails ∧ s.gov.mode n =
      mHICCUP ∧ (s.gov.rail n).penFell = some t0 ∧ (s.gov.rail n).sliceFail = false)
    ∧ (∃ (s : State) (n : Nat) (v : Nat), s.build.ok = true ∧ s.gov.live = true ∧ s.gov.quiet ∧ s.gov.stage = sREADY ∧
      n < s.build.rails ∧ s.gov.mode n = mHICCUP ∧ (s.gov.rail n).started = true ∧ 0 < (s.gov.rail n).perCur ∧
      (s.gov.rail n).retryV = some v ∧ (s.gov.rail n).retry = false ∧ s.gov.brg.vinSettled = true ∧ (s.gov.rail
      n).commitAt = none ∧ (s.gov.rail n).csetReq = none ∧ (s.gov.rail n).vchg = none ∧ (s.gov.rail n).limited = false
      ∧ (s.gov.rail n).downPend = false)
    ∧ (∃ (s : State) (n : Nat) (t0 : Nat), s.gov.live = true ∧ n < s.build.rails ∧ s.gov.running n = true ∧ (s.gov.rail
      n).steadyAt = some t0)
    ∧ (∃ (s : State) (n : Nat) (t0 : Nat), s.gov.live = true ∧ n < s.build.rails ∧ (s.gov.rail n).graceAt = some t0)
    ∧ (∃ (s : State) (n : Nat), s.gov.live = true ∧ n < s.build.rails ∧ (s.gov.rail n).sliceFail = false)
    ∧ (∃ (s : State) (n : Nat), s.build.ok = true ∧ s.gov.live = true ∧ s.gov.quiet ∧ s.gov.dm.grants = [] ∧ n <
      s.build.rails ∧ n ≠ 0 ∧ (s.gov.rail n).sliceFail = false ∧ (s.gov.rail n).started = true ∧ s.gov.mode n ≠ mFAULT
      ∧ (s.gov.rail n).commitAt = none)
    ∧ (∃ (s : State) (n : Nat) (t0 : Nat), s.gov.live = true ∧ n < s.build.rails ∧ (s.gov.rail n).clampAt = some t0) :=
  ⟨⟨box { put up [(F.RAIL_STAT_MODE 0, mHICCUP)] with rails := [(0, { count := 6, started := true, penFell := some 7, per := 16000, perCur := 16000 })], phs := [(5, { usable := true })] }, 0, 7, by decide⟩,
   ⟨box
     { put up [(F.RAIL_STAT_MODE 0, mHICCUP)] with brg := { vinSettled := true }, rails := [(0, { count := 6, started := true, retryV := some 77, per := 16000, perCur := 16000 })], phs := [(5, { usable := true })] },
     0, 77, by decide⟩,
   ⟨box { put up [(F.RAIL_STAT_MODE 0, mOPEN), (F.RAIL_PSTAT_HR 0, 3)] with rails := [(0, { steadyAt := some 6 })] }, 0, 6, by decide⟩,
   ⟨box { put up [(F.RAIL_STAT_MODE 0, mOPEN), (F.RAIL_PSTAT_GRACE 0, 1)] with rails := [(0, { graceAt := some 6, lim := [] })] }, 0, 6, by decide⟩,
   ⟨box up, 15, by decide⟩,
   ⟨box { put up [(F.RAIL_STAT_MODE 1, mCLOSED)] with rails := [(1, { count := 6, first := 6, started := true, switching := true })], phs := [(7, { pen := true, pwm := .high, sw := true, next := some 16000 })] }, 1, by decide⟩,
   ⟨box { put up [(F.RAIL_STAT_MODE 0, mFAULT)] with rails := [(0, { clampAt := some 4, count := 6 })], phs := [(5, { pen := true, pwm := .low })] }, 0, 4, by decide⟩⟩

/-- Every premise of RailWrites is met by some state and operands. -/
theorem test_meets_RailWrites :
    (∃ (s : State) (n : Nat) (w : Nat), s.build.ok = true ∧ s.gov.live = true ∧ s.gov.noStage ∧ n < s.build.rails ∧
      8000 ≤ bits w 0 16 ∧ bits w 0 16 ≤ 53333 ∧ 4000 * (bits w 16 4 + 1) ≤ bits w 0 16 ∧ bits w 32 16 * (bits w 16 4
      + 1) < bits w 0 16 ∧ bits w 27 5 ≤ 24 ∧ bits w 20 7 + bits w 27 5 ≤ s.build.phases ∧ ((∀ m < s.build.rails, m ≠
      n → bits w 20 7 + bits w 27 5 ≤ s.gov.rd (F.RAIL_CFG_FIRST m) ∨ s.gov.rd (F.RAIL_CFG_FIRST m) + s.gov.rd
      (F.RAIL_CFG_COUNT m) ≤ bits w 20 7 ∨ s.gov.rd (F.RAIL_CFG_COUNT m) = 0 ∨ bits w 27 5 = 0)))
    ∧ (∃ (s : State) (n : Nat) (w : Nat), s.build.ok = true ∧ s.gov.live = true ∧ s.gov.noStage ∧ n < s.build.rails ∧
      ((bits w 0 16 < 8000 ∨ 53333 < bits w 0 16)))
    ∧ (∃ (s : State) (n : Nat) (c : Nat), s.build.ok = true ∧ s.gov.live = true ∧ s.gov.noStage ∧ n < s.build.rails ∧
      s.gov.flag (F.RAIL_STAT_PEND n) = false ∧ s.gov.stage = sREADY ∧ s.gov.running n = true ∧ c % 4 ≠ s.gov.rd
      (F.RAIL_STAT_CSET_ACT n))
    ∧ (∃ (s : State) (n : Nat) (v : Bool), s.build.ok = true ∧ s.gov.live = true ∧ n < s.build.rails ∧ s.gov.flag
      (F.RAIL_STAT_PEND n) = false ∧ ((s.gov.stage = sREADY ∨ v = false)))
    ∧ (∃ (s : State) (n : Nat), s.build.ok = true ∧ s.gov.live = true ∧ n < s.build.rails ∧ s.gov.flag
      (F.RAIL_STAT_PEND n) = false ∧ s.gov.stage ≠ sREADY)
    ∧ (∃ (s : State) (n : Nat) (k : Nat), s.build.ok = true ∧ s.gov.live = true ∧ s.gov.noStage ∧ n < s.build.rails ∧ k
      < 8)
    ∧ (∃ (s : State) (n : Nat) (c : Nat) (i : Nat), s.build.ok = true ∧ s.gov.live = true ∧ s.gov.noStage ∧ n <
      s.build.rails ∧ c < 4 ∧ i < 4 ∧ ((s.gov.rd (F.RAIL_STAT_CSET_ACT n) ≠ c ∨ s.gov.mode n = mOFF ∨ s.gov.mode n =
      mOPEN)))
    ∧ (∃ (s : State) (n : Nat) (c : Nat) (i : Nat), s.build.ok = true ∧ s.gov.live = true ∧ s.gov.noStage ∧ n <
      s.build.rails ∧ c < 4 ∧ i < 4 ∧ s.gov.rd (F.RAIL_STAT_CSET_ACT n) = c ∧ s.gov.mode n = mCLOSED)
    ∧ (∃ (s : State) (p : Nat), s.build.ok = true ∧ s.gov.live = true ∧ s.gov.noStage ∧ s.gov.quiet ∧ p <
      s.build.phases ∧ (∀ n x, railOf s.build s.gov p = some n → mfind s.gov.probes n = some x → x.inPulse = false))
    ∧ (∃ (s : State) (p : Nat) (n : Nat) (x : Probe), s.build.ok = true ∧ s.gov.live = true ∧ s.gov.noStage ∧
      s.gov.quiet ∧ p < s.build.phases ∧ railOf s.build s.gov p = some n ∧ mfind s.gov.probes n = some x ∧ x.inPulse =
      true ∧ x.stopPend = false ∧ s.gov.mode n = mOPEN) :=
  ⟨⟨box up, 15, (8000 + 1 * 2 ^ 16 + 90 * 2 ^ 20 + 6 * 2 ^ 27 + 3999 * 2 ^ 32), by decide⟩,
   ⟨box up, 15, 7999, by decide⟩,
   ⟨box (put up [(F.RAIL_STAT_MODE 0, mCLOSED)]), 0, 7, by decide⟩,
   ⟨box (put up [(F.RAIL_STAT_MODE 0, mCLOSED)]), 0, true, by decide⟩,
   ⟨box (stg sPROBE), 0, by decide⟩,
   ⟨box up, 15, 7, by decide⟩,
   ⟨box (put up [(F.RAIL_STAT_MODE 15, mOPEN), (F.RAIL_STAT_CSET_ACT 15, 3)]), 15, 3, 3, by decide⟩,
   ⟨box (put up [(F.RAIL_STAT_MODE 15, mCLOSED), (F.RAIL_STAT_CSET_ACT 15, 3)]), 15, 3, 3, by decide⟩,
   ⟨box { up with rails := [(0, { count := 96 })] }, 95, by decide, by decide, by decide, by decide, by decide,
     fun _ _ _ e => nomatch (show (none : Option Probe) = _ from e)⟩,
   ⟨box { put (stg sPROBE) [(F.RAIL_STAT_MODE 3, mOPEN)] with rails := [(3, { count := 96 })], probes := [(3, { inPulse := true, reps := 7, d0 := 70000 })] },
     95, 3, { inPulse := true, reps := 7, d0 := 70000 }, by decide⟩⟩

/-- Every premise of GrantDecisions is met by some state and operands. -/
theorem test_meets_GrantDecisions :
    (∃ (s : State) (req : Nat) (cls : Nat) (x : Hub), req < s.build.requesters ∧ x = (s.gov.hubSync (s.build.hubOf
      req)).hub (s.build.hubOf req) ∧ s.gov.live = true ∧ s.gov.dm.isOpen = true ∧ s.gov.reqOff req = false ∧
      s.gov.reqCount req + s.gov.freedNow req < 32 ∧ (mget [] x.q (cls % 4)).length < 16)
    ∧ (∃ (s : State) (req : Nat) (x : Hub), req < s.build.requesters ∧ x = (s.gov.hubSync (s.build.hubOf req)).hub
      (s.build.hubOf req) ∧ s.gov.live = true ∧ s.gov.reqOff req = false ∧ x.cq.length < 16)
    ∧ (∃ (s : State) (d : Nat) (a : Ann) (r : List Ann), s.gov.live = true ∧ s.gov.quiet ∧ d < s.build.dies ∧
      ((s.gov.hubSync d).hub d).link = a :: r ∧ mfind s.gov.dm.sigs a.sig = none ∧ (∀ h, s.gov.nextDue s.build d =
      some h → a.cls = 0 ∨ a.cls < (s.gov.grant h).cls))
    ∧ (∃ (s : State) (d : Nat) (h : Nat) (a : Ann) (r : List Ann) (sg : Sig), s.gov.live = true ∧ s.gov.quiet ∧ d <
      s.build.dies ∧ ((s.gov.hubSync d).hub d).link = a :: r ∧ mfind s.gov.dm.sigs a.sig = some sg ∧ sg.railA < 16 ∧
      sg.railB < 16 ∧ (s.gov.ctx a.ctx).st = 1 ∧ a.cgen = (s.gov.ctx a.ctx).cgen ∧ a.pmode ≠ 3 ∧ (∀ e ∈
      s.gov.dm.grants, e.2.st ≠ 0 → e.2.req = a.req → e.2.slot ≠ a.slot) ∧ s.gov.railDead sg = false ∧
      s.gov.freeHandle = some h ∧ (∀ e ∈ s.gov.probes, e.2.stopPend = false) ∧ (∀ k, s.gov.nextDue s.build d = some k
      → a.cls = 0 ∨ a.cls < (s.gov.grant k).cls) ∧ max a.cls (s.gov.ctx a.ctx).cmin = 0)
    ∧ (∃ (s : State) (d : Nat) (h : Nat) (a : Ann) (r : List Ann) (sg : Sig), s.gov.live = true ∧ s.gov.quiet ∧ d <
      s.build.dies ∧ ((s.gov.hubSync d).hub d).link = a :: r ∧ mfind s.gov.dm.sigs a.sig = some sg ∧ sg.railA < 16 ∧
      sg.railB < 16 ∧ (s.gov.ctx a.ctx).st = 1 ∧ a.cgen = (s.gov.ctx a.ctx).cgen ∧ a.pmode ≠ 3 ∧ (∀ e ∈
      s.gov.dm.grants, e.2.st ≠ 0 → e.2.req = a.req → e.2.slot ≠ a.slot) ∧ s.gov.railDead sg = false ∧
      s.gov.freeHandle = some h ∧ (∀ e ∈ s.gov.probes, e.2.stopPend = false) ∧ (∀ k, s.gov.nextDue s.build d = some k
      → a.cls = 0 ∨ a.cls < (s.gov.grant k).cls) ∧ max a.cls (s.gov.ctx a.ctx).cmin ≠ 0)
    ∧ (∃ (s : State) (d : Nat) (h : Nat) (x : Grant), s.gov.live = true ∧ s.gov.quiet ∧ d < s.build.dies ∧
      s.gov.nextDue s.build d = some h ∧ x = s.gov.grant h ∧ s.gov.railDead x.dec = false ∧ x.cls ≠ 0 ∧ (∀ a r,
      ((s.gov.hubSync d).hub d).link = a :: r → a.cls ≠ 0 ∧ x.cls ≤ a.cls))
    ∧ (∃ (s : State) (d : Nat) (h : Nat) (x : Grant), s.gov.live = true ∧ s.gov.quiet ∧ d < s.build.dies ∧
      s.gov.nextDue s.build d = some h ∧ x = s.gov.grant h ∧ s.gov.railDead x.dec = false ∧ x.cls ≠ 0 ∧ (∀ a r,
      ((s.gov.hubSync d).hub d).link = a :: r → a.cls ≠ 0 ∧ x.cls ≤ a.cls))
    ∧ (∃ (s : State) (h : Nat), s.gov.live = true ∧ (s.gov.grant h).st = 1 ∧ (s.gov.grant h).blocking = false ∧
      s.gov.rd F.DMD_CTL_AGE ≠ 0)
    ∧ (∃ (s : State) (d : Nat) (c : Done) (r : List Done), s.gov.live = true ∧ s.gov.quiet ∧ d < s.build.dies ∧
      ((s.gov.hubSync d).hub d).clink = c :: r ∧ (s.gov.grant c.handle).st = 2 ∧ (s.gov.grant c.handle).req = c.req) :=
  ⟨⟨box { up with dm := { isOpen := true, reqCnt := [(1023, 31)] } }, 1023, 3, _, by decide, rfl, by decide⟩,
   ⟨box { up with dm := { isOpen := true, reqCnt := [(1023, 31)], hubs := [(7, { cq := List.replicate 15 {} })] } }, 1023, _, by decide, rfl, by decide⟩,
   ⟨box { up with dm := { isOpen := true, hubs := [(0, { link := [ann5 1] })], reqCnt := [(5, 1)] } }, 0, ann5 1, [], by decide, by decide, by decide, by decide, by decide,
     (fun _ e => nomatch (show (none : Option Nat) = _ from e))⟩,
   ⟨box { put up [(F.RAIL_STAT_MODE 0, mCLOSED), (F.DMD_MOD_CAP, 0xFFFF), (F.DMD_PART_BUD 0, 0xFFFF), (F.DMD_DIE_CEIL 0, 0xFFFF), (F.RAIL_PSTAT_ILIM_RAIL 0, 0)] with dm := dm5 sig3 0 }, 0, 0, ann5 0, [], sig3, by decide, by decide, by decide, by decide, by decide, by decide, by decide, by decide, by decide, by decide, by decide, by decide, by decide, by decide, (fun _ e => nomatch (show (none : Option Nat) = _ from e)), by decide⟩,
   ⟨box { put up [(F.RAIL_STAT_MODE 0, mCLOSED), (F.DMD_MOD_CAP, 0xFFFF), (F.DMD_PART_BUD 0, 0xFFFF), (F.DMD_DIE_CEIL 0, 0xFFFF), (F.RAIL_PSTAT_ILIM_RAIL 0, 0)] with dm := dm5 sig3 1 }, 0, 0, ann5 1, [], sig3, by decide, by decide, by decide, by decide, by decide, by decide, by decide, by decide, by decide, by decide, by decide, by decide, by decide, by decide, (fun _ e => nomatch (show (none : Option Nat) = _ from e)), by decide⟩,
   ⟨box { put up [(F.RAIL_STAT_MODE 0, mCLOSED), (F.DMD_MOD_CAP, 0xFFFF), (F.DMD_PART_BUD 0, 0xFFFF), (F.DMD_DIE_CEIL 0, 0xFFFF), (F.RAIL_PSTAT_ILIM_RAIL 0, 0)] with dm := { dm5 sig3 1 with hubs := [], grants := [(9, { st := 1, req := 5, slot := 3, ctx := 7, cls := 1, dec := sig3, due := true, age := 4 })] } }, 0, 9, _, by decide, by decide, by decide, by decide, rfl, by decide, by decide,
     fun _ _ e => nomatch (show ([] : List Ann) = _ from e)⟩,
   ⟨box
     { put up [(F.RAIL_STAT_MODE 0, mCLOSED)] with dm := { dm5 sig3 1 with grants := [(9, { st := 1, req := 5, slot := 3, ctx := 7, cls := 1, dec := sig3, due := true, age := 4 })] } },
     0, 9, _, by decide, by decide, by decide, by decide, rfl, by decide, by decide,
     fun a _ e => (List.cons.inj (show [ann5 1] = _ from e)).1 ▸ (by decide)⟩,
   ⟨box { put up [(F.DMD_CTL_AGE, 1)] with dm := { grants := [(32767, { st := 1, heldAt := 5 })] } }, 32767, by decide⟩,
   ⟨box { put up [(F.RAIL_STAT_MODE 0, mCLOSED)] with dm := { dm5 sig3 1 with hubs := [(0, { clink := [{ req := 5, handle := 9, kind := 0 }] })], grants := [(9, { st := 2, req := 5, slot := 3, ctx := 7, cls := 1, dec := sig3, gslot := 4 })] } }, 0, { req := 5, handle := 9, kind := 0 }, [], by decide⟩⟩

/-- Every premise of DemandHorizon is met by some state and operands. -/
theorem test_meets_DemandHorizon :
    (∃ (s : State), s.build.ok = true ∧ s.gov.live = true ∧ s.gov.dm.slot + 1 < 2 ^ 32 ∧ ((s.gov.gtime / 250 =
      s.gov.dm.slot ∨ s.gov.gtime / 250 = s.gov.dm.slot + 1)))
    ∧ (∃ (s : State), s.build.ok = true ∧ s.gov.live = true ∧ s.gov.dm.snapNew = true)
    ∧ (∃ (s : State) (x : Delta), s.gov.live = true ∧ nextDelta s.gov.dm.backlog = some x ∧ slotAfter x.slot
      s.gov.dm.slot = true)
    ∧ (∃ (s : State) (x : Delta), s.gov.live = true ∧ nextDelta s.gov.dm.backlog = some x ∧ slotAfter x.slot
      s.gov.dm.slot = false) :=
  ⟨⟨box { up with gtime := 249, dm := { slot := 0, lvl := [(0, 5)], ring := [(1, 7), (65, 3)] } }, by decide⟩,
   ⟨box
     { put up [(F.DMD_CTL_HZ_EN, 0)] with gtime := 250, dm := { isOpen := true, snapNew := true, snapSlot := 1, snapL := [(0, 80), (15, -3)], slot := 1 } },
     by decide⟩,
   ⟨box { up with dm := { slot := 4, backlog := [{ rail := 1, slot := 5, v := -3 }], ring := [(69, 4)] } },
     { rail := 1, slot := 5, v := -3 }, by decide⟩,
   ⟨box { up with dm := { slot := 4, backlog := [{ rail := 1, slot := 4, v := -3 }], ring := [(69, 4)] } },
     { rail := 1, slot := 4, v := -3 }, by decide⟩⟩

/-- Every premise of ThermalModel is met by some state and operands. -/
theorem test_meets_ThermalModel :
    (∃ (s : State) (u : Nat) (st : Nat) (i : Nat) (x : ThNode), s.gov.live = true ∧ s.gov.quiet ∧ s.gov.th.load = none ∧
      mfind s.gov.th.nodes i = some x ∧ u = max (s.gov.th.tick + 1) (s.gov.gtime / 6250) ∧ st = thStride s.gov ∧
      s.gov.th.updTick / st < u / st ∧ s.gov.th.firstUpd = false ∧ x.cfg.fixed = false)
    ∧ (∃ (s : State) (u : Nat) (st : Nat) (i : Nat) (x : ThNode), s.gov.live = true ∧ s.gov.quiet ∧ s.gov.th.load = none
      ∧ mfind s.gov.th.nodes i = some x ∧ u = max (s.gov.th.tick + 1) (s.gov.gtime / 6250) ∧ st = thStride s.gov ∧
      s.gov.th.updTick / st < u / st ∧ s.gov.th.firstUpd = false ∧ x.cfg.fixed = true)
    ∧ (∃ (s : State) (u : Nat), s.build.ok = true ∧ s.gov.live = true ∧ s.gov.th.load = none ∧ s.gov.th.nodes = [] ∧ u =
      max (s.gov.th.tick + 1) (s.gov.gtime / 6250))
    ∧ (∃ (s : State) (k : Nat), s.gov.live = true ∧ k < 4 * s.build.dies ∧ s.gov.flag (F.FT_DSTAT_FLT k) = true)
    ∧ (∃ (s : State) (k : Nat) (node : Nat) (y : ThNode) (c : Int), s.gov.live = true ∧ k < 4 * s.build.dies ∧
      s.gov.flag (F.FT_DSTAT_FLT k) = false ∧ s.gov.rd (F.TH_DIODE_EN k) = 1 ∧ node = s.gov.rd (F.TH_DIODE_NODE k) ∧
      mfind s.gov.th.nodes node = some y ∧ y.cfg.fixed = false ∧ c = clampI (-(16 * s.gov.rd F.TH_CTL_RCLAMP)) (16 *
      s.gov.rd F.TH_CTL_RCLAMP) (sx 16 (s.gov.rd (F.FT_DSTAT_TEMP k)) - y.t) * s.gov.rd (F.TH_DIODE_KC k))
    ∧ (∃ (s : State) (l : ThLoad), s.gov.live = true ∧ s.gov.th.load = some l)
    ∧ (∃ (s : State) (i : Nat) (w : Nat) (x : ThNode), s.gov.live = true ∧ mfind s.gov.th.nodes i = some x ∧ x.winAt =
      some w ∧ 0 < x.winLost ∧ s.gov.recr.queue.length < 256) :=
  ⟨⟨box
     { up with gtime := 100000, th := { nodes := [(0, { cfg := { die := 0, g := 1000, gs := 4, lk := 10, tlref := 100, thr := [3000, 4000, 5000, 6000] }, s := 65536 * 2000, t := 2000, te := 2000 })], firstUpd := false } },
     _, _, 0,
     { cfg := { die := 0, g := 1000, gs := 4, lk := 10, tlref := 100, thr := [3000, 4000, 5000, 6000] }, s := 65536 * 2000, t := 2000, te := 2000 },
     by decide, by decide, by decide, by decide, rfl, rfl, by decide⟩,
   ⟨box
     { up with gtime := 62500 * 10, th := { nodes := [(0, { cfg := { die := 0, g := 1000, gs := 4, lk := 10, tlref := 100, thr := [3000, 4000, 5000, 6000] }, s := 65536 * 2000, t := 2000, te := 2000 }), (511, { cfg := { fixed := true }, bound := 1234 })], firstUpd := false, updTick := 3, tick := 3 } },
     _, _, 511, { cfg := { fixed := true }, bound := 1234 }, by decide, by decide, by decide, by decide, rfl, rfl,
     by decide⟩,
   ⟨box { up with gtime := 6249 }, _, by decide, by decide, by decide, by decide, rfl⟩,
   ⟨box { put up [(F.FT_DSTAT_FLT 31, 1)] with th := { diodes := [(31, { good := some (3, 4) })] } }, 31, by decide⟩,
   ⟨box
     { put up [(F.TH_DIODE_EN 31, 1), (F.TH_DIODE_NODE 31, 511), (F.TH_DIODE_KC 31, 3), (F.TH_CTL_RCLAMP, 2), (F.FT_DSTAT_TEMP 31, 0xFFFF)] with th := { nodes := [(511, { cfg := { cgrp := none }, t := 5, pend := 7 })] }, gtime := 8 },
     31, 511, { cfg := { cgrp := none }, t := 5, pend := 7 }, _, by decide, by decide, by decide, by decide, by decide,
     by decide, by decide, rfl⟩,
   ⟨box { up with th := { load := some { keep := true } } }, { keep := true }, by decide⟩,
   ⟨box
     { put up [(F.TH_CTL_CHAT_WIN, 1)] with th := { nodes := [(3, { winAt := some 5, winLost := 2, winLv := 1, level := 2 })] } },
     3, 5, { winAt := some 5, winLost := 2, winLv := 1, level := 2 }, by decide⟩⟩

/-- Every premise of FirethornScan is met by some state and operands. -/
theorem test_meets_FirethornScan :
    (∃ (s : State) (v : Int), s.gov.aon = true ∧ s.gov.ft.pos < 4 * s.build.dies ∧ s.gov.ft.pos < 32 ∧ ((1200000000 < v
      ∨ v < 100000000)))
    ∧ (∃ (s : State) (v : Int) (dv1 : Int) (dv2 : Int) (r : Int), s.gov.aon = true ∧ s.gov.ft.pos < 4 * s.build.dies ∧
      s.gov.ft.pos < 32 ∧ 100000000 ≤ v ∧ v ≤ 1200000000 ∧ diodeReading dv1 dv2 (mget (0x083, 0) s.gov.ft.trims
      s.gov.ft.pos).1 (mget (0x083, 0) s.gov.ft.trims s.gov.ft.pos).2 = some r ∧ (s.gov.rd F.FT_ACT_TRIP : Int) ≤ r ∧ 1
      ≤ (s.gov.ftDiode s.gov.ft.pos).above ∧ bit (s.gov.rd F.FT_STAT_EXCL) s.gov.ft.pos = false ∧ s.gov.flag
      F.FT_STAT_TRIPPED = false)
    ∧ (∃ (s : State), s.build.ok = true ∧ s.gov.aon = true ∧ s.gov.ft.pos = 32)
    ∧ (∃ (s : State), s.build.ok = true ∧ s.gov.aon = true ∧ s.gov.ft.pos = 32 ∧ s.gov.flag F.FT_STAT_TRIPPED = true ∧
      s.gov.flag F.FT_STAT_LATCHED = false ∧ ftCoolScan s.build s.gov = true ∧ 3 ≤ s.gov.ft.cool ∧ s.gov.rd
      F.FT_ACT_MIN_OFF * 2 ^ 20 ≤ s.gov.ft.cyc - s.gov.ft.stamps.headD 0)
    ∧ (∃ (s : State), s.gov.aon = true ∧ s.gov.ft.ovr = 1)
    ∧ (∃ (s : State), s.gov.aon = true ∧ s.gov.ft.ovr = 2) :=
  ⟨⟨box { up with ft := { pos := 31 } }, 1200000001, by decide⟩,
   ⟨box { put up [(F.FT_ACT_TRIP, 12000)] with ft := { pos := 31, diodes := [(31, { above := 1 })] } }, 100000000,
     95000000, 190000000, 19200, by decide⟩,
   ⟨box
     { put up [(F.FT_STAT_EXCL, 3)] with ft := { pos := 32, diodes := [(0, { good := 4 }), (1, { good := 3 }), (31, { bad := 4 })] } },
     by decide⟩,
   ⟨box
     { put up [(F.FT_STAT_TRIPPED, 1), (F.FT_ACT_MIN_OFF, 1), (F.FT_ACT_RESTART, 9000)] with ft := { pos := 32, cool := 3, ovr := 3, cyc := 2 ^ 20 } },
     by decide⟩,
   ⟨box { up with ft := { ovr := 1 } }, by decide⟩,
   ⟨box { up with ft := { ovr := 2 } }, by decide⟩⟩

/-- Every premise of FirethornAtCore is met by some state and operands. -/
theorem test_meets_FirethornAtCore :
    (∃ (s : State), s.gov.live = true ∧ s.gov.quiet ∧ s.gov.th.ftSeen = true ∧ s.gov.flag F.FT_STAT_TRIPPED = true ∧
      s.gov.th.tripSeen = false)
    ∧ (∃ (s : State), s.gov.live = true ∧ s.gov.th.ftSeen = true ∧ s.gov.flag F.FT_STAT_TRIPPED = false ∧
      s.gov.th.tripSeen = true ∧ s.gov.rd F.TH_CTL_FT_AUTO ≠ 1 ∧ s.gov.recr.queue.length < 256)
    ∧ (∃ (s : State), s.gov.live = true ∧ s.gov.noStage ∧ s.gov.flag F.FT_ACT_LOCK = false)
    ∧ (∃ (s : State) (k : Nat), s.build.ok = true ∧ s.gov.live = true ∧ s.gov.noStage ∧ k < 4 * s.build.dies ∧
      s.gov.flag F.FT_ACT_LOCK = false)
    ∧ (∃ (s : State), s.gov.live = true ∧ s.gov.recr.started = true ∧ s.gov.th.ftSeen = false) :=
  ⟨⟨box { put (stg sWAITCFG) [(F.FT_STAT_TRIPPED, 1)] with th := { ftSeen := true }, dm := { isOpen := true } },
     by decide⟩,
   ⟨box { put (stg sOFF) [(F.TH_CTL_FT_AUTO, 0)] with th := { ftSeen := true, tripSeen := true } }, by decide⟩,
   ⟨box up, by decide⟩,
   ⟨box up, 31, by decide⟩,
   ⟨box { put up [(F.FT_STAT_TRIPPED, 0)] with recr := { started := true } }, by decide⟩⟩

/-- Every premise of LinkFrames is met by some state and operands. -/
theorem test_meets_LinkFrames :
    (∃ (s : State) (skip : Nat) (k : Nat), s.gov.live = true ∧ k < 9 ∧ s.gov.hrTalks k = true ∧ bit skip k = false)
    ∧ (∃ (s : State) (skip : Nat) (k : Nat), s.gov.live = true ∧ k < 9 ∧ s.gov.hrTalks k = true ∧ bit skip k = true)
    ∧ (∃ (s : State) (k : Nat) (w : Nat), s.gov.live = true ∧ k < 9 ∧ s.gov.hrTalks k = true ∧ crc32 ((leBytes 64
      w).take 60) ≠ leAt (leBytes 64 w) 60 4)
    ∧ (∃ (s : State) (k : Nat) (w : Nat) (l : List Nat), s.gov.live = true ∧ k < 9 ∧ s.gov.hrTalks k = true ∧ l =
      leBytes 64 w ∧ crc32 (l.take 60) = leAt l 60 4 ∧ frameFits k (leAt l 0 1) (s.gov.hlink k) = true ∧ leAt l 1 1 = 1
      ∧ frameReserved l = false ∧ (s.gov.hlink k).lastRxSeq ≠ some (leAt l 4 2) ∧ leAt l 0 1 = 3)
    ∧ (∃ (s : State) (k : Nat) (w : Nat) (l : List Nat), s.gov.live = true ∧ k < 9 ∧ s.gov.hrTalks k = true ∧ l =
      leBytes 64 w ∧ crc32 (l.take 60) = leAt l 60 4 ∧ frameFits k (leAt l 0 1) (s.gov.hlink k) = true ∧ leAt l 1 1 = 1
      ∧ frameReserved l = false ∧ (s.gov.hlink k).lastRxSeq ≠ some (leAt l 4 2) ∧ leAt l 0 1 = 1 ∧ 1 ≤ k ∧ (s.gov.hlink
      k).join = false ∧ helloDecide k l s.gov = 1)
    ∧ (∃ (s : State) (k : Nat), k < 9 ∧ (s.gov.hlink k).up = false ∧ s.gov.live = true ∧ s.gov.hr.isOpen = true ∧
      (s.gov.hrRootDev && k == 0) = false ∧ s.gov.rd (F.HR_LSTAT_STATE k) ≠ 4) :=
  ⟨⟨box
     { up with hr := { isOpen := true, links := [(8, { up := true, seq := 65535, txT := List.replicate 8 (0, 0) })] } },
     0, 8, by decide +kernel⟩,
   ⟨box { put up [(F.HR_LSTAT_SKIP 8, 65535)] with hr := { isOpen := true, links := [(8, { up := true })] } }, 0x100, 8,
     by decide +kernel⟩,
   ⟨box { up with hr := { isOpen := true, links := [(8, { up := true })] } }, 8, 1, by decide +kernel⟩,
   ⟨box { up with hr := { isOpen := true, links := [(8, { up := true, join := true })] } }, 8, frameOfBytes [3, 1, 9, 0,
     4, 0, 7, 0, 0, 0, 0, 0, 0, 0, 0, 0, 0, 0, 0, 0, 0, 0, 0, 0, 5, 0, 0, 0, 6], _, by decide +kernel,
     by decide +kernel, by decide +kernel, rfl, by decide +kernel⟩,
   ⟨box
     { put up [(F.HR_STAT_ROOT, 1), (F.HR_STAT_JOINED, 1), (F.HR_STAT_DEPTH, 0), (F.HR_LINK_EN 8, 1)] with hr := { isOpen := true, quota := 32768, links := [(8, { up := true })] } },
     8, frameOfBytes ([1, 1] ++ List.replicate 22 0 ++ [0, 1] ++ List.replicate 18 0 ++ [0x47, 0x59]), _,
     by decide +kernel, by decide +kernel, by decide +kernel, rfl, by decide +kernel⟩,
   ⟨box { up with hr := { isOpen := true } }, 8, by decide +kernel⟩⟩

/-- Every premise of LossesAndEpochs is met by some state and operands. -/
theorem test_meets_LossesAndEpochs :
    (∃ (s : State) (k : Nat), s.gov.live = true ∧ k < 9 ∧ s.gov.hrTalks k = true ∧ 1 ≤ k ∧ (s.gov.hlink k).join = true)
    ∧ (∃ (s : State) (k : Nat), s.gov.live = true ∧ k < 9 ∧ s.gov.hrTalks k = true ∧ k = 0 ∧ (s.gov.hlink 0).join =
      true)
    ∧ (∃ (s : State) (k : Nat) (t0 : Nat), s.gov.live = true ∧ k < 9 ∧ (s.gov.hlink k).hold = some t0 ∧ s.gov.rd
      (F.HR_LSTAT_STATE k) = 4)
    ∧ (∃ (s : State) (k : Nat), s.gov.live = true ∧ 1 ≤ k ∧ k < 9 ∧ (s.gov.hlink k).hold.isSome = true)
    ∧ (∃ (s : State), s.gov.live = true ∧ s.gov.hrRootDev = true ∧ s.gov.rd F.HR_EPOCH_HALL_CAP ≠ 0 ∧ s.gov.rd
      F.HR_EPOCH_PER ≠ 0 ∧ s.gov.hrNextEpoch = none)
    ∧ (∃ (s : State), s.gov.live = true ∧ s.gov.hrRootDev = true ∧ s.gov.rd F.HR_EPOCH_HALL_CAP ≠ 0 ∧ s.gov.hrNextEpoch
      = none)
    ∧ (∃ (s : State) (e : Epoch), s.build.ok = true ∧ s.gov.live = true ∧ s.gov.hrNextEpoch = some e ∧ e.num < 65536 ∧
      e.leave = true)
    ∧ (∃ (s : State) (e : Epoch), s.build.ok = true ∧ s.gov.live = true ∧ s.gov.hrNextEpoch = some e ∧ e.num < 65536 ∧
      e.leave = false ∧ e.aSelf ≤ s.gov.rd F.DMD_MOD_CAP)
    ∧ (∃ (s : State) (e : Epoch), s.build.ok = true ∧ s.gov.live = true ∧ s.gov.hrNextEpoch = some e ∧ e.num < 65536 ∧
      e.leave = false ∧ s.gov.rd F.DMD_MOD_CAP < e.aSelf)
    ∧ (∃ (s : State) (t0 : Nat) (a : Nat), s.build.ok = true ∧ s.gov.live = true ∧ s.gov.hr.raise = some (t0, a)) :=
  ⟨⟨box { up with hr := { isOpen := true, links := [(8, { up := true, join := true })] }, gtime := 7 }, 8, by decide⟩,
   ⟨box
     { put up [(F.HR_STAT_JOINED, 1)] with hr := { isOpen := true, links := [(0, { up := true, join := true })] }, gtime := 7 },
     0, by decide⟩,
   ⟨box
     { put up [(F.HR_LSTAT_STATE 8, 4), (F.HR_CTL_HOLD, 1), (F.HR_CALLOC_CUR 8, 3)] with hr := { links := [(8, { hold := some 4 })] } },
     8, 4, by decide⟩,
   ⟨box { put up [(F.HR_LSTAT_STATE 8, 4), (F.HR_CALLOC_CUR 8, 3)] with hr := { links := [(8, { hold := some 4 })] } },
     8, by decide⟩,
   ⟨box
     { put up [(F.HR_STAT_ROOT, 1), (F.HR_EPOCH_HALL_CAP, 1000), (F.HR_EPOCH_PER, 100), (F.HR_EPOCH_LEAD, 10)] with hr := { epRx := 65535 }, gtime := 90000 },
     by decide⟩,
   ⟨box
     { put up [(F.HR_STAT_ROOT, 1), (F.HR_EPOCH_HALL_CAP, 1000), (F.HR_EPOCH_PER, 100), (F.HR_EPOCH_LEAD, 10)] with hr := { epRx := 65535 }, gtime := 90000 },
     by decide⟩,
   ⟨box
     { put up [(F.DMD_MOD_CAP, 5), (F.BUD_MODCAP_MAX, 70)] with hr := { pend := [{ num := 65535, time := 9, aSelf := 5, leave := true, alloc := [(1, 3)] }] } },
     { num := 65535, time := 9, aSelf := 5, leave := true, alloc := [(1, 3)] }, by decide⟩,
   ⟨box
     { put up [(F.DMD_MOD_CAP, 5), (F.BUD_MODCAP_MAX, 70)] with hr := { pend := [{ num := 65535, time := 9, aSelf := 5, leave := false, alloc := [(1, 3)] }] } },
     { num := 65535, time := 9, aSelf := 5, leave := false, alloc := [(1, 3)] }, by decide⟩,
   ⟨box
     { put up [(F.DMD_MOD_CAP, 5), (F.BUD_MODCAP_MAX, 70)] with hr := { pend := [{ num := 65535, time := 9, aSelf := 60000, leave := false, alloc := [(1, 3)] }] } },
     { num := 65535, time := 9, aSelf := 60000, leave := false, alloc := [(1, 3)] }, by decide⟩,
   ⟨box
     { put up [(F.HR_STAT_ROOT, 1), (F.BUD_MODCAP_MAX, 70), (F.BUD_MODCAP_LOCAL, 40), (F.HR_EPOCH_HALL_CAP, 0)] with hr := { raise := some (9, 60) } },
     9, 60, by decide⟩⟩

/-- Every premise of PlacementOrders is met by some state and operands. -/
theorem test_meets_PlacementOrders :
    (∃ (s : State) (p : Nat) (f : Nat), s.gov.ordsOut < 4096 ∧ (s.gov.page p).state = pDEFERRED ∧ (s.gov.page p).dst =
      some f ∧ s.gov.writeRefs p = 0)
    ∧ (∃ (s : State) (k : Nat) (p : Nat) (o : Ord), s.gov.ordsOut < 4096 ∧ k ≠ 1 ∧ s.gov.pl.ords.find? (fun o => o.kind
      == k && o.page == p && !o.issued) = some o)
    ∧ (∃ (s : State) (id : Nat) (o : Ord), s.gov.quiet ∧ s.gov.pl.ords.find? (fun o => o.issued && o.id == id) = some o
      ∧ o.kind = 1 ∧ o.wo = false ∧ (s.gov.page o.page).state = pMOVING ∧ (s.gov.page o.page).abort = false)
    ∧ (∃ (s : State) (id : Nat) (code : Nat) (o : Ord), s.gov.quiet ∧ s.gov.pl.ords.find? (fun o => o.issued && o.id ==
      id) = some o ∧ o.kind = 1 ∧ o.wo = false ∧ (s.gov.page o.page).state = pMOVING ∧ (code ≠ 0 ∨ (s.gov.page
      o.page).abort = true))
    ∧ (∃ (s : State) (id : Nat) (f : Nat) (o : Ord), s.gov.quiet ∧ s.gov.pl.ords.find? (fun o => o.issued && o.id == id)
      = some o ∧ o.kind = 2 ∧ o.wo = false ∧ (s.gov.page o.page).state = pOLDKEEP ∧ (s.gov.page o.page).uid = o.uid ∧
      (s.gov.page o.page).old = some f ∧ s.gov.namedBefore o.page = false)
    ∧ (∃ (s : State) (id : Nat) (o : Ord), s.gov.quiet ∧ s.gov.pl.ords.find? (fun o => o.issued && o.id == id) = some o
      ∧ o.kind = 3 ∧ o.replyWait = false ∧ s.gov.pl.held.contains o.src = false)
    ∧ (∃ (s : State) (id : Nat) (code : Nat) (o : Ord), s.gov.quiet ∧ s.gov.pl.ords.find? (fun o => o.issued && o.id ==
      id) = some o ∧ (o.kind = 2 ∨ o.kind = 3) ∧ code ≠ 0 ∧ o.retried = false)
    ∧ (∃ (s : State) (id : Nat) (code : Nat) (o : Ord), s.gov.quiet ∧ s.gov.pl.ords.find? (fun o => o.issued && o.id ==
      id) = some o ∧ (o.kind = 2 ∨ o.kind = 3) ∧ code ≠ 0 ∧ o.retried = true ∧ o.kind = 3)
    ∧ (∃ (s : State) (id : Nat), s.gov.live = true ∧ s.gov.quiet ∧ s.gov.pl.ords.find? (fun o => o.issued && o.id == id)
      = none)
    ∧ (∃ (s : State) (id : Nat) (o : Ord), s.build.ok = true ∧ s.gov.pl.ords.find? (fun o => o.issued && o.id == id &&
      !o.late) = some o)
    ∧ (∃ (s : State), s.gov.quiet ∧ s.gov.pl.walk = true ∧ s.gov.pl.cur = none) :=
  ⟨⟨box
     { up with gtime := 5, pl := { pages := [(2 ^ 20 - 1, { state := pDEFERRED, dst := some 9 })], nextId := 65535 } },
     2 ^ 20 - 1, 9, by decide⟩,
   ⟨box
     { up with gtime := 5, pl := { pages := [(3, { state := pOLDKEEP })], ords := [{ kind := 2, page := 3, src := 7 }], nextId := 65535 } },
     2, 3, { kind := 2, page := 3, src := 7 }, by decide⟩,
   ⟨box
     { up with gtime := 5, pl := { pages := [(3, { state := pMOVING, ver := 15 })], ords := [{ id := 5, kind := 1, page := 3, src := 7, dst := 2 ^ 23 + 9, issued := true }] } },
     5, { id := 5, kind := 1, page := 3, src := 7, dst := 2 ^ 23 + 9, issued := true }, by decide⟩,
   ⟨box
     { up with gtime := 5, pl := { pages := [(3, { state := pMOVING, ver := 15 })], ords := [{ id := 5, kind := 1, page := 3, src := 7, dst := 2 ^ 23 + 9, issued := true }] } },
     5, 1, { id := 5, kind := 1, page := 3, src := 7, dst := 2 ^ 23 + 9, issued := true }, by decide⟩,
   ⟨box
     { up with gtime := 5, pl := { pages := [(3, { state := pOLDKEEP, old := some 44 })], ords := [{ id := 5, kind := 2, page := 3, src := 7, issued := true }] } },
     5, 44, { id := 5, kind := 2, page := 3, src := 7, issued := true }, by decide⟩,
   ⟨box
     { up with gtime := 5, pl := { used := [(0, [6, 7])], ords := [{ id := 5, kind := 3, page := 3, src := 7, issued := true }] } },
     5, { id := 5, kind := 3, page := 3, src := 7, issued := true }, by decide⟩,
   ⟨box
     { up with gtime := 5, pl := { pages := [(3, { state := pOLDKEEP, old := some 44 })], used := [(0, [6, 7])], ords := [{ id := 5, kind := 2, page := 3, src := 7, issued := true, retried := false }] } },
     5, 1, { id := 5, kind := 2, page := 3, src := 7, issued := true, retried := false }, by decide⟩,
   ⟨box
     { up with gtime := 5, pl := { pages := [(3, { state := pOLDKEEP, old := some 44 })], used := [(0, [6, 7])], ords := [{ id := 5, kind := 3, page := 3, src := 7, issued := true, retried := true }] } },
     5, 1, { id := 5, kind := 3, page := 3, src := 7, issued := true, retried := true }, by decide⟩,
   ⟨box { put up [(F.PL_CNT_COUNT 5, 3)] with gtime := 5 }, 2047, by decide⟩,
   ⟨box
     { up with gtime := 5, pl := { ords := [{ id := 5, kind := 1, page := 3, src := 7, issued := true, tIssue := 4 }] } },
     5, { id := 5, kind := 1, page := 3, src := 7, issued := true, tIssue := 4 }, by decide⟩,
   ⟨box
     { up with pl := { walk := true, seqs := [(4, { state := qLIVE, lostPg := 2 })], lostPages := [9], used := [(0, [6, 7])], pages := [(3, { state := pRESIDENT, loc := 6, sid := 4 })] } },
     by decide⟩⟩

/-- Every premise of PlacementSteps is met by some state and operands. -/
theorem test_meets_PlacementSteps :
    (∃ (s : State) (l : List Nat) (c : PStep), s.gov.quiet ∧ s.gov.pl.cur = some c ∧ c.fetched = false ∧ descCheck l
      s.gov ≠ 0)
    ∧ (∃ (s : State) (l : List Nat) (c : PStep), s.gov.quiet ∧ s.gov.pl.cur = some c ∧ c.fetched = false ∧ descCheck l
      s.gov = 0)
    ∧ (∃ (s : State) (c : PStep) (p : PStep), s.gov.quiet ∧ s.gov.pl.cur = some c ∧ c.fetched = true ∧ s.gov.pl.ords.any
      (fun o => o.replyWait) = false ∧ s.gov.pl.revoked = [] ∧ s.gov.pl.pend = some p ∧ s.gov.flag F.PL_STAT_FETCH_ERR =
      false ∧ s.gov.flag F.PL_STAT_REPLY_ERR = false ∧ s.gov.flag F.DMA_STAT_PL_ERR = false)
    ∧ (∃ (s : State) (c : PStep), s.gov.quiet ∧ s.gov.pl.cur = some c ∧ c.fetched = true ∧ s.gov.pl.ords.any (fun o =>
      o.replyWait) = false ∧ s.gov.pl.revoked = [] ∧ s.gov.pl.pend = none)
    ∧ (∃ (s : State) (w : Nat) (p : PStep), s.gov.live = true ∧ bit w 2 = true ∧ bit w 3 = true ∧ s.gov.pl.pend = some p
      ∧ s.gov.pl.cur = none ∧ s.gov.flag F.DMA_STAT_PL_ERR = false) :=
  ⟨⟨box { up with gtime := 9, pl := { cur := some { addr := 64, tCmd := 3 } } }, [0], { addr := 64, tCmd := 3 },
     by decide⟩,
   ⟨box { up with gtime := 9, pl := { cur := some { addr := 64, tCmd := 3 } } }, [1 + 5 * 2 ^ 32, 1, 4096, 72, 0, 0, 0,
     0, 1, 0], { addr := 64, tCmd := 3 }, by decide⟩,
   ⟨box
     { up with gtime := 9, pl := { cur := some { addr := 64, tCmd := 3, fetched := true }, pend := some { addr := 8 } } },
     { addr := 64, tCmd := 3, fetched := true }, { addr := 8 }, by decide⟩,
   ⟨box { up with gtime := 9, pl := { cur := some { addr := 64, tCmd := 3, fetched := true } } },
     { addr := 64, tCmd := 3, fetched := true }, by decide⟩,
   ⟨box
     { put up [(F.PL_STAT_FETCH_ERR, 1), (F.PL_STAT_REPLY_ERR, 1)] with gtime := 9, pl := { pend := some { addr := 8 } } },
     12, { addr := 8 }, by decide⟩⟩

/-- Every premise of PushAndPop is met by some state and operands. -/
theorem test_meets_PushAndPop :
    (∃ (s : State) (n : Nat) (port : Nat), s.gov.live = true ∧ s.gov.quiet ∧ n < 16 ∧ ((∀ m < 16, s.gov.head m = none))
      ∧ (s.gov.flag (F.MBX_CTL_EN n) = false ∨ s.gov.mayUse n port = false))
    ∧ (∃ (s : State) (n : Nat) (port : Nat), s.gov.live = true ∧ s.gov.quiet ∧ n < 16 ∧ ((∀ m < 16, s.gov.head m =
      none)) ∧ s.gov.flag (F.MBX_CTL_EN n) = true ∧ s.gov.mayUse n port = true ∧ 32 ≤ (s.gov.mbx n).used)
    ∧ (∃ (s : State) (n : Nat) (port : Nat) (w : Nat), s.gov.live = true ∧ s.gov.quiet ∧ n < 16 ∧ ((∀ m < 16, s.gov.head
      m = none)) ∧ s.gov.flag (F.MBX_CTL_EN n) = true ∧ s.gov.mayUse n port = true ∧ (s.gov.mbx n).q = [] ∧ bits w 14 5
      ≠ 0)
    ∧ (∃ (s : State) (n : Nat) (port : Nat) (p : Pkt), s.gov.live = true ∧ s.gov.quiet ∧ n < 16 ∧ ((∀ m < 16, s.gov.head
      m = none)) ∧ s.gov.flag (F.MBX_CTL_EN n) = true ∧ s.gov.mayUse n port = true ∧ (s.gov.mbx n).q = [p] ∧
      p.params.length + 1 < 32 ∧ p.params.length + 1 ≠ p.len)
    ∧ (∃ (s : State) (n : Nat), s.gov.live = true ∧ s.gov.quiet ∧ n < 16)
    ∧ (∃ (s : State) (n : Nat) (port : Nat) (x : Nat) (r : List Nat), s.gov.live = true ∧ s.gov.quiet ∧ n < 16 ∧ ((∀ m <
      16, s.gov.head m = none)) ∧ s.gov.mayUse n port = true ∧ (s.gov.mbx n).rq = x :: r)
    ∧ (∃ (s : State) (n : Nat) (port : Nat), s.gov.live = true ∧ s.gov.quiet ∧ n < 16 ∧ ((∀ m < 16, s.gov.head m =
      none)) ∧ s.gov.mayUse n port = true ∧ (s.gov.mbx n).rq = []) :=
  ⟨⟨box (put up [(F.MBX_CTL_EN 15, 0)]), 15, 0, by decide⟩,
   ⟨box
     { put up [(F.MBX_CTL_EN 15, 1)] with mb := { boxes := [(15, { q := [{ hdr := 31 * 2 ^ 14, params := List.replicate 31 0 }] })] } },
     15, 0, by decide⟩,
   ⟨box { put up [(F.MBX_CTL_EN 15, 1)] with gtime := 6 }, 15, 0, 2 ^ 14, by decide⟩,
   ⟨box
     { put up [(F.MBX_CTL_EN 15, 1)] with mb := { boxes := [(15, { q := [{ hdr := 31 * 2 ^ 14, params := List.replicate 29 0 }] })] } },
     15, 0, { hdr := 31 * 2 ^ 14, params := List.replicate 29 0 }, by decide⟩,
   ⟨box { put up [(F.MBX_CTL_EN 15, 1)] with gtime := 6 }, 15, by decide⟩,
   ⟨box { put up [(F.MBX_CTL_EN 15, 1), (F.MBX_STAT_STALE 15, 1)] with mb := { boxes := [(15, { rq := [5, 6] })] } },
     15, 5, 5, [6], by decide⟩,
   ⟨box (put up [(F.MBX_CTL_EN 15, 1)]), 15, 5, by decide⟩⟩

/-- Every premise of PacketsAndTimeouts is met by some state and operands. -/
theorem test_meets_PacketsAndTimeouts :
    (∃ (s : State) (n : Nat) (p : Pkt) (c : Cmd), s.gov.live = true ∧ s.gov.quiet ∧ n < 16 ∧ (s.gov.mbx n).q = [p] ∧
      p.whole.isSome = true ∧ s.gov.takeable n p = true ∧ ((∀ m < 16, m ≠ n → s.gov.head m = none)) ∧ c =
      { mbx := n, port := p.port, cls := p.cls, op := p.op, len := p.len, arg := bits p.hdr 32 32, params := p.params }
      ∧ (cmdRefused s.build c p.hres s.gov ≠ 0 ∨ p.op = 0))
    ∧ (∃ (s : State) (n : Nat) (p : Pkt), s.gov.live = true ∧ s.gov.quiet ∧ n < 16 ∧ ((∀ m < 16, s.gov.head m = none)) ∧
      (s.gov.mbx n).q = [p] ∧ p.whole = none)
    ∧ (∃ (s : State) (n : Nat), s.gov.live = true ∧ n < 16 ∧ (s.gov.mbx n).rq ≠ [] ∧ s.gov.flag (F.MBX_STAT_STALE n) =
      false)
    ∧ (∃ (s : State) (i : Nat) (c : Cmd), s.gov.live = true ∧ mfind s.gov.mb.cmds i = some c ∧ c.late = false ∧ (c.wait
      ≠ 2 ∨ s.gov.rd F.CFG_STAT_STATE = 3))
    ∧ (∃ (s : State) (n : Nat), s.gov.live = true ∧ n < 16) :=
  ⟨⟨box
     { put up [(F.MBX_CTL_EN 15, 1)] with mb := { boxes := [(15, { q := [{ hdr := 4096, whole := some 0, port := 5 }] })] } },
     15, { hdr := 4096, whole := some 0, port := 5 }, _, by decide, by decide, by decide, by decide, by decide,
     by decide, by decide, rfl, by decide⟩,
   ⟨box
     { put up [(F.MBX_CTL_EN 15, 1), (F.MBX_TO_PKT_TO, 1)] with mb := { boxes := [(15, { q := [{ hdr := 2 ^ 14, t0 := 5 }] })] } },
     15, { hdr := 2 ^ 14, t0 := 5 }, by decide⟩,
   ⟨box { put up [(F.MBX_CTL_EN 15, 1)] with mb := { boxes := [(15, { rq := [3], popT := 4 })] } }, 15, by decide⟩,
   ⟨box { put up [(F.CFG_STAT_STATE, 3), (F.CFG_TC_TC, 77)] with mb := { cmds := [(4, { wait := 2, op := 0x011 })] } },
     4, { wait := 2, op := 0x011 }, by decide⟩,
   ⟨box { put up [(F.MBX_STAT_MGEN 15, 15)] with mb := { boxes := [(15, { rq := [3], popT := 4 })] } }, 15, by decide⟩⟩

/-- Every premise of LockRules is met by some state and operands. -/
theorem test_meets_LockRules :
    (∃ (s : State), s.gov.live = true)
    ∧ (∃ (s : State) (port : Nat), s.gov.live = true ∧ s.gov.rd F.GOV_LOCK_OWNER = port ∧ s.gov.rd F.CFG_STAT_STATE = 1)
    ∧ (∃ (s : State) (port : Nat), s.gov.live = true ∧ s.gov.rd F.GOV_LOCK_OWNER ≠ port)
    ∧ (∃ (s : State), s.gov.live = true ∧ s.gov.rd F.GOV_LOCK_OWNER ≠ 7)
    ∧ (∃ (s : State), s.gov.live = true ∧ s.gov.rd F.GOV_LOCK_OWNER = 7)
    ∧ (∃ (s : State), s.gov.live = true ∧ s.gov.rd F.GOV_LOCK_OWNER ≠ 7 ∧ s.gov.rd F.GOV_LOCK_LOCK_TO ≠ 0) :=
  ⟨⟨box (put up [(F.GOV_LOCK_OWNER, 7)]), by decide⟩,
   ⟨box (put up [(F.GOV_LOCK_OWNER, 5), (F.CFG_STAT_STATE, 1), (F.CFG_STAT_OWNER, 5)]), 5, by decide⟩,
   ⟨box (put up [(F.GOV_LOCK_OWNER, 7)]), 5, by decide⟩,
   ⟨box (put up [(F.GOV_LOCK_OWNER, 5)]), by decide⟩,
   ⟨box (put up [(F.GOV_LOCK_OWNER, 7)]), by decide⟩,
   ⟨box { put up [(F.GOV_LOCK_OWNER, 5), (F.GOV_LOCK_LOCK_TO, 1)] with cfg := { access := [(5, 8)] } }, by decide⟩⟩

/-- Every premise of StageOpenAbort is met by some state and operands. -/
theorem test_meets_StageOpenAbort :
    (∃ (s : State) (port : Nat), s.gov.live = true ∧ s.gov.rd F.GOV_LOCK_OWNER = port ∧ s.gov.committing = false ∧
      sDISCOVER ≤ s.gov.stage ∧ s.gov.cfg.copyAt = none ∧ s.gov.rd F.CFG_STAT_STATE ≠ 1)
    ∧ (∃ (s : State) (port : Nat), s.gov.live = true ∧ s.gov.rd F.GOV_LOCK_OWNER ≠ port)
    ∧ (∃ (s : State), s.gov.live = true ∧ s.gov.cfg.copyAt.isSome = true ∧ s.gov.mb.cmds = [] ∧ s.gov.cfg.abandon =
      true)
    ∧ (∃ (s : State), s.gov.live = true ∧ s.gov.cfg.copyAt.isSome = true ∧ s.gov.mb.cmds = [] ∧ s.gov.cfg.abandon =
      false)
    ∧ (∃ (s : State) (port : Nat), s.gov.live = true ∧ s.gov.rd F.CFG_STAT_STATE = 1 ∧ s.gov.rd F.CFG_STAT_OWNER = port)
    ∧ (∃ (s : State) (port : Nat), s.gov.live = true ∧ s.gov.rd F.CFG_STAT_STATE = 1 ∧ s.gov.rd F.CFG_STAT_OWNER ≠ port)
    ∧ (∃ (s : State) (r : Rewrite), s.gov.live = true ∧ s.gov.cfg.rewrite = some r ∧ r.clears = true ∧ r.spoiled =
      false)
    ∧ (∃ (s : State) (r : Rewrite), s.gov.live = true ∧ s.gov.cfg.rewrite = some r ∧ (r.clears = false ∨ r.spoiled =
      true)) :=
  ⟨⟨box (put (stg sDISCOVER) [(F.GOV_LOCK_OWNER, 5)]), 5, by decide⟩,
   ⟨box (put up [(F.GOV_LOCK_OWNER, 5)]), 4, by decide⟩,
   ⟨box { put up [(F.MBX_TO_PKT_TO, 4), (F.CFG_STAT_OWNER, 5)] with cfg := { copyAt := some 4, abandon := true } },
     by decide⟩,
   ⟨box { put up [(F.MBX_TO_PKT_TO, 4), (F.CFG_STAT_OWNER, 5)] with cfg := { copyAt := some 4, abandon := false } },
     by decide⟩,
   ⟨box (put up [(F.MBX_TO_PKT_TO, 4), (F.CFG_STAT_OWNER, 5), (F.CFG_STAT_STATE, 1)]), 5, by decide⟩,
   ⟨box (put up [(F.MBX_TO_PKT_TO, 4), (F.CFG_STAT_OWNER, 5), (F.CFG_STAT_STATE, 1)]), 4, by decide⟩,
   ⟨box
     { put up [(F.MBX_TO_PKT_TO, 4), (F.CFG_STAT_DIRTY, 1)] with cfg := { rewrite := some { start := 3, clears := true, spoiled := false } } },
     { start := 3, clears := true, spoiled := false }, by decide⟩,
   ⟨box
     { put up [(F.MBX_TO_PKT_TO, 4), (F.CFG_STAT_DIRTY, 1)] with cfg := { rewrite := some { start := 3, clears := true, spoiled := true } } },
     { start := 3, clears := true, spoiled := true }, by decide⟩⟩

/-- Every premise of CommitRules is met by some state and operands. -/
theorem test_meets_CommitRules :
    (∃ (s : State) (port : Nat) (w : Nat), s.gov.live = true ∧ s.gov.rd F.GOV_LOCK_OWNER = port ∧ s.gov.committing =
      false ∧ s.gov.cfg.copyAt = none ∧ ((s.gov.rd F.CFG_STAT_STATE = 1 → s.gov.probeBlocks = false)) ∧ w < 2 ^ 64 ∧
      (w = 0 ∨ s.gov.gtime + 40000 ≤ w) ∧ w ≤ s.gov.gtime + 2 ^ 32)
    ∧ (∃ (s : State) (port : Nat) (w : Nat), s.gov.live = true ∧ w < 2 ^ 64 ∧ s.gov.rd F.GOV_LOCK_OWNER ≠ port)
    ∧ (∃ (s : State) (port : Nat) (w : Nat), s.gov.live = true ∧ w < 2 ^ 64 ∧ s.gov.rd F.GOV_LOCK_OWNER = port ∧
      s.gov.committing = false ∧ s.gov.cfg.copyAt = none ∧ s.gov.rd F.CFG_STAT_STATE ≠ 1 ∧ w ≠ 0 ∧ w < s.gov.gtime +
      40000)
    ∧ (∃ (s : State) (port : Nat) (w : Nat), s.gov.live = true ∧ w < 2 ^ 64 ∧ s.gov.rd F.GOV_LOCK_OWNER = port ∧
      s.gov.committing = false ∧ s.gov.cfg.copyAt = none ∧ s.gov.rd F.CFG_STAT_STATE ≠ 1 ∧ s.gov.gtime + 2 ^ 32 < w)
    ∧ (∃ (s : State) (c : Commit), s.gov.live = true ∧ s.gov.mb.cmds = [] ∧ s.gov.cfg.commit = some c ∧ s.gov.rd
      F.CFG_STAT_STATE = 2 ∧ (c.staged = false ∨ commitBad s.build s.gov = none))
    ∧ (∃ (s : State) (c : Commit) (off : Nat), s.gov.live = true ∧ s.gov.mb.cmds = [] ∧ s.gov.cfg.commit = some c ∧
      s.gov.rd F.CFG_STAT_STATE = 2 ∧ c.staged = true ∧ commitBad s.build s.gov = some off ∧ s.gov.rd F.GOV_LOCK_OWNER
      = s.gov.rd F.CFG_STAT_OWNER)
    ∧ (∃ (s : State) (c : Commit) (f : Fld), s.build.ok = true ∧ s.gov.live = true ∧ s.gov.quiet ∧ (∀ e ∈ s.gov.probes,
      e.2.inPulse = false) ∧ s.gov.cfg.commit = some c ∧ s.gov.rd F.CFG_STAT_STATE = 3 ∧ c.applied = false ∧ c.staged
      = true ∧ f.keep = .retained ∧ fldOfKey f.key = some f ∧ railRow f.off = none)
    ∧ (∃ (s : State) (c : Commit), s.build.ok = true ∧ s.gov.live = true ∧ s.gov.quiet ∧ (∀ e ∈ s.gov.probes,
      e.2.inPulse = false) ∧ s.gov.cfg.commit = some c ∧ s.gov.rd F.CFG_STAT_STATE = 3 ∧ c.applied = false ∧ c.staged
      = false)
    ∧ (∃ (s : State) (c : Commit), s.gov.live = true ∧ s.gov.mb.cmds = [] ∧ s.gov.cfg.commit = some c ∧ c.applied =
      true ∧ ((∀ n < s.build.rails, (s.gov.rail n).commitAt = none))) :=
  ⟨⟨box { put up [(F.GOV_LOCK_OWNER, 5), (F.CFG_STAT_STATE, 1), (F.CFG_STAT_OWNER, 5)] with gtime := 7 }, 5, 0, by decide⟩,
   ⟨box { put up [(F.GOV_LOCK_OWNER, 5)] with gtime := 7 }, 4, 0, by decide⟩,
   ⟨box { put up [(F.GOV_LOCK_OWNER, 5)] with gtime := 7 }, 5, 40006, by decide⟩,
   ⟨box { put up [(F.GOV_LOCK_OWNER, 5)] with gtime := 7 }, 5, 2 ^ 32 + 8, by decide⟩,
   ⟨box { put up [(F.GOV_LOCK_OWNER, 5), (F.CFG_STAT_STATE, 2)] with gtime := 7, cfg := { commit := some { atT := 0, t0 := 3, staged := false } } }, { atT := 0, t0 := 3, staged := false }, by decide⟩,
   ⟨box { put up [(F.GOV_LOCK_OWNER, 5), (F.CFG_STAT_STATE, 2), (F.CFG_STAT_OWNER, 5)] with gtime := 7, cfg := { shadow := [((F.RAIL_CFG_PER 3).key, 7999), ((F.RAIL_CFG_PER 5).key, 1)], commit := some { atT := 0, t0 := 3, staged := true } } }, { atT := 0, t0 := 3, staged := true }, 16536, by decide⟩,
   ⟨box { put up [(F.GOV_LOCK_OWNER, 5), (F.CFG_STAT_STATE, 3)] with gtime := 7, cfg := { shadow := [(F.MBX_TO_PKT_TO.key, 5)], commit := some { tc := 9, staged := true } } }, { tc := 9, staged := true }, F.MBX_TO_PKT_TO, by decide⟩,
   ⟨box { put up [(F.GOV_LOCK_OWNER, 5), (F.CFG_STAT_STATE, 3)] with gtime := 7, cfg := { commit := some { tc := 9, staged := false } } }, { tc := 9, staged := false }, by decide⟩,
   ⟨box { put up [(F.GOV_LOCK_OWNER, 5), (F.CFG_STAT_STATE, 3)] with gtime := 7, cfg := { commit := some { tc := 9, staged := true, applied := true, nchg := 4 } } }, { tc := 9, staged := true, applied := true, nchg := 4 }, by decide⟩⟩

/-- Every premise of SystemOpcodes is met by some state and operands. -/
theorem test_meets_SystemOpcodes :
    (∃ (s : State) (x : Packet), s.takes 0x000 x.arg x)
    ∧ (∃ (s : State) (x : Packet), s.takes 0x001 x.arg x)
    ∧ (∃ (op : Nat) (l : List Nat) (c : Packet → Instr) (s : State) (x : Packet), (op, l, c) ∈ [(0x002, [0x2000,
      0x12108, 0x2050, 0xA008, 0xC008, 0xC210], Instr.status), (0x110, 0xA2C0 :: (offsets 0xA200 8 8 ++ offsets 0xA240 8
      16), Instr.budQuery), (0x740, [0x14038], Instr.svcQuery)] ∧ s.takes op x.arg x)
    ∧ (∃ (op : Nat) (l : List Nat) (c : Packet → Instr) (s : State) (x : Packet), (op, l, c) ∈ [(0x122, [0xE208, 0xE218,
      0xE220] ++ offsets 0xE380 8 9, Instr.hrQuery), (0x503, [0x10010, 0x10018, 0x10028, 0x10030] ++ offsets 0x10080 8
      8, Instr.plQuery)] ∧ s.takes op x.arg x)
    ∧ (∃ (s : State) (x : Packet), s.takes 0x008 x.arg x)
    ∧ (∃ (s : State) (x : Packet) (r : Gov × Nat), s.takes 0x009 x.arg x ∧ r = regWrite s.build x.port x.arg
      (x.params.getD 0 0) (x.params.getD 1 maskAll) (s.taken 0x009 x.arg x) ∧ r.1.mb = (s.taken 0x009 x.arg x).mb ∧
      r.1.rd (F.MBX_STAT_MGEN x.mbx) = s.gov.rd (F.MBX_STAT_MGEN x.mbx))
    ∧ (∃ (s : State) (x : Packet) (bad : List Nat) (r : Gov × List Host.Cell × List Nat), s.takes 0x00A x.arg x ∧ r =
      storeReadWords s.build bad (bits x.arg 24 5) (bits x.arg 0 24) (s.taken 0x00A x.arg x) s.mem)
    ∧ (∃ (s : State) (x : Packet) (lose : Option Nat) (n : Nat), s.takes 0x00B x.arg x ∧ n = storeWritten
      { lose := lose } (s.command 0x00B x.arg x) (s.taken 0x00B x.arg x))
    ∧ (∃ (s : State) (x : Packet), s.takes 0x010 x.arg x ∧ s.gov.committing = false ∧ s.gov.cfg.copyAt = none ∧ s.gov.rd
      F.CFG_STAT_STATE ≠ 1)
    ∧ (∃ (s : State) (x : Packet), s.takes 0x010 x.arg x ∧ s.gov.rd F.CFG_STAT_STATE = 1 ∧ s.gov.rd F.CFG_STAT_OWNER =
      x.port)
    ∧ (∃ (s : State) (x : Packet), s.takes 0x010 x.arg x ∧ s.gov.committing = true)
    ∧ (∃ (s : State) (x : Packet) (w : Nat), s.takes 0x011 x.arg x ∧ s.gov.committing = false ∧ s.gov.cfg.copyAt = none
      ∧ s.gov.rd F.CFG_STAT_STATE ≠ 1 ∧ w = x.params.getD 0 0 ∧ (w = 0 ∨ s.gov.gtime + 40000 ≤ w) ∧ w ≤ s.gov.gtime + 2
      ^ 32)
    ∧ (∃ (s : State) (x : Packet) (w : Nat), s.takes 0x011 x.arg x ∧ s.gov.committing = false ∧ s.gov.cfg.copyAt = none
      ∧ s.gov.rd F.CFG_STAT_STATE ≠ 1 ∧ w = x.params.getD 0 0 ∧ w ≠ 0 ∧ w < s.gov.gtime + 40000)
    ∧ (∃ (s : State) (x : Packet), s.takes 0x012 x.arg x ∧ s.gov.rd F.CFG_STAT_STATE = 1 ∧ s.gov.rd F.CFG_STAT_OWNER =
      x.port)
    ∧ (∃ (s : State) (x : Packet), s.takes 0x012 x.arg x ∧ s.gov.rd F.CFG_STAT_STATE ≠ 1)
    ∧ (∃ (s : State) (x : Packet), s.takes 0x018 1 x ∧ (s.gov.rd F.GOV_LOCK_OWNER = 7 ∨ s.gov.rd F.GOV_LOCK_OWNER =
      x.port))
    ∧ (∃ (s : State) (x : Packet), s.takes 0x018 1 x ∧ s.gov.rd F.GOV_LOCK_OWNER ≠ 7 ∧ s.gov.rd F.GOV_LOCK_OWNER ≠
      x.port)
    ∧ (∃ (s : State) (x : Packet), s.takes 0x018 2 x ∧ s.gov.rd F.GOV_LOCK_OWNER = x.port)
    ∧ (∃ (s : State) (x : Packet), s.takes 0x018 2 x ∧ s.gov.rd F.GOV_LOCK_OWNER ≠ x.port)
    ∧ (∃ (s : State) (x : Packet), s.takes 0x018 4 x)
    ∧ (∃ (s : State) (x : Packet), s.build.ok = true ∧ s.takes 0x020 x.arg x ∧ (s.gov.stage = sWAITCFG ∨ s.gov.stage =
      sOFF) ∧ startCheck s.build s.gov = none)
    ∧ (∃ (s : State) (x : Packet), s.build.ok = true ∧ s.takes 0x020 x.arg x ∧ (s.gov.stage = sWAITCFG ∨ s.gov.stage =
      sOFF) ∧ startCheck s.build s.gov ≠ none)
    ∧ (∃ (s : State) (x : Packet), s.build.ok = true ∧ s.takes 0x020 x.arg x ∧ s.gov.stage ≠ sWAITCFG ∧ s.gov.stage ≠
      sOFF)
    ∧ (∃ (s : State) (x : Packet), s.build.ok = true ∧ s.takes 0x021 x.arg x ∧ s.gov.stage = sREADY ∧ s.gov.probes = [])
    ∧ (∃ (s : State) (x : Packet), s.build.ok = true ∧ s.takes 0x021 x.arg x ∧ s.gov.stopTaken = false) :=
  ⟨⟨box up, pkt 0, by decide⟩,
   ⟨box up, pkt 0, by decide⟩,
   ⟨0x002, [0x2000, 0x12108, 0x2050, 0xA008, 0xC008, 0xC210], Instr.status, box up, pkt 0, by simp, by decide⟩,
   ⟨0x122, [0xE208, 0xE218, 0xE220] ++ offsets 0xE380 8 9, Instr.hrQuery, box up, pkt 0, by simp, by decide⟩,
   ⟨box up, pkt 0x4580, by decide⟩,
   ⟨box up, pkt 0x2010 [5, 0xFF], _, by decide, rfl, by decide⟩,
   ⟨{ box up with mem := [(0x880000, 7)] }, pkt (0x880000 + 31 * 2 ^ 24), [], _, by decide, rfl⟩,
   ⟨{ box up with mem := [(0x880000, 7)] }, pkt 0x880000 [1, 2], none, _, by decide, rfl⟩,
   ⟨box (put up [(F.GOV_LOCK_OWNER, 5)]), pkt 0, by decide⟩,
   ⟨box (put up [(F.GOV_LOCK_OWNER, 5), (F.CFG_STAT_STATE, 1), (F.CFG_STAT_OWNER, 5)]), pkt 0, by decide⟩,
   ⟨box (put up [(F.GOV_LOCK_OWNER, 5), (F.CFG_STAT_STATE, 2), (F.CFG_STAT_OWNER, 5)]), pkt 0, by decide⟩,
   ⟨box { put up [(F.GOV_LOCK_OWNER, 5)] with gtime := 3 }, pkt 0 [40003], _, by decide, by decide, by decide,
     by decide, rfl, by decide⟩,
   ⟨box { put up [(F.GOV_LOCK_OWNER, 5)] with gtime := 3 }, pkt 0 [40002], _, by decide, by decide, by decide,
     by decide, rfl, by decide⟩,
   ⟨box (put up [(F.GOV_LOCK_OWNER, 5), (F.CFG_STAT_STATE, 1), (F.CFG_STAT_OWNER, 5)]), pkt 0, by decide⟩,
   ⟨box (put up [(F.GOV_LOCK_OWNER, 5)]), pkt 0, by decide⟩,
   ⟨box (put up [(F.GOV_LOCK_OWNER, 7)]), pkt 1, by decide⟩,
   ⟨box (put up [(F.GOV_LOCK_OWNER, 4)]), pkt 1, by decide⟩,
   ⟨box (put up [(F.GOV_LOCK_OWNER, 5)]), pkt 2, by decide⟩,
   ⟨box (put up [(F.GOV_LOCK_OWNER, 4)]), pkt 2, by decide⟩,
   ⟨box (put up [(F.GOV_LOCK_OWNER, 3)]), pkt 4, by decide⟩,
   ⟨box (put (stg sOFF) rail0), pkt 0, by decide⟩,
   ⟨box (stg sWAITCFG), pkt 0, by decide⟩,
   ⟨box up, pkt 0, by decide⟩,
   ⟨box up, pkt 0, by decide⟩,
   ⟨box (stg sOFF), pkt 0, by decide⟩⟩

/-- Every premise of RailOpcodes is met by some state and operands. -/
theorem test_meets_RailOpcodes :
    (∃ (s : State) (x : Packet), s.build.ok = true ∧ s.takes 0x100 x.arg x)
    ∧ (∃ (s : State) (x : Packet), s.build.ok = true ∧ s.takes 0x101 x.arg x)
    ∧ (∃ (s : State) (x : Packet), s.takes 0x120 x.arg x ∧ s.gov.hrRootDev = false)
    ∧ (∃ (s : State) (x : Packet), s.takes 0x120 x.arg x ∧ s.gov.hrRootDev = true ∧ s.gov.rd F.HR_EPOCH_HALL_CAP = 0)
    ∧ (∃ (s : State) (x : Packet), s.takes 0x120 x.arg x ∧ s.gov.hrRootDev = true ∧ s.gov.rd F.HR_EPOCH_HALL_CAP ≠ 0 ∧
      s.gov.hrNextEpoch.isSome = true)
    ∧ (∃ (s : State) (x : Packet), s.takes 0x120 x.arg x ∧ s.gov.hrRootDev = true ∧ s.gov.rd F.HR_EPOCH_HALL_CAP ≠ 0 ∧
      s.gov.hrNextEpoch = none)
    ∧ (∃ (s : State) (x : Packet), s.takes 0x121 x.arg x ∧ (s.gov.hlink x.arg).hold = none)
    ∧ (∃ (s : State) (x : Packet), s.takes 0x121 x.arg x ∧ (s.gov.hlink x.arg).hold ≠ none)
    ∧ (∃ (s : State) (x : Packet), s.takes 0x200 x.arg x)
    ∧ (∃ (s : State) (x : Packet), s.takes 0x201 x.arg x ∧ (s.gov.rail x.arg).count ≠ 0)
    ∧ (∃ (s : State) (x : Packet) (n : Nat), s.takes 0x202 x.arg x ∧ n = bits x.arg 0 4 ∧ s.gov.railIdle n = true)
    ∧ (∃ (s : State) (x : Packet) (n : Nat), s.takes 0x202 x.arg x ∧ n = bits x.arg 0 4 ∧ s.gov.railIdle n = false ∧
      s.gov.flag (F.RAIL_STAT_PEND n) = true)
    ∧ (∃ (s : State) (x : Packet) (n : Nat), s.takes 0x202 x.arg x ∧ n = bits x.arg 0 4 ∧ s.gov.railIdle n = false ∧
      s.gov.flag (F.RAIL_STAT_PEND n) = false ∧ s.gov.stage = sREADY ∧ s.gov.rd (F.RAIL_CTL_OPEN n) ≠ bits x.arg 8 1)
    ∧ (∃ (s : State) (x : Packet) (n : Nat), s.takes 0x203 x.arg x ∧ s.gov.noStage ∧ n = bits x.arg 0 4 ∧ s.gov.mode n ≠
      mCLOSED ∧ s.gov.mode n ≠ mOPEN ∧ s.gov.mode n ≠ mBURST)
    ∧ (∃ (s : State) (x : Packet) (n : Nat), s.takes 0x203 x.arg x ∧ s.gov.noStage ∧ n = bits x.arg 0 4 ∧ (s.gov.mode n
      = mCLOSED ∨ s.gov.mode n = mOPEN ∨ s.gov.mode n = mBURST) ∧ s.gov.flag (F.RAIL_STAT_PEND n) = false ∧ s.gov.stage
      = sREADY ∧ s.gov.rd (F.RAIL_STAT_CSET_ACT n) ≠ bits x.arg 8 2) :=
  ⟨⟨box (put up [(F.ST_THR_TLVL 7, 3)]), pkt 7, by decide⟩,
   ⟨box (put up [(F.ST_THR_TLVL 7, 3)]), pkt (0x81 + 7 * 256), by decide⟩,
   ⟨box up, pkt 0, by decide⟩,
   ⟨box (put up [(F.HR_STAT_ROOT, 1)]), pkt 0, by decide⟩,
   ⟨box { put up [(F.HR_STAT_ROOT, 1), (F.HR_EPOCH_HALL_CAP, 9)] with hr := { pend := [{ num := 2 }] } }, pkt 0,
     by decide⟩,
   ⟨box { put up [(F.HR_STAT_ROOT, 1), (F.HR_EPOCH_HALL_CAP, 9)] with hr := { epRx := 65535 } }, pkt 0, by decide⟩,
   ⟨box up, pkt 8, by decide⟩,
   ⟨box { up with hr := { links := [(8, { hold := some 2 })] } }, pkt 8, by decide⟩,
   ⟨box (put up [(F.RAIL_MEAS_MISS 15, 4)]), pkt 15, by decide⟩,
   ⟨box { put up [(F.PH_STAT_CUTS 3, 4)] with rails := [(15, { first := 0, count := 24 })] }, pkt 15, by decide⟩,
   ⟨box up, pkt 15, _, by decide, rfl, by decide⟩,
   ⟨box (put up [(F.RAIL_STAT_MODE 15, mOPEN), (F.RAIL_STAT_PEND 15, 1)]), pkt 15, _, by decide, rfl, by decide⟩,
   ⟨box (put up [(F.RAIL_STAT_MODE 15, mCLOSED)]), pkt (15 + 256), _, by decide, rfl, by decide⟩,
   ⟨box up, pkt 15, _, by decide, by decide, rfl, by decide⟩,
   ⟨box (put up [(F.RAIL_STAT_MODE 15, mCLOSED)]), pkt (15 + 3 * 256), _, by decide, by decide, rfl, by decide⟩⟩

/-- Every premise of DemandOpcodes is met by some state and operands. -/
theorem test_meets_DemandOpcodes :
    (∃ (s : State) (x : Packet), s.takes 0x300 x.arg x)
    ∧ (∃ (s : State) (x : Packet), s.takes 0x301 x.arg x)
    ∧ (∃ (s : State) (x : Packet) (y : Sig), s.takes 0x302 x.arg x ∧ mfind s.gov.dm.sigs x.arg = some y)
    ∧ (∃ (s : State) (x : Packet), s.takes 0x310 x.arg x ∧ (s.gov.ctx (bits x.arg 0 12)).st = 0 ∧ s.gov.inTeardown (bits
      x.arg 0 12) (bits x.arg 12 8) = false)
    ∧ (∃ (s : State) (x : Packet), s.takes 0x310 x.arg x ∧ (s.gov.ctx (bits x.arg 0 12)).st ≠ 0)
    ∧ (∃ (s : State) (x : Packet), s.takes 0x311 x.arg x ∧ (s.gov.ctx x.arg).st = 1)
    ∧ (∃ (s : State) (x : Packet), s.takes 0x311 x.arg x ∧ (s.gov.ctx x.arg).st = 0)
    ∧ (∃ (s : State) (x : Packet), s.takes 0x311 x.arg x ∧ (s.gov.ctx x.arg).st = 2)
    ∧ (∃ (s : State) (x : Packet), s.takes 0x312 x.arg x ∧ (s.gov.ctx x.arg).st ≠ 0 ∧ s.gov.ctxEntries x.arg = 0)
    ∧ (∃ (s : State) (x : Packet), s.takes 0x312 x.arg x ∧ (s.gov.ctx x.arg).st ≠ 0 ∧ s.gov.ctxEntries x.arg ≠ 0)
    ∧ (∃ (s : State) (x : Packet), s.takes 0x312 x.arg x ∧ (s.gov.ctx x.arg).st = 0)
    ∧ (∃ (s : State) (x : Packet), s.takes 0x313 x.arg x)
    ∧ (∃ (s : State) (x : Packet) (l : List Nat), s.takes 0x320 x.arg x ∧ l = s.gov.grantsBy (fun e => e.st != 0 &&
      e.req == bits x.arg 0 10 && e.slot == bits x.arg 10 5) ∧ l = [])
    ∧ (∃ (s : State) (x : Packet) (l : List Nat) (h : Nat) (r : List Nat), s.takes 0x320 x.arg x ∧ l = s.gov.grantsBy
      (fun e => e.st != 0 && e.req == bits x.arg 0 10 && e.slot == bits x.arg 10 5) ∧ l = h :: r ∧ (s.gov.grant h).st =
      2)
    ∧ (∃ (s : State) (x : Packet) (l : List Nat) (h : Nat) (r : List Nat), s.takes 0x320 x.arg x ∧ l = s.gov.grantsBy
      (fun e => e.st != 0 && e.req == bits x.arg 0 10 && e.slot == bits x.arg 10 5) ∧ l = h :: r ∧ (s.gov.grant h).st ≠
      2)
    ∧ (∃ (s : State) (x : Packet), s.takes 0x321 x.arg x)
    ∧ (∃ (s : State) (x : Packet), s.takes 0x322 x.arg x) :=
  ⟨⟨box up, pkt 4095, by decide⟩,
   ⟨box { up with dm := { sigs := [(0, sig3), (4095, sig3)] } }, pkt 4095, by decide⟩,
   ⟨box { up with dm := { sigs := [(4095, sig3)], grants := [(1, { st := 1, sig := 4095, dec := sig3 })] } }, pkt 4095,
     sig3, by decide⟩,
   ⟨box up, pkt (4095 + 255 * 2 ^ 12 + 15 * 2 ^ 20 + 3 * 2 ^ 24), by decide⟩,
   ⟨box { up with dm := { ctxs := [(4095, { st := 2 })] } }, pkt (4095 + 255 * 2 ^ 12 + 15 * 2 ^ 20 + 3 * 2 ^ 24),
     by decide⟩,
   ⟨box
     { put up [(F.RAIL_STAT_MODE 0, mCLOSED)] with dm := { isOpen := true, ctxs := [(4095, { st := 1 })], grants := [(1, { st := 1, ctx := 4095, req := 4, slot := 2, dec := sig3 }), (2, { st := 2, ctx := 4095, req := 4, slot := 3, dec := sig3 })], reqCnt := [(4, 2)] } },
     pkt 4095, by decide⟩,
   ⟨box up, pkt 4095, by decide⟩,
   ⟨box
     { put up [(F.RAIL_STAT_MODE 0, mCLOSED)] with dm := { isOpen := true, ctxs := [(4095, { st := 2 })], grants := [(1, { st := 1, ctx := 4095, req := 4, slot := 2, dec := sig3 }), (2, { st := 2, ctx := 4095, req := 4, slot := 3, dec := sig3 })], reqCnt := [(4, 2)] } },
     pkt 4095, by decide⟩,
   ⟨box { up with dm := { ctxs := [(4095, { st := 2 })] } }, pkt 4095, by decide⟩,
   ⟨box
     { up with dm := { ctxs := [(4095, { st := 1 })], grants := [(1, { st := 1, ctx := 4095, req := 4, slot := 2, dec := sig3 }), (2, { st := 2, ctx := 4095, req := 4, slot := 3, dec := sig3 })], reqCnt := [(4, 2)] } },
     pkt 4095, by decide⟩,
   ⟨box up, pkt 4095, by decide⟩,
   ⟨box
     { up with dm := { ctxs := [(4095, { st := 1 })], grants := [(1, { st := 1, ctx := 4095, req := 4, slot := 2, dec := sig3 }), (2, { st := 2, ctx := 4095, req := 4, slot := 3, dec := sig3 })], reqCnt := [(4, 2)] } },
     pkt 4095, by decide⟩,
   ⟨box { up with dm := { ctxs := [(4095, { st := 1 })] } }, pkt (1023 + 31 * 2 ^ 10), _, by decide, rfl, rfl⟩,
   ⟨box
     { put up [(F.RAIL_STAT_MODE 0, mCLOSED)] with dm := { isOpen := true, ctxs := [(4095, { st := 1 })], grants := [(1, { st := 1, ctx := 4095, req := 4, slot := 2, dec := sig3 }), (2, { st := 2, ctx := 4095, req := 4, slot := 3, dec := sig3 })], reqCnt := [(4, 2)] } },
     pkt (4 + 3 * 2 ^ 10), _, 2, [], by decide, rfl, rfl, by decide⟩,
   ⟨box
     { put up [(F.RAIL_STAT_MODE 0, mCLOSED)] with dm := { isOpen := true, ctxs := [(4095, { st := 1 })], grants := [(1, { st := 1, ctx := 4095, req := 4, slot := 2, dec := sig3 }), (2, { st := 2, ctx := 4095, req := 4, slot := 3, dec := sig3 })], reqCnt := [(4, 2)] } },
     pkt (4 + 2 * 2 ^ 10), _, 1, [], by decide, rfl, rfl, by decide⟩,
   ⟨box
     { put up [(F.RAIL_STAT_MODE 0, mCLOSED)] with dm := { isOpen := true, ctxs := [(4095, { st := 1 })], grants := [(1, { st := 1, ctx := 4095, req := 4, slot := 2, dec := sig3 }), (2, { st := 2, ctx := 4095, req := 4, slot := 3, dec := sig3 })], reqCnt := [(4, 2)] } },
     pkt 4, by decide⟩,
   ⟨box { up with dm := { disabled := [(1023, true)] } }, pkt 1023, by decide⟩⟩

/-- Every premise of ThermalAndPlacementOpcodes is met by some state and operands. -/
theorem test_meets_ThermalAndPlacementOpcodes :
    (∃ (s : State) (x : Packet), s.takes 0x400 x.arg x ∧ s.gov.th.load = none ∧ thCheck s.build (seenMem s.gov s.mem) =
      none)
    ∧ (∃ (s : State) (x : Packet) (n : Nat) (c : Nat), s.takes 0x400 x.arg x ∧ s.gov.th.load = none ∧ thCheck s.build
      (seenMem s.gov s.mem) = some (n, c))
    ∧ (∃ (s : State) (x : Packet), s.takes 0x400 x.arg x ∧ s.gov.th.load.isSome = true)
    ∧ (∃ (s : State) (x : Packet) (y : ThNode), s.takes 0x401 x.arg x ∧ mfind s.gov.th.nodes (bits x.arg 0 9) = some y ∧
      y.cfg.fixed = true)
    ∧ (∃ (s : State) (x : Packet) (y : ThNode), s.takes 0x401 x.arg x ∧ mfind s.gov.th.nodes (bits x.arg 0 9) = some y ∧
      y.cfg.fixed = false)
    ∧ (∃ (s : State) (x : Packet), s.takes 0x500 x.arg x ∧ s.gov.pl.pend.isSome = true)
    ∧ (∃ (s : State) (x : Packet), s.takes 0x500 x.arg x ∧ s.gov.pl.pend = none ∧ s.gov.pl.cur.isSome = true)
    ∧ (∃ (s : State) (x : Packet), s.takes 0x500 x.arg x ∧ s.gov.pl.pend = none ∧ s.gov.pl.cur = none ∧ s.gov.flag
      F.PL_STAT_FETCH_ERR = false ∧ s.gov.flag F.PL_STAT_REPLY_ERR = false ∧ s.gov.flag F.DMA_STAT_PL_ERR = false)
    ∧ (∃ (s : State) (x : Packet), s.takes 0x501 x.arg x ∧ (s.gov.ctx x.arg).st = 1)
    ∧ (∃ (s : State) (x : Packet), s.takes 0x501 x.arg x ∧ (s.gov.ctx x.arg).st ≠ 1)
    ∧ (∃ (s : State) (x : Packet), s.takes 0x502 x.arg x ∧ s.gov.findSeq (x.params.getD 0 0) x.arg = none)
    ∧ (∃ (s : State) (x : Packet) (sid : Nat), s.takes 0x502 x.arg x ∧ s.gov.findSeq (x.params.getD 0 0) x.arg = some
      sid) :=
  ⟨⟨{ box up with mem := fixedNode }, pkt 1, by decide +kernel⟩,
   ⟨{ box up with mem := [(0xAB0000, 1)] }, pkt 0, 0, 1, by decide +kernel⟩,
   ⟨box { up with th := { load := some {} } }, pkt 0, by decide +kernel⟩,
   ⟨box { up with th := { nodes := [(511, { cfg := { fixed := true } })] } }, pkt (511 + 0xFFFF * 2 ^ 16),
     { cfg := { fixed := true } }, by decide +kernel⟩,
   ⟨box { up with th := { nodes := [(511, { cfg := { fixed := false } })] } }, pkt (511 + 0xFFFF * 2 ^ 16),
     { cfg := { fixed := false } }, by decide +kernel⟩,
   ⟨box { up with pl := { cur := some {}, pend := some {} } }, pkt 0 [2 ^ 56 - 64], by decide +kernel⟩,
   ⟨box { up with pl := { cur := some {} }, gtime := 7 }, pkt 0 [2 ^ 56 - 64], by decide +kernel⟩,
   ⟨box { up with gtime := 7 }, pkt 0 [2 ^ 56 - 64], by decide +kernel⟩,
   ⟨box { up with dm := { ctxs := [(4095, { st := 1 })] } }, pkt 4095 [0xFF], by decide +kernel⟩,
   ⟨box { up with dm := { ctxs := [(4095, { st := 2 })] } }, pkt 4095 [0xFF], by decide +kernel⟩,
   ⟨box up, pkt 4095 [2 ^ 32 - 1], by decide +kernel⟩,
   ⟨box { up with pl := { seqs := [(9, { state := qLIVE, skey := 2 ^ 32 - 1, ctx := 4095, cgen := 3, last := 5 })] } },
     pkt 4095 [2 ^ 32 - 1], 9, by decide +kernel⟩⟩

/-- Every premise of RecoveryAndTelemetryOpcodes is met by some state and operands. -/
theorem test_meets_RecoveryAndTelemetryOpcodes :
    (∃ (s : State) (x : Packet), s.takes 0x600 x.arg x ∧ (s.gov.ctx x.arg).st = 0)
    ∧ (∃ (s : State) (x : Packet), s.takes 0x600 x.arg x ∧ (s.gov.ctx x.arg).st ≠ 0)
    ∧ (∃ (s : State) (x : Packet), s.takes 0x601 x.arg x ∧ s.gov.rd F.DW_CTL_ENG_MAX = 0)
    ∧ (∃ (s : State) (x : Packet), s.build.ok = true ∧ s.takes 0x602 x.arg x ∧ s.gov.boundMbx x.arg = [] ∧ bit (s.gov.rd
      F.RCV_HOLD_REL_PEND) x.arg = false)
    ∧ (∃ (s : State) (x : Packet), s.build.ok = true ∧ s.takes 0x603 x.arg x ∧ s.gov.boundMbx 16 = [] ∧ s.gov.flag
      F.RCV_HOLD_REL_PEND_CHIP = false)
    ∧ (∃ (s : State) (x : Packet), s.takes 0x604 x.arg x ∧ s.gov.rcv.pwrcyc = false)
    ∧ (∃ (s : State) (x : Packet), s.takes 0x604 x.arg x ∧ s.gov.rcv.pwrcyc = true)
    ∧ (∃ (s : State) (x : Packet), s.takes 0x700 x.arg x ∧ s.gov.recr.queue.length < 256)
    ∧ (∃ (s : State) (x : Packet), s.takes 0x702 x.arg x ∧ x.arg ≠ 3)
    ∧ (∃ (s : State) (x : Packet), s.takes 0x702 x.arg x)
    ∧ (∃ (s : State) (x : Packet), s.takes 0x710 x.arg x ∧ x.params.length = 2)
    ∧ (∃ (s : State) (x : Packet), s.takes 0x720 0 x ∧ s.gov.heldBanks 9 ≠ [] ∧ s.gov.dumpBusy = false)
    ∧ (∃ (s : State) (x : Packet), s.takes 0x720 0 x ∧ s.gov.heldBanks 9 ≠ [] ∧ s.gov.dumpBusy = true)
    ∧ (∃ (s : State) (x : Packet), s.takes 0x720 0 x ∧ s.gov.heldBanks 9 = [])
    ∧ (∃ (s : State) (x : Packet) (step : Nat), s.takes 0x720 1 x ∧ s.gov.heldBanks 9 ≠ [] ∧ s.gov.dumpBusy = false ∧
      step = x.params.getD 3 0 ∧ s.gov.flag F.PL_LAST_APPLIED = true ∧ (s.gov.pl.lastApplied + 2 ^ 32 - step) % 2 ^ 32 <
      2 ^ 31)
    ∧ (∃ (s : State) (x : Packet) (step : Nat), s.takes 0x720 1 x ∧ s.gov.heldBanks 9 ≠ [] ∧ s.gov.dumpBusy = false ∧
      step = x.params.getD 3 0 ∧ s.gov.flag F.PL_LAST_APPLIED = false ∧ 65536 < (step + 2 ^ 32 - s.gov.rd
      F.PL_LAST_STEP) % 2 ^ 32)
    ∧ (∃ (s : State) (x : Packet) (step : Nat), s.takes 0x720 1 x ∧ s.gov.heldBanks 9 ≠ [] ∧ s.gov.dumpBusy = false ∧
      step = x.params.getD 3 0 ∧ s.gov.flag F.PL_LAST_APPLIED = false ∧ (step + 2 ^ 32 - s.gov.rd F.PL_LAST_STEP) % 2 ^
      32 ≤ 65536)
    ∧ (∃ (s : State) (x : Packet), s.takes 0x741 x.arg x) :=
  ⟨⟨box up, pkt 4095, by decide +kernel⟩,
   ⟨box
     { put up [(F.RAIL_STAT_MODE 0, mCLOSED)] with dm := { isOpen := true, ctxs := [(4095, { st := 1 })], grants := [(1, { st := 1, ctx := 4095, req := 4, slot := 2, dec := sig3 }), (2, { st := 2, ctx := 4095, req := 4, slot := 3, dec := sig3 })], reqCnt := [(4, 2)] } },
     pkt 4095, by decide +kernel⟩,
   ⟨box
     { put up [(F.RAIL_STAT_MODE 0, mCLOSED), (F.DW_CTL_ENG_MAX, 0)] with dm := { isOpen := true, ctxs := [(4095, { st := 1 })], grants := [(1, { st := 1, ctx := 4095, req := 4, slot := 2, dec := sig3 }), (2, { st := 2, ctx := 4095, req := 4, slot := 3, dec := sig3 })], reqCnt := [(4, 2)] } },
     pkt 4, by decide +kernel⟩,
   ⟨box
     { put up [(F.RAIL_STAT_MODE 0, mCLOSED), (F.RCV_PGEN_PGEN 15, 15)] with dm := { isOpen := true, ctxs := [(4095, { st := 1 })], grants := [(1, { st := 1, ctx := 4095, req := 4, slot := 2, dec := sig3 }), (2, { st := 2, ctx := 4095, req := 4, slot := 3, dec := sig3 })], reqCnt := [(4, 2)] } },
     pkt 15, by decide +kernel⟩,
   ⟨box
     { put up [(F.RAIL_STAT_MODE 0, mCLOSED)] with dm := { isOpen := true, ctxs := [(4095, { st := 1 })], grants := [(1, { st := 1, ctx := 4095, req := 4, slot := 2, dec := sig3 }), (2, { st := 2, ctx := 4095, req := 4, slot := 3, dec := sig3 })], reqCnt := [(4, 2)] } },
     pkt 0x59470000, by decide +kernel⟩,
   ⟨box up, pkt 0x59470000, by decide +kernel⟩,
   ⟨box { up with rcv := { pwrcyc := true } }, pkt 0x59470000, by decide +kernel⟩,
   ⟨box up, pkt (2 ^ 17 - 1) [2 ^ 32 - 1, 7], by decide +kernel⟩,
   ⟨box (put up [(F.DMD_CNT_COUNT 7, 4), (F.PL_CNT_COUNT 7, 5), (F.REC_CNT_COUNT 7, 5), (F.UTIL_CNT_COUNT 6, 4),
     (F.ERR_CNT_COUNT 7, 3)]), pkt 0, by decide +kernel⟩,
   ⟨box (put up [(F.DMD_CNT_COUNT 7, 4), (F.PL_CNT_COUNT 7, 5), (F.REC_CNT_COUNT 7, 5), (F.UTIL_CNT_COUNT 6, 4),
     (F.ERR_CNT_COUNT 7, 3)]), pkt 3, by decide +kernel⟩,
   ⟨box (put up [(F.TRC_CTL_GONE, 1)]), pkt 255 [4096, 65536], by decide +kernel⟩,
   ⟨box up, pkt 0 [16, 8], by decide +kernel⟩,
   ⟨box { up with recr := { dump := some {} } }, pkt 0 [16, 8], by decide +kernel⟩,
   ⟨box { up with store := { gone := [46, 47, 45, 44, 43] } }, pkt 0 [16, 8], by decide +kernel⟩,
   ⟨box { put up [(F.PL_LAST_APPLIED, 1)] with pl := { lastApplied := 5 } }, pkt 1 [16, 8, 0, 5], _, by decide +kernel,
     by decide +kernel, by decide +kernel, rfl, by decide +kernel⟩,
   ⟨box { put up [(F.PL_LAST_STEP, 5)] with pl := {} }, pkt 1 [16, 8, 0, 65542], _, by decide +kernel,
     by decide +kernel, by decide +kernel, rfl, by decide +kernel⟩,
   ⟨box { put up [(F.PL_LAST_STEP, 5)] with pl := {} }, pkt 1 [16, 8, 7 + 9 * 2 ^ 32, 65541], _, by decide +kernel,
     by decide +kernel, by decide +kernel, rfl, by decide +kernel⟩,
   ⟨box { up with rcv := { lastStep := 3, lastObj := 9, lastCause := 4 } }, pkt 0, by decide +kernel⟩⟩

/-- Every premise of ProbeAndTests is met by some state and operands. -/
theorem test_meets_ProbeAndTests :
    (∃ (s : State) (x : Packet) (n : Nat), s.takes 0x800 x.arg x ∧ n = bits x.arg 0 4 ∧ s.gov.railIdle n = true)
    ∧ (∃ (s : State) (x : Packet) (n : Nat), s.takes 0x800 x.arg x ∧ n = bits x.arg 0 4 ∧ s.gov.railIdle n = false ∧
      (mfind s.gov.probes n).isSome = true)
    ∧ (∃ (s : State) (x : Packet) (n : Nat), s.takes 0x800 x.arg x ∧ n = bits x.arg 0 4 ∧ s.gov.railIdle n = false ∧
      mfind s.gov.probes n = none ∧ s.gov.calReady n = true)
    ∧ (∃ (s : State) (x : Packet) (n : Nat), s.takes 0x800 x.arg x ∧ n = bits x.arg 0 4 ∧ s.gov.railIdle n = false ∧
      mfind s.gov.probes n = none ∧ s.gov.calReady n = false)
    ∧ (∃ (s : State) (n : Nat) (w : CalWait), s.gov.live = true ∧ n < s.build.rails ∧ mfind s.gov.calWait n = some w ∧
      s.gov.calReady n = true)
    ∧ (∃ (k : Nat) (c : Packet → Instr) (s : State) (x : Packet) (obj : Nat), (k, c) ∈ [(1, Instr.storeBank), (2,
      Instr.loopDp), (3, Instr.thermDp), (4, Instr.stRing), (5, Instr.sliceAdc), (6, Instr.ftScan)] ∧ s.takes 0x801
      (testArg k x.arg) x ∧ obj = bits x.arg 8 16 ∧ (s.gov.test.run.isSome = true ∨ s.gov.test.pend.isSome = true))
    ∧ (∃ (k : Nat) (c : Packet → Instr) (s : State) (x : Packet) (obj : Nat), (k, c) ∈ [(1, Instr.storeBank), (2,
      Instr.loopDp), (3, Instr.thermDp), (4, Instr.stRing), (5, Instr.sliceAdc), (6, Instr.ftScan)] ∧ s.takes 0x801
      (testArg k x.arg) x ∧ obj = bits x.arg 8 16)
    ∧ (∃ (s : State) (r : TestRun), s.gov.live = true ∧ s.gov.test.pend = some r ∧ s.gov.testMay s.build r.id r.obj =
      true)
    ∧ (∃ (s : State) (r : TestRun), s.build.ok = true ∧ s.gov.live = true ∧ s.gov.quiet ∧ s.gov.test.run = some r ∧
      r.obj < (if r.id = 4 then 8 else 48))
    ∧ (∃ (s : State) (r : TestRun) (i : Nat) (c : Cmd), s.build.ok = true ∧ s.gov.live = true ∧ s.gov.rcv.steps = [] ∧
      s.gov.calWait = [] ∧ s.gov.store.waits = [] ∧ s.gov.probes = [] ∧ s.gov.dm.wait = [] ∧ s.gov.dm.c0rails = [] ∧
      s.gov.test.run = some r ∧ r.cmd = some i ∧ r.id ≠ 1 ∧ s.gov.mb.cmds = [(i, c)] ∧ c.wait = 6 ∧ c.mbx < 16 ∧
      c.mgen = s.gov.rd (F.MBX_STAT_MGEN c.mbx) ∧ c.op = 0x801) :=
  ⟨⟨box up, pkt 15, _, by decide, rfl, by decide⟩,
   ⟨box { put up [(F.RAIL_STAT_MODE 15, mCLOSED)] with probes := [(15, {})] }, pkt 15, _, by decide, rfl, by decide⟩,
   ⟨box { put up [(F.RAIL_STAT_MODE 15, mCLOSED)] with dm := { pkZero := [(15, 64)] } }, pkt 271, _, by decide, rfl, by decide⟩,
   ⟨box { put up [(F.RAIL_STAT_MODE 15, mCLOSED), (F.RAIL_CTL_OPEN 15, 1)] with rails := [] }, pkt 15, _, by decide, rfl, by decide⟩,
   ⟨box { put up [(F.RAIL_STAT_MODE 15, mCLOSED)] with calWait := [(15, { pick := true })], dm := { pkZero := [(15, 64)] }, gtime := 5 }, 15, { pick := true }, by decide⟩,
   ⟨1, Instr.storeBank, box { up with test := { run := some {} } }, pkt (0 * 2 ^ 8), _, by simp, by decide, rfl, by decide⟩,
   ⟨1, Instr.storeBank, box (stg sOFF), pkt (0 * 2 ^ 8), _, by simp, by decide, rfl⟩,
   ⟨box { stg sOFF with test := { pend := some { id := 3 } } }, { id := 3 }, by decide⟩,
   ⟨box { up with test := { run := some { id := 4, obj := 7 } } }, { id := 4, obj := 7 }, by decide⟩,
   ⟨box { up with test := { run := some { id := 4, obj := 7, cmd := some 3 } }, mb := { cmds := [(3, { wait := 6, mbx := 15, op := 0x801 })] } }, { id := 4, obj := 7, cmd := some 3 }, 3, { wait := 6, mbx := 15, op := 0x801 }, by decide⟩⟩

/-- Every premise of RailQuery is met by some state and operands. -/
theorem test_meets_RailQuery :
    (∃ (s : State) (x : Packet) (r : Rail), s.build.ok = true ∧ s.takes 0x201 x.arg x ∧ r = s.gov.rail x.arg ∧ r.count ≠
      0 ∧ r.count ≤ 24 ∧ r.first + r.count ≤ s.build.phases)
    ∧ (∃ (s : State) (x : Packet) (n : Nat), s.build.ok = true ∧ s.takes 0x200 x.arg x ∧ n = x.arg) :=
  ⟨⟨box
     { put up [(F.PH_STAT_CUTS 95, 4), (F.PH_STAT_IMBCNT 95, 2), (F.PH_STAT_IMEAN 90, 7)] with rails := [(15, { first := 90, count := 6 })] },
     pkt 15, _, by decide +kernel, by decide +kernel, rfl, by decide +kernel⟩,
   ⟨box (put up [(F.RAIL_MEAS_MISS 15, 4), (F.RAIL_MEAS_HOLDS 15, 2)]), pkt 15, _, by decide +kernel, by decide +kernel,
     rfl⟩⟩

/-- Every premise of QueryReplies is met by some state and operands. -/
theorem test_meets_QueryReplies :
    (∃ (s : State) (x : Packet), s.takes 0x330 x.arg x)
    ∧ (∃ (s : State) (x : Packet), s.takes 0x402 x.arg x ∧ mfind s.gov.th.nodes x.arg = none)
    ∧ (∃ (s : State) (x : Packet) (y : ThNode), s.takes 0x402 x.arg x ∧ mfind s.gov.th.nodes x.arg = some y)
    ∧ (∃ (s : State) (x : Packet), s.takes 0x410 x.arg x)
    ∧ (∃ (s : State) (x : Packet), s.takes 0x331 x.arg x)
    ∧ (∃ (s : State) (x : Packet), s.takes 0x403 x.arg x)
    ∧ (∃ (s : State) (x : Packet) (r : Option RingRec), s.takes 0x701 x.arg x ∧ r = (if x.params = [] then
      s.gov.newestRecord else s.gov.recordOf (x.params.getD 0 0)) ∧ r = none)
    ∧ (∃ (s : State) (x : Packet) (r : Option RingRec) (y : RingRec), s.takes 0x701 x.arg x ∧ r = (if x.params = [] then
      s.gov.newestRecord else s.gov.recordOf (x.params.getD 0 0)) ∧ r = some y) :=
  ⟨⟨box { up with dm := { grants := [(32767, { st := 2, ctx := 4095, req := 4, slot := 3, dec := sig3 })] } }, pkt
     32767, by decide +kernel⟩,
   ⟨box up, pkt 511, by decide +kernel⟩,
   ⟨box { up with th := { nodes := [(511, { s := 9 })] } }, pkt 511, { s := 9 }, by decide +kernel⟩,
   ⟨box up, pkt 1, by decide +kernel⟩,
   ⟨box (put up [(F.DMD_CNT_COUNT 7, 4)]), pkt 0, by decide +kernel⟩,
   ⟨box (put up [(F.TH_STAT_ANY_WARN, 1)]), pkt 0, by decide +kernel⟩,
   ⟨box up, pkt 0 [0], _, by decide +kernel, rfl, by decide +kernel⟩,
   ⟨box
     { put up [(F.REC_HEAD_NEXT, 1), (F.REC_HEAD_SLOTS, 8)] with recr := { ring := [(0, { valid := true, seq := 0, evt := { code := 4 } })] } },
     pkt 1, _, { valid := true, seq := 0, evt := { code := 4 } }, by decide +kernel, rfl, by decide +kernel⟩⟩

/-- Every premise of ReadOnlyMailbox is met by some state and operands. -/
theorem test_meets_ReadOnlyMailbox :
    (∃ (c : Instr) (op : Nat) (arg : Nat) (x : Packet) (s : State), c.packet = some (op, arg, x) ∧ s.gov.live = true ∧
      s.gov.quiet ∧ x.wf = true ∧ s.gov.takeable x.mbx (packetPkt x op arg s.gov) = true ∧ sDISCOVER ≤ s.gov.stage ∧
      s.gov.rd (F.MBX_CTL_RONLY x.mbx) = 1 ∧ (¬ (op = 0x000 ∨ op = 0x001 ∨ op = 0x002 ∨ 0x700 ≤ op ∧ op ≤ 0x7FF)))
    ∧ (∃ (c : Instr) (op : Nat) (arg : Nat) (x : Packet) (s : State), c.packet = some (op, arg, x) ∧ s.gov.live = true ∧
      s.gov.quiet ∧ x.wf = true ∧ s.gov.takeable x.mbx (packetPkt x op arg s.gov) = true ∧ sDISCOVER ≤ s.gov.stage ∧
      s.gov.rd (F.MBX_CTL_RONLY x.mbx) = 1 ∧ (op = 0x000 ∨ op = 0x001 ∨ op = 0x002 ∨ 0x700 ≤ op ∧ op ≤ 0x7FF)) :=
  ⟨⟨.regRead (pkt 8), 0x008, 8, pkt 8, box (put (stg sDISCOVER) [(F.MBX_CTL_RONLY 15, 1)]), by decide⟩,
   ⟨.nop (pkt 0), 0, 0, pkt 0, box (put (stg sDISCOVER) [(F.MBX_CTL_RONLY 15, 1)]), by decide⟩⟩

/-- Every premise of StoreWindow is met by some state and operands. -/
theorem test_meets_StoreWindow :
    (∃ (s : State), s.gov.live = true)
    ∧ (∃ (s : State) (port : Nat) (off : Nat) (o : Nat), s.memOk ∧ s.gov.windowTaken off = true ∧ o = s.gov.winOff port
      (off / 8 * 8))
    ∧ (∃ (s : State) (off : Nat), s.gov.windowTaken off = true)
    ∧ (∃ (s : State) (port : Nat) (off : Nat) (rot : Nat) (o : Nat), s.gov.windowTaken off = true ∧ o = s.gov.winOff
      port (off / 8 * 8) ∧ s.gov.storeTakes o = true ∧ rot % 8 = 0)
    ∧ (∃ (s : State) (port : Nat) (off : Nat) (rot : Nat) (o : Nat), s.memOk ∧ s.gov.windowTaken off = true ∧ o =
      s.gov.winOff port (off / 8 * 8) ∧ s.gov.storeTakes o = true ∧ rot % 8 = 0) :=
  ⟨⟨box up, by decide⟩,
   ⟨box { up with io := { page := [(2, 11)] } }, 2, 0x40000, _, by decide, by decide, rfl⟩,
   ⟨{ box { up with io := { page := [(2, 11)] } } with mem := [(0x880000, 3), (0x880004, 7), (0xAB0001, 9)] }, 0x80000,
     by decide⟩,
   ⟨{ box { up with io := { page := [(2, 11), (3, 11)] } } with mem := [(0x880000, 3), (0x880004, 7), (0xBFFFF8, 9)] },
     2, 0x80000, 0, _, by decide, rfl, by decide⟩,
   ⟨{ box { up with io := { page := [(2, 11), (3, 11)] } } with mem := [(0x880000, 3), (0x880004, 7), (0xBFFFF8, 9)] },
     2, 0x80000, 0, _, by decide, by decide, rfl, by decide⟩⟩

/-- Every premise of ReadsThatClear is met by some state and operands. -/
theorem test_meets_ReadsThatClear :
    (∃ (n : Nat) (base : Nat) (c : Nat → Nat → Bool → Bool → Instr) (s : State) (i : Nat) (wide : Bool) (high : Bool) (o
      : Nat), (n, base, 8, c) ∈ [(16, 0x4580, 8, Instr.railMeasRead), (96, 0x8000, 8, Instr.phStatRead), (9, 0xE380, 8,
      Instr.hrLstatRead)] ∧ s.gov.live = true ∧ i < n ∧ o = base + 8 * i + (if wide = false ∧ high = true then 4 else
      0))
    ∧ (∃ (base : Nat) (c : Nat → Bool → Bool → Instr) (s : State) (wide : Bool) (high : Bool) (o : Nat), (base, c) ∈
      [(0x10030, Instr.plTdRead), (0x14050, Instr.storeEccRead), (0x2028, Instr.mirCtlRead)] ∧ s.gov.live = true ∧ o =
      base + (if wide = false ∧ high = true then 4 else 0))
    ∧ (∃ (s : State) (n : Nat) (wide : Bool) (high : Bool) (o : Nat), s.gov.live = true ∧ n < 16 ∧ o = 0x1010 + 64 * n +
      (if wide = false ∧ high = true then 4 else 0)) :=
  ⟨⟨16, 0x4580, Instr.railMeasRead, box (put up [(F.RAIL_MEAS_MISS 3, 3), (F.RAIL_MEAS_HOLDS 3, 3), (F.PH_STAT_CUTS 3,
     5), (F.HR_LSTAT_LOSS 3, 2), (F.HR_LSTAT_SKIP 3, 2)]), 3, true, false, _, by simp, by decide, by decide, rfl⟩,
   ⟨0x10030, Instr.plTdRead, box (put up [(F.MIR_CTL_SKIP, 3), (F.STORE_ECC_CE, 4), (F.STORE_ECC_LAST_BANK, 4)]), true,
     false, _, by simp, by decide, rfl⟩,
   ⟨box (put up [(F.MBX_STAT_NDROP 15, 3)]), 15, true, false, _, by decide, by decide, rfl⟩⟩

/-- Every premise of RegisterWrites is met by some state and operands. -/
theorem test_meets_RegisterWrites :
    (∃ (s : State) (off : Nat) (w : Nat) (o : Nat) (d : Nat) (wide : Bool), s.gov.live = true ∧ s.gov.quiet ∧
      s.gov.noStage ∧ o ∈ offsets 0x4800 8 16 ++ offsets 0x4880 8 16 ++ offsets 0x16440 8 8 ++ [0x2010, 0x2020,
      0x10000, 0x10008, 0x10020, 0x12010, 0x12110, 0x12200, 0x14000, 0x14008, 0x14010, 0x14040, 0x16500, 0x16508] ∧
      (off = o ∨ off = o + 4 ∧ wide = false) ∧ w < (if wide then 2 ^ 64 else 2 ^ 32) ∧ d = (if off = o then w else w *
      2 ^ 32))
    ∧ (∃ (s : State) (off : Nat) (w : Nat) (o : Nat) (d : Nat) (wide : Bool), s.gov.live = true ∧ s.gov.quiet ∧
      s.gov.noStage ∧ o ∈ offsets 0x4800 8 16 ++ offsets 0x4880 8 16 ++ offsets 0x16440 8 8 ++ [0x2010, 0x2020,
      0x10000, 0x10008, 0x10020, 0x12010, 0x12110, 0x12200, 0x14000, 0x14008, 0x14010, 0x14040, 0x16500, 0x16508] ∧
      (off = o ∨ off = o + 4 ∧ wide = false) ∧ w < (if wide then 2 ^ 64 else 2 ^ 32) ∧ d = (if off = o then w else w *
      2 ^ 32))
    ∧ (∃ (s : State) (off : Nat) (w : Nat) (wide : Bool), s.gov.live = true ∧ s.gov.quiet ∧ s.gov.cfg.copyAt = none ∧
      (off = 0x2010 ∨ off = 0x2014 ∧ wide = false) ∧ w < 2 ^ 64 ∧ s.gov.rd F.CFG_STAT_STATE = 0 ∧ s.gov.committing =
      false)
    ∧ (∃ (s : State) (port : Nat) (off : Nat) (w : Nat) (wide : Bool), s.gov.live = true ∧ s.gov.quiet ∧
      s.gov.cfg.copyAt = none ∧ (off = 0x2010 ∨ off = 0x2014 ∧ wide = false) ∧ w < 2 ^ 64 ∧ s.gov.rd F.CFG_STAT_STATE
      = 1 ∧ s.gov.committing = false ∧ s.gov.rd F.CFG_STAT_OWNER = port)
    ∧ (∃ (s : State) (port : Nat) (off : Nat) (w : Nat) (wide : Bool), s.gov.live = true ∧ s.gov.quiet ∧
      s.gov.cfg.copyAt = none ∧ (off = 0x2010 ∨ off = 0x2014 ∧ wide = false) ∧ w < 2 ^ 64 ∧ s.gov.rd F.CFG_STAT_STATE
      = 1 ∧ s.gov.committing = false ∧ s.gov.rd F.CFG_STAT_OWNER ≠ port)
    ∧ (∃ (s : State) (off : Nat) (w : Nat) (wide : Bool), s.gov.live = true ∧ s.gov.quiet ∧ s.gov.cfg.copyAt = none ∧
      (off = 0x2010 ∨ off = 0x2014 ∧ wide = false) ∧ w < 2 ^ 64 ∧ s.gov.committing = true)
    ∧ (∃ (s : State) (w : Nat), s.gov.live = true ∧ s.gov.quiet ∧ w < 2 ^ 64) :=
  ⟨⟨box up, 0x16444, 2 ^ 32 - 1, 0x16440, (2 ^ 32 - 1) * 2 ^ 32, false, by decide⟩,
   ⟨box up, 0x2010, 2 ^ 64 - 1, 0x2010, 2 ^ 64 - 1, true, by decide⟩,
   ⟨box up, 0x2010, 2 ^ 64 - 1, true, by decide⟩,
   ⟨box (put up [(F.CFG_STAT_STATE, 1), (F.CFG_STAT_OWNER, 5)]), 5, 0x2010, 2 ^ 64 - 1, true, by decide⟩,
   ⟨box (put up [(F.CFG_STAT_STATE, 1), (F.CFG_STAT_OWNER, 4)]), 5, 0x2010, 2 ^ 64 - 1, true, by decide⟩,
   ⟨box (put up [(F.CFG_STAT_STATE, 3), (F.CFG_STAT_OWNER, 4)]), 0x2010, 2 ^ 64 - 1, true, by decide⟩,
   ⟨box (put up [(F.CFG_STAT_STATE, 2)]), 2 ^ 64 - 1, by decide⟩⟩

/-- Every premise of RecordsAndHistograms is met by some state and operands. -/
theorem test_meets_RecordsAndHistograms :
    (∃ (s : State) (e : Evt) (r : List Evt) (slot : Nat), s.gov.live = true ∧ s.gov.recr.started = true ∧
      s.gov.recr.queue = e :: r ∧ slot = s.gov.rd F.REC_HEAD_NEXT % s.gov.rd F.REC_HEAD_SLOTS ∧ s.gov.recr.dropped = 0)
    ∧ (∃ (s : State) (e : Evt) (r : List Evt) (slot : Nat), s.gov.live = true ∧ s.gov.recr.started = true ∧
      s.gov.recr.queue = e :: r ∧ slot = s.gov.rd F.REC_HEAD_NEXT % s.gov.rd F.REC_HEAD_SLOTS ∧ s.gov.recr.dropped ≠ 0 ∧
      r.length < 256)
    ∧ (∃ (s : State) (e : Evt) (r : List Evt) (slot : Nat), s.gov.live = true ∧ s.gov.recr.started = true ∧
      s.gov.recr.queue = e :: r ∧ slot = s.gov.rd F.REC_HEAD_NEXT % s.gov.rd F.REC_HEAD_SLOTS)
    ∧ (∃ (s : State), s.gov.live = true ∧ s.gov.flag F.HIST_CTL_GONE = false)
    ∧ (∃ (s : State) (e : Nat), s.gov.live = true ∧ e = s.gov.recr.energyAcc + sumTo s.build.rails (fun n => s.gov.rd
      (F.RAIL_MEAS_POUT n)))
    ∧ (∃ (s : State), s.gov.live = true)
    ∧ (∃ (s : State) (h : Nat) (w : Nat), s.gov.live = true ∧ s.gov.noStage ∧ h < 64 ∧ w < 2 ^ 64) :=
  ⟨⟨box
     { put up [(F.REC_HEAD_NEXT, 2 ^ 32 - 1), (F.REC_HEAD_SLOTS, 40000)] with recr := { started := true, queue := [{ code := 4 }, { code := 7 }], dropped := 0 } },
     { code := 4 }, [{ code := 7 }], _, by decide, by decide, by decide, rfl, by decide⟩,
   ⟨box
     { put up [(F.REC_HEAD_NEXT, 2 ^ 32 - 1), (F.REC_HEAD_SLOTS, 40000)] with recr := { started := true, queue := [{ code := 4 }, { code := 7 }], dropped := 5 } },
     { code := 4 }, [{ code := 7 }], _, by decide, by decide, by decide, rfl, by decide⟩,
   ⟨box
     { put up [(F.REC_HEAD_NEXT, 7), (F.REC_HEAD_SLOTS, 40000)] with recr := { started := true, queue := [{ code := 4 }] }, store := { gone := [36] } },
     { code := 4 }, [], _, by decide, by decide, by decide, rfl⟩,
   ⟨box
     { up with gtime := 5, recr := { hists := [(0, { since := { total := 3, sum := 9 }, acc := [(4, 3)], buckets := [(4, 1), (5, 2)] }), (63, { clearPend := true, acc := [(1, 1)], since := { total := 1 } })] } },
     by decide⟩,
   ⟨box
     { put up [(F.ST_THR_TLVL 7, 1), (F.RAIL_MEAS_POUT 3, 7000), (F.RAIL_MEAS_POUT 4, 1000)] with gtime := 5, brg := { govReady := true } },
     _, by decide, rfl⟩,
   ⟨box { up with recr := { hists := [(63, { clears := 2 })] } }, by decide⟩,
   ⟨box up, 63, 2 ^ 64 - 1, by decide⟩⟩

/-- Every premise of DrainDumpAndMirror is met by some state and operands. -/
theorem test_meets_DrainDumpAndMirror :
    (∃ (s : State) (k : Nat), s.gov.live = true ∧ s.gov.recr.draining = none ∧ s.gov.ringRoom = true ∧ s.gov.flag
      F.DMA_STAT_TRACE_ERR = false ∧ s.gov.drainNext = some k)
    ∧ (∃ (s : State) (k : Nat), s.gov.live = true ∧ s.gov.recr.draining = some k ∧ s.gov.recr.ringNew = none)
    ∧ (∃ (s : State) (w : Nat) (n : Nat), s.gov.live = true ∧ n = (s.gov.rd F.TRC_PROD_PROD + 2 ^ 32 - w % 2 ^ 32) % 2
      ^ 32 ∧ n ≤ s.gov.recr.ringCur.2 / 32)
    ∧ (∃ (s : State) (w : Nat) (n : Nat), s.gov.live = true ∧ n = (s.gov.rd F.TRC_PROD_PROD + 2 ^ 32 - w % 2 ^ 32) % 2
      ^ 32 ∧ s.gov.recr.ringCur.2 / 32 < n)
    ∧ (∃ (s : State) (w : Nat) (size : Bool) (r : Nat × Nat), s.gov.live = true ∧ r = (if size then (s.gov.rd
      F.TRC_RING_ADDR, w % 2 ^ 32) else (w % 2 ^ 56, s.gov.rd F.TRC_SIZE_SIZE)) ∧ s.gov.recr.draining = none)
    ∧ (∃ (s : State) (w : Nat) (size : Bool) (r : Nat × Nat), s.gov.live = true ∧ r = (if size then (s.gov.rd
      F.TRC_RING_ADDR, w % 2 ^ 32) else (w % 2 ^ 56, s.gov.rd F.TRC_SIZE_SIZE)) ∧ s.gov.recr.draining ≠ none)
    ∧ (∃ (s : State) (d : Dump), s.gov.live = true ∧ s.gov.recr.dump = some d ∧ s.gov.flag F.DMA_STAT_DUMP_ERR = false
      ∧ s.gov.recr.seqWait = none ∧ s.gov.recr.dumpTrig = none)
    ∧ (∃ (s : State), s.gov.live = true)
    ∧ (∃ (s : State), s.gov.live = true ∧ s.gov.mir.wait = none ∧ s.gov.flag F.MIR_CTL_EN = false)
    ∧ (∃ (s : State), s.gov.live = true ∧ s.gov.mir.wait = none ∧ s.gov.flag F.MIR_CTL_EN = true ∧ s.gov.flag
      F.DMA_STAT_MIR_ERR = true)
    ∧ (∃ (s : State), s.gov.live = true ∧ s.gov.mir.wait = none ∧ s.gov.flag F.MIR_CTL_EN = true ∧ s.gov.flag
      F.DMA_STAT_MIR_ERR = false ∧ s.gov.mir.snap = none)
    ∧ (∃ (s : State) (ws : List Nat), s.gov.mir.snap = some ws ∧ s.gov.mir.wait = none)
    ∧ (∃ (s : State) (f : Nat) (id : Nat) (n : Nat) (x : DmaTx) (q : DmaReq), f < 4 ∧ mfind (dmaResponds f n s.gov).dma
      f = some x ∧ x.out.find? (fun q => q.id == id) = some q ∧ (f = 3 → s.gov.pl.revoked = []))
    ∧ (∃ (s : State) (f : Nat) (n : Nat), mfind (dmaResponds f n s.gov).dma f = none)
    ∧ (∃ (s : State) (w : Nat) (p : PStep), s.gov.live = true ∧ w < 2 ^ 64 ∧ bit w 3 = true ∧ s.gov.pl.pend = some p ∧
      s.gov.pl.cur = none ∧ s.gov.flag F.PL_STAT_FETCH_ERR = false ∧ s.gov.flag F.PL_STAT_REPLY_ERR = false)
    ∧ (∃ (s : State) (w : Nat), s.gov.live = true ∧ w < 2 ^ 64) :=
  ⟨⟨box { put up [(F.TRC_PROD_PROD, 5), (F.TRC_STAT_NORING, 0)] with recr := { ringCur := (4096, 65536), tbufs := [(3, { held := 2, pos := 2, img := [(0, { kind := 1, tseq := 4 }), (1, { kind := 2 })] })] } }, 3, by decide⟩,
   ⟨box { put up [(F.TRC_PROD_PROD, 2 ^ 32 - 1)] with recr := { ringCur := (4096, 65536), draining := some 3, tbufs := [(3, { held := 2, pos := 2, img := [(0, { kind := 1, tseq := 4 }), (1, { kind := 2 })] })] }, dma := [(0, { addr := 4096 })] }, 3, by decide⟩,
   ⟨box { put up [(F.TRC_PROD_PROD, 5)] with recr := { ringCur := (4096, 65536) } }, 2 ^ 32 + 5, _, by decide, rfl, by decide⟩,
   ⟨box { put up [(F.TRC_PROD_PROD, 5)] with recr := { ringCur := (4096, 65536) } }, 6, _, by decide, rfl, by decide⟩,
   ⟨box { put up [(F.TRC_PROD_PROD, 5), (F.TRC_RING_ADDR, 8192), (F.TRC_SIZE_SIZE, 65536)] with recr := { ringCur := (8192, 65536), draining := none, tbufs := [(3, { held := 2, pos := 2, img := [(0, { kind := 1, tseq := 4 }), (1, { kind := 2 })] })] } }, 65536, true, _, by decide, rfl, by decide⟩,
   ⟨box { put up [(F.TRC_PROD_PROD, 5), (F.TRC_RING_ADDR, 8192), (F.TRC_SIZE_SIZE, 65536)] with recr := { ringCur := (8192, 65536), draining := some 3, tbufs := [(3, { held := 2, pos := 2, img := [(0, { kind := 1, tseq := 4 }), (1, { kind := 2 })] })] } }, 65536, true, _, by decide, rfl, by decide⟩,
   ⟨box { put up [(F.DUMP_STAT_BUSY, 1)] with recr := { dump := some { kind := 0, len := 4096 } }, dma := [(1, {})] }, { kind := 0, len := 4096 }, by decide⟩,
   ⟨box { put up [(F.DUMP_STAT_HOLD, 1)] with recr := { dumpHold := [4] } }, by decide⟩,
   ⟨box { put up [(F.MIR_CTL_EN, 0), (F.DMA_STAT_MIR_ERR, 0), (F.MIR_CTL_SKIP, 65535), (F.MIR_CTL_MSEQ, 2 ^ 32 - 1), (F.MIR_ADDR_ADDR, 5)] with gtime := 3 }, by decide⟩,
   ⟨box { put up [(F.MIR_CTL_EN, 1), (F.DMA_STAT_MIR_ERR, 1), (F.MIR_CTL_SKIP, 65535), (F.MIR_CTL_MSEQ, 2 ^ 32 - 1), (F.MIR_ADDR_ADDR, 5)] with gtime := 3 }, by decide⟩,
   ⟨box { put up [(F.MIR_CTL_EN, 1), (F.DMA_STAT_MIR_ERR, 0), (F.MIR_CTL_SKIP, 65535), (F.MIR_CTL_MSEQ, 2 ^ 32 - 1), (F.MIR_ADDR_ADDR, 5)] with gtime := 3 }, by decide⟩,
   ⟨box { put up [(F.MIR_CTL_MSEQ, 2 ^ 32 - 1)] with mir := { snap := some [0] }, dma := [(2, {})] }, [0], by decide⟩,
   ⟨box { up with dma := [(0, { out := [{ id := 31, off := 64 }] })], recr := { draining := some 3, dump := some {} }, mir := { snap := some [1] }, pl := { cur := some {} } },
     0, 31, 0, { out := [{ id := 31, off := 64 }] }, { id := 31, off := 64 }, by decide⟩,
   ⟨box up, 3, 0, by decide⟩,
   ⟨box { put up [(F.DMA_STAT_PL_ERR, 1), (F.DMA_STAT_MIR_ERR, 1)] with pl := { pend := some { addr := 8 } } }, 2 ^ 63 + 15, { addr := 8 }, by decide⟩,
   ⟨box (put up [(F.DMA_STAT_PL_ERR, 1), (F.DMA_STAT_MIR_ERR, 1)]), 4, by decide⟩⟩

/-- Every premise of DetectionsAndBanks is met by some state and operands. -/
theorem test_meets_DetectionsAndBanks :
    (∃ (s : State) (h : Nat) (x : Grant), s.build.ok = true ∧ s.gov.live = true ∧ s.gov.quiet ∧ h = s.gov.rcv.scan %
      32768 ∧ x = s.gov.grant h ∧ s.gov.overdue s.build h = true ∧ s.gov.flag F.DW_CTL_AUTO = true)
    ∧ (∃ (s : State) (h : Nat) (x : Grant), s.build.ok = true ∧ s.gov.live = true ∧ s.gov.quiet ∧ h = s.gov.rcv.scan %
      32768 ∧ x = s.gov.grant h ∧ s.gov.overdue s.build h = true ∧ s.gov.flag F.DW_CTL_AUTO = false ∧
      s.gov.rcv.blocked.contains (1, x.ctx) = false)
    ∧ (∃ (s : State) (h : Nat) (x : Grant), s.build.ok = true ∧ s.gov.live = true ∧ s.gov.quiet ∧ h = s.gov.rcv.scan %
      32768 ∧ x = s.gov.grant h ∧ s.gov.overdue s.build h = false)
    ∧ (∃ (s : State) (c : Nat) (y : RStep), s.build.ok = true ∧ s.gov.live = true ∧ s.gov.under y ∧ y.step = 0 ∧ y.obj
      = c ∧ y.toDone = false ∧ (s.gov.ctx c).st = 2 ∧ (s.gov.ctx c).ended = false ∧ y.ctxs.contains (c, (s.gov.ctx
      c).cgen) = true ∧ s.gov.flag F.DW_CTL_AUTO = true ∧ 1 ≤ s.gov.rd F.DW_CTL_MAXSTEP ∧ s.gov.rd F.DW_CTL_ENG_MAX =
      0)
    ∧ (∃ (s : State) (q : Nat) (y : RStep), s.build.ok = true ∧ s.gov.live = true ∧ s.gov.under y ∧ y.step = 2 ∧ y.obj
      = q ∧ y.toDone = false ∧ s.gov.flag F.DW_CTL_AUTO = true ∧ 3 ≤ s.gov.rd F.DW_CTL_MAXSTEP)
    ∧ (∃ (s : State) (q : Nat) (y : RStep), s.build.ok = true ∧ s.gov.live = true ∧ s.gov.under y ∧ y.step = 2 ∧ y.obj
      = q ∧ y.toDone = false ∧ s.gov.flag F.DW_CTL_AUTO = false ∧ s.gov.rcv.blocked.contains (6, 3 * 4096) = false)
    ∧ (∃ (s : State) (y : RStep), s.build.ok = true ∧ s.gov.live = true ∧ s.gov.under y ∧ y.step = 3 ∧ y.obj = 0 ∧
      y.toDone = false ∧ s.gov.flag F.DW_CTL_AUTO = true ∧ 4 ≤ s.gov.rd F.DW_CTL_MAXSTEP ∧ s.gov.rcv.pwrcyc = false)
    ∧ (∃ (s : State) (f : Nat) (x : DmaTx) (q : DmaReq), s.build.ok = true ∧ s.gov.live = true ∧ s.gov.quiet ∧ mfind
      s.gov.dma f = some x ∧ x.out.find? (fun r => !r.late) = some q ∧ s.gov.rd F.DW_TO_DMA_TO ≠ 0 ∧ s.gov.flag
      F.DW_CTL_AUTO = true ∧ 3 ≤ s.gov.rd F.DW_CTL_MAXSTEP)
    ∧ (∃ (s : State) (f : Nat) (x : DmaTx) (q : DmaReq), s.build.ok = true ∧ s.gov.live = true ∧ s.gov.quiet ∧ mfind
      s.gov.dma f = some x ∧ x.out.find? (fun r => !r.late) = some q ∧ s.gov.rd F.DW_TO_DMA_TO ≠ 0 ∧ s.gov.flag
      F.DW_CTL_AUTO = false ∧ s.gov.rcv.blocked.contains (5, 3 * 4096) = false)
    ∧ (∃ (s : State) (w : Nat), s.build.ok = true ∧ s.gov.live = true ∧ s.gov.quiet ∧ w < 2 ^ 64 ∧ bit w 16 = true ∧
      s.gov.rd F.RCV_HOLD_CHIP ≤ 1)
    ∧ (∃ (s : State) (w : Nat), s.build.ok = true ∧ s.gov.live = true ∧ s.gov.quiet ∧ w < 2 ^ 64 ∧ bit w 16 = false)
    ∧ (∃ (s : State), s.gov.live = true ∧ s.gov.quiet)
    ∧ (∃ (s : State) (off : Nat) (k : Nat) (n : Nat), s.build.ok = true ∧ s.gov.live = true ∧ s.gov.quiet ∧ k = off /
      0x40000 ∧ k < 48 ∧ s.gov.dark k = false ∧ n = ((mget [] s.gov.store.ce (s.gov.phys k)).filter (fun u => decide
      (s.gov.gtime ≤ u + 1000000000))).length + 1 ∧ s.gov.store.copying = none ∧ s.gov.phys k < 48 ∧ s.gov.rd
      F.STORE_ECC_CE_MAX ≠ 0 ∧ s.gov.rd F.STORE_ECC_CE_MAX ≤ n)
    ∧ (∃ (s : State) (off : Nat) (k : Nat), s.build.ok = true ∧ s.gov.live = true ∧ s.gov.quiet ∧ k = off / 0x40000 ∧ k
      < 48 ∧ s.gov.dark k = false)
    ∧ (∃ (s : State) (k : Nat) (h : Nat), s.gov.live = true ∧ s.gov.quiet ∧ s.gov.store.copying = some (k, h) ∧ k < 48
      ∧ h < 48 ∧ k ≠ h ∧ s.gov.store.queue = [])
    ∧ (∃ (s : State) (lost : List Nat) (k : Nat) (h : Nat), s.gov.live = true ∧ s.gov.quiet ∧ s.gov.store.copying =
      some (k, h) ∧ k < 48 ∧ h < 48 ∧ k ≠ h ∧ s.gov.store.queue = [] ∧ lost = [] ∧ k ≠ 34 ∧ k ≠ 42) :=
  ⟨⟨box { put up [(F.RAIL_STAT_MODE 0, mCLOSED), (F.DW_CTL_AUTO, 1), (F.DW_CTL_MAXSTEP, 1), (F.DW_GTO_GTO1, 1)] with dm := { grants := [(5, { st := 2, ctx := 7, req := 4, slot := 3, dec := sig3, cls := 1, grantAt := 0, gslot := 0 })], ctxs := [(7, { st := 1 })], reqCnt := [(4, 1)], isOpen := true, slot := 40000 }, rcv := { scan := 5 }, gtime := 10 ^ 9 }, _, _, by decide, by decide, by decide, rfl, rfl, by decide⟩,
   ⟨box { put up [(F.RAIL_STAT_MODE 0, mCLOSED), (F.DW_CTL_AUTO, 0), (F.DW_CTL_MAXSTEP, 4), (F.DW_GTO_GTO1, 1)] with dm := { grants := [(5, { st := 2, ctx := 7, req := 4, slot := 3, dec := sig3, cls := 1, grantAt := 0, gslot := 0 })], ctxs := [(7, { st := 1 })], reqCnt := [(4, 1)], isOpen := true, slot := 40000 }, rcv := { scan := 5 }, gtime := 10 ^ 9 }, _, _, by decide, by decide, by decide, rfl, rfl, by decide⟩,
   ⟨box { up with rcv := { scan := 32767 } }, _, _, by decide, by decide, by decide, rfl, rfl, by decide⟩,
   ⟨box { put up [(F.RAIL_STAT_MODE 0, mCLOSED), (F.DW_CTL_AUTO, 1), (F.DW_CTL_MAXSTEP, 1), (F.DW_CTL_ENG_MAX, 0)] with dm := { grants := [(5, { st := 2, ctx := 4095, cgen := 3, req := 4, slot := 3, dec := sig3 })], ctxs := [(4095, { st := 2, cgen := 3 })], reqCnt := [(4, 1)], isOpen := true }, rcv := { steps := [{ step := 0, obj := 4095, cause := 1, start := 2, ctxs := [(4095, 3)] }] } }, 4095, { step := 0, obj := 4095, cause := 1, start := 2, ctxs := [(4095, 3)] }, by decide⟩,
   ⟨box { put up [(F.RAIL_STAT_MODE 0, mCLOSED), (F.DW_CTL_AUTO, 1), (F.DW_CTL_MAXSTEP, 3)] with dm := { grants := [(5, { st := 2, ctx := 4095, cgen := 3, req := 4, slot := 3, dec := sig3 })], ctxs := [(4095, { st := 2, cgen := 3 })], reqCnt := [(4, 1)], isOpen := true }, rcv := { steps := [{ step := 2, obj := 15, cause := 1, start := 2, ctxs := [(4095, 3)] }] } }, 15, { step := 2, obj := 15, cause := 1, start := 2, ctxs := [(4095, 3)] }, by decide⟩,
   ⟨box { put up [(F.RAIL_STAT_MODE 0, mCLOSED), (F.DW_CTL_AUTO, 0), (F.DW_CTL_MAXSTEP, 3)] with dm := { grants := [(5, { st := 2, ctx := 4095, cgen := 3, req := 4, slot := 3, dec := sig3 })], ctxs := [(4095, { st := 2, cgen := 3 })], reqCnt := [(4, 1)], isOpen := true }, rcv := { steps := [{ step := 2, obj := 15, cause := 1, start := 2, ctxs := [(4095, 3)] }] } }, 15, { step := 2, obj := 15, cause := 1, start := 2, ctxs := [(4095, 3)] }, by decide⟩,
   ⟨box { put up [(F.RAIL_STAT_MODE 0, mCLOSED), (F.DW_CTL_AUTO, 1), (F.DW_CTL_MAXSTEP, 4)] with dm := { grants := [(5, { st := 2, ctx := 4095, cgen := 3, req := 4, slot := 3, dec := sig3 })], ctxs := [(4095, { st := 2, cgen := 3 })], reqCnt := [(4, 1)], isOpen := true }, rcv := { steps := [{ step := 3, obj := 0, cause := 1, start := 2, ctxs := [(4095, 3)] }] } }, { step := 3, obj := 0, cause := 1, start := 2, ctxs := [(4095, 3)] }, by decide⟩,
   ⟨box { put up [(F.DW_TO_DMA_TO, 1), (F.DW_CTL_AUTO, 1), (F.DW_CTL_MAXSTEP, 3)] with dma := [(3, { out := [{ t := 3, late := true }, { id := 1, t := 4 }] })] }, 3, { out := [{ t := 3, late := true }, { id := 1, t := 4 }] }, { id := 1, t := 4 }, by decide⟩,
   ⟨box { put up [(F.DW_TO_DMA_TO, 1), (F.DW_CTL_AUTO, 0), (F.DW_CTL_MAXSTEP, 3)] with dma := [(3, { out := [{ t := 4 }] })] }, 3, { out := [{ t := 4 }] }, { t := 4 }, by decide⟩,
   ⟨box (put up [(F.RCV_HOLD_PART, 0xC001), (F.RCV_HOLD_CHIP, 1)]), 0x1FFFF, by decide⟩,
   ⟨box (put up [(F.RCV_HOLD_PART, 0xC001), (F.RCV_HOLD_CHIP, 1)]), 0x8001, by decide⟩,
   ⟨box { put up [(F.DW_STAT_BLOCKED, 1)] with rcv := { blocked := [(1, 2)] } }, by decide⟩,
   ⟨box (put up [(F.STORE_ECC_CE, 2 ^ 24 - 1), (F.STORE_ECC_CE_MAX, 1)]), 0xBFFFF8, _, 1, by decide, by decide, by decide, rfl, by decide⟩,
   ⟨box (put up [(F.STORE_ECC_CE, 3), (F.STORE_ECC_CE_MAX, 2)]), 8, _, by decide, by decide, by decide, rfl, by decide⟩,
   ⟨box { put up [(F.STORE_MAP_COPY 34, 1)] with store := { copying := some (34, 45) } }, 34, 45, by decide⟩,
   ⟨box { put up [(F.STORE_MAP_COPY 0, 1)] with store := { copying := some (0, 47) } }, [], 0, 47, by decide⟩⟩

/-- Every premise of SmbusTarget is met by some state and operands. -/
theorem test_meets_SmbusTarget :
    (∃ (n : Nat) (val : State → Nat) (c : Instr) (s : State), (n, val, c) ∈ [(1, fun _ => 0xD0, Instr.capability),
      (1, fun _ => 0x14, Instr.voutMode), (1, fun s => s.gov.statusWord % 256, Instr.statusByte), (2, fun s =>
      s.gov.statusWord, Instr.statusWord), (1, fun s => mget 0 s.gov.io.smb.vout s.gov.io.smb.page, Instr.statusVout),
      (1, fun s => mget 0 s.gov.io.smb.iout s.gov.io.smb.page, Instr.statusIout), (1, fun s => s.gov.io.smb.input,
      Instr.statusInput), (1, fun s => s.gov.io.smb.temp, Instr.statusTemperature), (1, fun s => s.gov.io.smb.cml,
      Instr.statusCml), (2, fun s => linear11 (s.gov.rd F.VIN_PROT_VIN * 8 : Nat) 1000, Instr.readVin), (2, fun s =>
      (rndUp (s.gov.rd (F.RAIL_MEAS_VS s.gov.io.smb.page) * 256) 125).toNat, Instr.readVout), (2, fun s => linear11
      (s.gov.rd (F.RAIL_MEAS_ISUM s.gov.io.smb.page) : Nat) 16, Instr.readIout), (2, fun s => linear11 (sx 16
      (s.gov.rd F.TH_STAT_HOT_T)) 128, Instr.readTemperature1), (2, fun s => linear11 (sx 16 (s.gov.rd
      F.TH_STAT_HOT_D)) 128, Instr.readTemperature2), (2, fun s => linear11 (s.gov.rd (F.RAIL_MEAS_POUT
      s.gov.io.smb.page) : Nat) 8, Instr.readPout), (1, fun _ => 0x44, Instr.pmbusRevision)])
    ∧ (∃ (val : State → List Nat) (c : Instr) (s : State), (val, c) ∈ [(fun _ => [0x44, 0x56, 0x4F, 0x52, 0x45, 0x41],
      Instr.mfrId), (fun _ => [0x59, 0x47, 0x34], Instr.mfrModel), (fun _ => [0x33, 0x2E, 0x32], Instr.mfrRevision),
      (fun s => leBytes 8 (s.gov.regWord s.build 4 0x2000), Instr.mfrGovStatus), (fun s => leBytes 8 (s.gov.regWord
      s.build 4 0x14038), Instr.mfrServiceCause), (fun s => s.gov.identBytes s.build, Instr.mfrIdent), (fun s =>
      s.gov.eventPeek, Instr.mfrEventPeek)])
    ∧ (∃ (s : State) (n : Nat), s.gov.live = true ∧ n < s.build.rails ∧ n < 16)
    ∧ (∃ (s : State) (n : Nat), s.gov.live = true ∧ s.build.rails ≤ n)
    ∧ (∃ (s : State), s.gov.live = true)
    ∧ (∃ (c : Instr) (v : Option Nat) (ws : List Nat) (s : State), c ∈ [Instr.page v true, Instr.clearFaults true,
      Instr.mfrMbxSel v true, Instr.mfrMbxPush ws true] ∧ s.gov.live = true ∧ s.gov.quiet)
    ∧ (∃ (s : State) (code : Nat), s.gov.live = true ∧ code ∉ smbCodes)
    ∧ (∃ (s : State) (n : Nat), s.gov.live = true ∧ n < 16)
    ∧ (∃ (s : State) (n : Nat), s.gov.live = true ∧ 16 ≤ n)
    ∧ (∃ (s : State), s.gov.live = true ∧ s.gov.smbAlert = true)
    ∧ (∃ (s : State), (s.gov.live = false ∨ s.gov.smbAlert = false))
    ∧ (∃ (s : State) (us : Nat), s.gov.live = true ∧ 25000 < us)
    ∧ (∃ (s : State) (n : Nat) (w : Nat), s.gov.live = true ∧ s.gov.quiet ∧ n = s.gov.io.smb.sel ∧ n < 16 ∧ ((∀ m < 16,
      s.gov.head m = none)) ∧ s.gov.flag (F.MBX_CTL_EN n) = true ∧ s.gov.mayUse n 4 = true ∧ (s.gov.mbx n).q = [] ∧
      bits w 14 5 ≠ 0)
    ∧ (∃ (s : State) (ws : List Nat), s.gov.live = true ∧ s.gov.quiet ∧ (ws = [] ∨ 4 < ws.length))
    ∧ (∃ (s : State) (n : Nat) (ws : List Nat), s.gov.live = true ∧ s.gov.quiet ∧ n = s.gov.io.smb.sel ∧ n < 16 ∧ (∀ m
      < 16, s.gov.head m = none) ∧ (s.gov.flag (F.MBX_CTL_EN n) = false ∨ s.gov.mayUse n 4 = false) ∧ 1 ≤ ws.length ∧
      ws.length ≤ 4 ∧ (s.gov.mbx n).used + ws.length ≤ 32)
    ∧ (∃ (s : State) (n : Nat) (ws : List Nat), s.gov.live = true ∧ s.gov.quiet ∧ n = s.gov.io.smb.sel ∧ n < 16 ∧ 1 ≤
      ws.length ∧ ws.length ≤ 4 ∧ 32 < (s.gov.mbx n).used + ws.length)
    ∧ (∃ (s : State) (n : Nat) (k : Nat), s.gov.live = true ∧ s.gov.quiet ∧ n = s.gov.io.smb.sel ∧ n < 16 ∧ ((∀ m < 16,
      s.gov.head m = none)) ∧ s.gov.mayUse n 4 = true ∧ k = min 4 (s.gov.mbx n).rq.length)
    ∧ (∃ (s : State) (n : Nat), s.gov.live = true ∧ s.gov.quiet ∧ n = s.gov.io.smb.sel ∧ n < 16 ∧ s.gov.mayUse n 4 =
      false) :=
  ⟨⟨1, fun _ => 0xD0, Instr.capability, box { put up [(F.VIN_PROT_VIN, 3000), (F.RAIL_MEAS_VS 3, 1600), (F.RAIL_MEAS_ISUM 3, 999), (F.RAIL_MEAS_POUT 3, 4000), (F.TH_STAT_HOT_T, 0xFF00), (F.TH_STAT_HOT_D, 9000)] with io := { smb := { page := 3, vout := [(3, 16)], iout := [(3, 128)], input := 16, cml := 2 } } }, by simp⟩,
   ⟨fun _ => [0x44, 0x56, 0x4F, 0x52, 0x45, 0x41], Instr.mfrId, box { put up [(F.SVC_CAUSE_CAUSE, 5), (F.REC_HEAD_NEXT, 1), (F.REC_HEAD_SLOTS, 8)] with recr := { ring := [(0, { valid := true, seq := 0, evt := { code := 4 } })] } }, by simp⟩,
   ⟨box up, 15, by decide⟩,
   ⟨box up, 16, by decide⟩,
   ⟨box { up with io := { smb := { page := 15 } } }, by decide⟩,
   ⟨.page none true, none, [], box up, by decide⟩,
   ⟨box up, 0xFF, by decide⟩,
   ⟨box up, 15, by decide⟩,
   ⟨box up, 16, by decide⟩,
   ⟨box { up with io := { smb := { cml := 4 } } }, by decide⟩,
   ⟨box up, by decide⟩,
   ⟨box up, 25001, by decide⟩,
   ⟨box up, _, 2 ^ 14, by decide, by decide, rfl, by decide⟩,
   ⟨box up, List.replicate 5 0, by decide⟩,
   ⟨box (put up [(F.MBX_CTL_OWNER 15, 3)]), _, [0], by decide, by decide, rfl, by decide⟩,
   ⟨box { up with mb := { boxes := [(15, { q := [{ whole := some 4, params := List.replicate 31 0 }] })] } }, _, [0], by decide, by decide, rfl, by decide⟩,
   ⟨box { up with mb := { boxes := [(15, { rq := [1, 2, 3, 4, 5] })] } }, _, _, by decide, by decide, rfl, by decide, by decide, by decide, rfl⟩,
   ⟨box (put up [(F.MBX_CTL_OWNER 15, 3)]), _, by decide, by decide, rfl, by decide⟩⟩

/-- Every premise of TestAccessPort is met by some state and operands. -/
theorem test_meets_TestAccessPort :
    (∃ (s : State), s.gov.aon = true ∧ s.gov.extestMay s.build = false)
    ∧ (∃ (s : State), s.gov.aon = true ∧ s.gov.extestMay s.build = true)
    ∧ (∃ (s : State), s.gov.aon = true)
    ∧ (∃ (s : State) (off : Nat) (o : Nat), s.gov.live = true ∧ s.gov.quiet ∧ ((∀ m < 16, s.gov.head m = none)) ∧ o =
      off % 2 ^ 20 / 8 * 8 ∧ o < 0x40000 ∧ mbxOf o = none ∧ o ≠ 0x2008)
    ∧ (∃ (s : State) (off : Nat), s.gov.live = true ∧ s.gov.quiet ∧ off % 2 ^ 20 / 8 * 8 = 0x2020)
    ∧ (∃ (s : State) (off : Nat), s.gov.live = true ∧ s.gov.quiet ∧ s.gov.stage = sSTORE ∧ 0x40000 ≤ off % 2 ^ 20)
    ∧ (∃ (s : State) (off : Nat) (o : Nat) (collide : Bool), s.memOk ∧ s.gov.live = true ∧ s.gov.quiet ∧ s.gov.stage ≠
      sSTORE ∧ 0x40000 ≤ off % 2 ^ 20 ∧ o = s.gov.winOff 5 (off % 2 ^ 20 / 8 * 8) ∧ s.gov.storeTakes o = true ∧
      s.gov.collides o collide = false) :=
  ⟨⟨box { up with brg := { govReady := true }, io := { tap := { boundary := 7 } } }, by decide⟩,
   ⟨box { up with brg := { govReady := false }, io := { tap := { boundary := 7 } } }, by decide⟩,
   ⟨box {}, by decide⟩,
   ⟨box { put up [(F.RAIL_MEAS_MISS 0, 4)] with io := { tap := { data := 5, status := 1 } } }, 0x4580, _, by decide,
     by decide, by decide, rfl, by decide⟩,
   ⟨box up, 0x2020, by decide⟩,
   ⟨box (stg sSTORE), 0x40000, by decide⟩,
   ⟨{ box { up with io := { page := [(5, 11)] } } with mem := [(0x880000, 3), (0x880004, 7)] }, 0x80000, _, false,
     by decide, by decide, by decide, by decide, by decide, rfl, by decide⟩⟩

/-- Every premise of StepRunsTheFront is met by some state and operands. -/
theorem test_meets_StepRunsTheFront :
    (∃ (s : State), s.pending = []) :=
  ⟨{ box up with mem := [(0, 1)] }, by decide⟩

/-- Premises of the frames of each family of rows, of the refusals and of the queries. -/
theorem test_meets_BootAndRingFrames :
    (∃ (c : Instr) (ps : List Part) (rs : List (Nat × Nat)) (s t : State),
      c.bootChanges = some (ps, rs) ∧ c.wf = true ∧ s.build.ok = true ∧ exec c s = .next t)
    ∧ (∃ (c : Instr) (ps : List Part) (rs : List (Nat × Nat)) (s t : State),
      c.ringChanges = some (ps, rs) ∧ c.wf = true ∧ s.build.ok = true ∧ exec c s = .next t) :=
  ⟨⟨.fuseVldTimeout, _, _, box { porst := false }, _, rfl, by decide, by decide, rfl⟩,
   ⟨.tileClockEdge 3, _, _, box up, _, rfl, by decide, by decide, rfl⟩⟩

theorem test_meets_EngineFrames : ∃ (c : Instr) (ps : List Part) (rs : List (Nat × Nat)) (s t : State),
    c.engineChanges = some (ps, rs) ∧ c.wf = true ∧ s.build.ok = true ∧ exec c s = .next t :=
  ⟨.thLoadDecodeDone, _, _, box up, _, rfl, by decide, by decide, rfl⟩

theorem test_meets_RecorderFrames : ∃ (c : Instr) (ps : List Part) (rs : List (Nat × Nat)) (s t : State),
    c.recordChanges = some (ps, rs) ∧ c.wf = true ∧ s.build.ok = true ∧ exec c s = .next t :=
  ⟨.checkWordRewritten, _, _, box up, _, rfl, by decide, by decide, rfl⟩

theorem test_meets_PortFrames : ∃ (c : Instr) (ps : List Part) (rs : List (Nat × Nat)) (s t : State),
    c.portChanges = some (ps, rs) ∧ c.wf = true ∧ s.build.ok = true ∧ exec c s = .next t ∧ c.reachesBytes = false :=
  ⟨.storePageWrite 0 3, _, _, box up, _, rfl, by decide, by decide, rfl, by decide⟩

theorem test_meets_EveryCommandAnswers :
    (∃ (s t : State) (x : Packet) (lose : Option Nat) (a o : Nat), exec (.storeWrite x lose) s = .next t ∧
      o = bits x.arg 0 24 ∧ x.wf = true ∧ (a < o ∨ o + 8 * x.params.length ≤ a))
    ∧ (∃ (s t : State) (x : Packet) (bad : List Nat) (a o : Nat), exec (.storeRead x bad) s = .next t ∧
      o = bits x.arg 0 24 ∧ x.wf = true ∧ (a < o / 8 * 8 ∨ o + 8 * bits x.arg 24 5 ≤ a)) :=
  ⟨⟨box up, _, pkt 0xAB0000 [1, 2], none, 0xAB0010, 0xAB0000, rfl, by decide, by decide, by decide⟩,
   ⟨box up, _, pkt 0x2AB0000, [], 0xAAFFFF, 0xAB0000, rfl, by decide, by decide, by decide⟩⟩

theorem test_meets_StepKeepsTheInvariants : ∃ s t : State, s.memOk ∧ s.queueOk ∧ step s = .next t :=
  ⟨{ box up with mem := [(3, 1)], pending := [.vinWindowSettled, .xoStartDelayEnd] }, _, by decide, by decide, rfl⟩

theorem test_meets_RefusedAndQueries :
    (∃ (c : Instr) (op arg : Nat) (x : Packet) (s : State), c.packet = some (op, arg, x) ∧ s.gov.live = true ∧ s.gov.quiet ∧
      x.wf = true ∧ s.gov.takeable x.mbx (packetPkt x op arg s.gov) = true ∧
      cmdRefused s.build (s.command op arg x) (packetPkt x op arg s.gov).hres (s.taken op arg x) ≠ 0)
    ∧ (∃ (c : Instr) (op arg : Nat) (x : Packet) (s : State), c.isQuery = true ∧ c.packet = some (op, arg, x) ∧
      s.takes op arg x) :=
  ⟨⟨.status { pkt 0 with rsv := 1 }, 0x002, 0, { pkt 0 with rsv := 1 }, box up, rfl, by decide, by decide, by decide, by decide,
    by decide⟩,
   ⟨.status (pkt 0), 0x002, 0, pkt 0, box up, by decide, rfl, by decide⟩⟩

/-! ### Worked examples of the spec -/

/-- The example after R343: opcode 0x412 at class 2 with LEN 3, tag 0x5A and ARG 0 has the header 0x0000_0000_02D0_E412. -/
theorem test_command_header :
    (packetPkt { mbx := 0, port := 0, cls := 2, tag := 0x5A, rsv := 0, arg := 0, params := [0, 0, 0] } 0x412 0 up).hdr
      = 0x02D0E412 := by decide

/-- The example after R73: 1,312.5 A is mantissa 656 at exponent +1. -/
theorem test_linear11_example : linear11 2625 2 = 1 * 2 ^ 11 + 656 := by decide

/-- The example after R60: a 64-bit read of the bytes 0x10 to 0x1F with rotation 5 returns bytes 0x15 to 0x1C. -/
theorem test_rotated_read :
    rotWord 0x1716151413121110 0x1F1E1D1C1B1A1918 5 = 0x1C1B1A1918171615 := by decide

/-- The example of "The loop": a step of 17,600 codes asks for 40,049 duty codes, and the filter then stands at half of it. -/
theorem test_feed_forward :
    ffTerm 0 0x48D1 0 2 17600 0 = 40049 ∧ ffFilter 1 17600 0 * 2 = 17600 * 256 := by decide

/-- The example of the thermal engine: tile 17 of CD2 over one update, from 90.00 °C to 90.39 °C. -/
theorem test_thermal_update :
    let x : ThNode := { cfg := { cpl := [(144, 600), (400, 1200)], g := 12000, lk := 512, tlref := 7680 }, s := 754974720, p := 128 }
    let r := thStep (fun j => if j = 512 then 11520 else if j = 144 then 11264 else 10240) 16 x
    r = (758277120, false) ∧ thT r.1 = 11570 := by decide

/-- The example of R280's chapter: the joining device steps its GTIME by the 400,000 ns that it lies behind. -/
theorem test_gtime_step : (hrStep 400000 { up with gtime := 1002165 }).gtime = 1402165 := by decide

/-- The example of "Calibration": with GAIN 0xFA85 and OFS 0xFF2 a stage at 80 A, whose IMEAN was 1,322, reads 1,280 codes. -/
theorem test_calibrated_current :
    ((1322 * (65536 + sx 16 0xFA85) + 32768) / 65536 + sx 12 0xFF2 : Int) = 1280 := by decide

/-- The example of "Phases": ILIM_RAIL is 9,000 codes on six phases of 100 A, and 7,500 on five. -/
theorem test_ilim_rail :
    let g : Gov := put up [(F.RAIL_STAT_MODE 9, mCLOSED), (F.RAIL_LIM_ILIM_PH 9, 0x640), (F.RAIL_LIM_BAL_M 9, 4)]
    let g := (g.setRail 9 { g.rail 9 with first := 36, count := 6, rating := 1600 }).each (List.range 6)
      (fun g k => g.setPh (36 + k) { g.ph (36 + k) with usable := true })
    g.ilimRail 9 = 9000 ∧ (g.setPh 38 { g.ph 38 with usable := false }).ilimRail 9 = 7500 := by decide

/-- The example after R455: where DMD_CNT[3] holds 1,000, CNT_CLEAR of group 0 replies 1,000 for it, and it counts on from 0. -/
theorem test_count_cleared :
    (match exec (.cntClear (pkt 0)) (box (put up [(F.DMD_CNT_COUNT 3, 1000)])) with
      | .next t => (t.gov.mbx 15).rq.getD 4 0 == 1000 && t.gov.rd (F.DMD_CNT_COUNT 3) == 0
      | _ => false) = true := by decide +kernel

/-- Reset lists no raw store byte. -/
theorem test_reset_mem : memWf State.reset.mem = true := by decide

end Sys2Proof.Tests
end

section
/-! SUPPORT. The register table: the fields of the register at an offset lie at that offset, at different bits. -/

namespace Sys2Proof.Machine

/-! ## Table 17.2 -/

/-- The offset of the register with indices `l` of a line of Table 17.2. -/
def RegSpec.offAt (s : RegSpec) (l : List Nat) : Nat := (s.dims.zip l).foldl (fun o e => o + e.1.2 * e.2) s.base

/-- Every field of a line stands at the offset of its register. -/
theorem regTable_map_off (i j k : Nat) :
    regTable.map (fun s => (s.flds i j k).map Fld.off)
      = regTable.map (fun s => (s.flds i j k).map (fun _ => s.offAt [i, j, k])) := by
  simp only [regTable, List.map_append]
  iterate 11 refine congr (congrArg HAppend.hAppend ?_) rfl
  rfl

/-- The fields of a register start at different bits of its word. -/
theorem regTable_all_lo (i j k : Nat) :
    regTable.all (fun s => decide (((s.flds i j k).map Fld.lo).Nodup ∧ ∀ n ∈ (s.flds i j k).map Fld.lo, n < 64)) := by
  simp only [regTable, List.all_append]
  iterate 11 refine Bool.and_eq_true_iff.mpr ⟨?_, rfl⟩
  rfl

theorem regTable_dims : ∀ d ∈ regTable.map RegSpec.dims, d.length ≤ 3 := by decide +kernel

theorem RegSpec.fld_off {s : RegSpec} (hs : s ∈ regTable) {i j k : Nat} {f : Fld} (hf : f ∈ s.flds i j k) :
    f.off = s.offAt [i, j, k] :=
  List.map_inj_left.mp (List.map_inj_left.mp (regTable_map_off i j k) s hs) f hf

theorem RegSpec.fld_lo {s : RegSpec} (hs : s ∈ regTable) (i j k : Nat) :
    ((s.flds i j k).map Fld.lo).Nodup ∧ ∀ n ∈ (s.flds i j k).map Fld.lo, n < 64 :=
  of_decide_eq_true (List.all_eq_true.mp (regTable_all_lo i j k) s hs)

/-- Indices found `rel` bytes from the first register of a line are as many as its dimensions and add up to `rel`. -/
theorem instIdx_some {d : List (Nat × Nat)} {rel : Nat} {l : List Nat} (h : instIdx d rel = some l) (base : Nat) :
    l.length = d.length ∧ (d.zip l).foldl (fun o e => o + e.1.2 * e.2) base = base + rel := by
  induction d generalizing rel l base with
  | nil =>
    obtain ⟨rfl, rfl⟩ : rel = 0 ∧ [] = l := by simpa [instIdx] using h
    exact ⟨rfl, rfl⟩
  | cons e d ih =>
    obtain ⟨c, p⟩ := e
    rw [instIdx] at h
    split at h
    · obtain ⟨l', hl', rfl⟩ := Option.map_eq_some_iff.mp h
      obtain ⟨hlen, hsum⟩ := ih hl' (base + p * (rel / p))
      have := Nat.mul_div_le rel p
      exact ⟨by simp [hlen], by simp only [List.zip_cons_cons, List.foldl_cons]; omega⟩
    · cases h

theorem regFindIn_some {t : List RegSpec} {off : Nat} {s : RegSpec} {l : List Nat} (h : regFindIn t off = some (s, l)) :
    s ∈ t ∧ s.base ≤ off ∧ instIdx s.dims (off - s.base) = some l := by
  induction t with
  | nil => cases h
  | cons x t ih =>
    rw [regFindIn] at h
    split at h
    · obtain ⟨hm, hr⟩ := ih h
      exact ⟨List.mem_cons_of_mem _ hm, hr⟩
    · split at h
      · next l' hl =>
        obtain ⟨rfl, rfl⟩ : x = s ∧ l' = l := by simpa using h
        exact ⟨List.mem_cons_self, by omega, hl⟩
      · obtain ⟨hm, hr⟩ := ih h
        exact ⟨List.mem_cons_of_mem _ hm, hr⟩

/-- A register that is found at an offset lies there. -/
theorem regFind_offAt {off : Nat} {s : RegSpec} {l : List Nat} (h : regFind off = some (s, l)) :
    s ∈ regTable ∧ s.offAt [l.getD 0 0, l.getD 1 0, l.getD 2 0] = off := by
  obtain ⟨hs, hb, hi⟩ := regFindIn_some h
  obtain ⟨hlen, hoff⟩ := instIdx_some hi s.base
  have hd : s.dims.length ≤ 3 := regTable_dims _ (List.mem_map_of_mem hs)
  refine ⟨hs, ?_⟩
  have hoff' : s.offAt l = off := by rw [RegSpec.offAt, hoff]; omega
  rw [← hoff']
  unfold RegSpec.offAt
  congr 1
  match l, s.dims, hlen, hd with
  | [], [], _, _ => rfl
  | [_], [_], _, _ => rfl
  | [_, _], [_, _], _, _ => rfl
  | [_, _, _], [_, _, _], _, _ => rfl
  | _ :: _ :: _ :: _ :: _, _, h, h' => simp at h; omega

/-- The fields of the register at an offset: all of them at that offset, at different bits of the word. -/
theorem Build.fieldsAt_spec (b : Build) (off : Nat) :
    (∀ f ∈ b.fieldsAt off, f.off = off ∧ f.lo < 64) ∧ ((b.fieldsAt off).map Fld.key).Nodup := by
  have key : ∀ fs : List Fld, (∀ f ∈ fs, f.off = off) → (fs.map Fld.lo).Nodup → (fs.map Fld.key).Nodup := by
    intro fs ho hn
    have : fs.map Fld.key = (fs.map Fld.lo).map (off * 64 + ·) := by
      rw [List.map_map]
      exact List.map_congr_left fun f hf => by simp [Fld.key, ho f hf]
    rw [this]
    exact List.Pairwise.map _ (fun a b h e => h (Nat.add_left_cancel e)) hn
  unfold Build.fieldsAt
  split
  · next s l h =>
    obtain ⟨hs, hoff⟩ := regFind_offAt h
    split
    · have ho : ∀ f ∈ s.at l, f.off = off := fun f hf => (RegSpec.fld_off hs hf).trans hoff
      obtain ⟨hn, hl⟩ := RegSpec.fld_lo hs (l.getD 0 0) (l.getD 1 0) (l.getD 2 0)
      exact ⟨fun f hf => ⟨ho f hf, hl _ (List.mem_map_of_mem hf)⟩, key _ ho hn⟩
    · simp
  · simp

/-- A field of a register lies at no other register's offset. -/
theorem Build.key_ne_of_mem {b : Build} {o : Nat} {f k : Fld} (hf : f ∈ b.fieldsAt o) (hk : k.lo < 64)
    (ho : k.off ≠ o) : f.key ≠ k.key := by
  obtain ⟨hoff, hlo⟩ := (b.fieldsAt_spec o).1 f hf
  exact Fld.key_ne hlo hk (by rw [hoff]; exact ho.symm)

/-- The fields of a register that every build has. -/
theorem Build.fieldsAt_always (b : Build) {off : Nat} {fs : List Fld}
    (h : (regFind off).map (fun e => (e.1.kind, e.1.at e.2)) = some (.always, fs)) : b.fieldsAt off = fs := by
  obtain ⟨⟨s, l⟩, hr, he⟩ := Option.map_eq_some_iff.mp h
  obtain ⟨hk, hf⟩ := Prod.mk.inj he
  dsimp only at hk hf
  simp only [Build.fieldsAt, hr, hk, Build.has, if_true, hf]

theorem Build.mem_fieldsAt_always (b : Build) {off : Nat} {fs : List Fld} {f : Fld}
    (h : (regFind off).map (fun e => (e.1.kind, e.1.at e.2)) = some (.always, fs)) (hf : f ∈ fs) :
    f ∈ b.fieldsAt off := by
  rw [b.fieldsAt_always h]
  exact hf

theorem Build.fieldsAt_rw {b : Build} {o : Nat} (h : (regFind o).all (fun e => (e.1.at e.2).all (·.acc == .rw)) = true) :
    ∀ f ∈ b.fieldsAt o, f.acc = .rw := by
  intro f hf
  unfold Build.fieldsAt at hf
  split at hf
  · next s l hr =>
    rw [hr] at h
    split at hf
    · simpa using List.all_eq_true.mp h f hf
    · cases hf
  · cases hf

end Sys2Proof.Machine
end

section
/-! PROOFS. Reads of registers that hold RC counts (R8, R9, R455). -/

namespace Sys2Proof.Machine

/-! ## What an access reaches -/

/-- A choice under an equivalent condition. -/
theorem ite_of_iff {α : Type} {c d : Prop} [Decidable c] [Decidable d] {x y : α} (h : c ↔ d) :
    (if c then x else y) = if d then x else y := by
  by_cases hc : c
  · rw [if_pos hc, if_pos (h.mp hc)]
  · rw [if_neg hc, if_neg (mt h.mpr hc)]

theorem testBit_bits (v lo len i : Nat) : (bits v lo len).testBit i = (decide (i < len) && v.testBit (i + lo)) := by
  rw [bits, Nat.testBit_mod_two_pow, Nat.testBit_div_two_pow]

theorem testBit_maskHi (i : Nat) : maskHi.testBit i = decide (32 ≤ i ∧ i < 64) := by
  have : maskHi = (2 ^ 32 - 1) <<< 32 := by decide
  rw [this, Nat.testBit_shiftLeft, Nat.testBit_two_pow_sub_one, ← Bool.decide_and]
  exact decide_eq_decide.mpr (by omega)

/-- A 64-bit access reaches every bit of a field. -/
theorem Fld.of_maskAll {f : Fld} (h : f.lo + f.len ≤ 64) : f.of maskAll = 2 ^ f.len - 1 := by
  refine Nat.eq_of_testBit_eq fun i => ?_
  rw [Fld.of, testBit_bits, maskAll, Nat.testBit_two_pow_sub_one, Nat.testBit_two_pow_sub_one, ← Bool.decide_and]
  exact decide_eq_decide.mpr (by omega)

/-- An access to the upper half reaches every bit of a field that stands there. -/
theorem Fld.of_maskHi {f : Fld} (h : 32 ≤ f.lo) (h' : f.lo + f.len ≤ 64) : f.of maskHi = 2 ^ f.len - 1 := by
  refine Nat.eq_of_testBit_eq fun i => ?_
  rw [Fld.of, testBit_bits, testBit_maskHi, Nat.testBit_two_pow_sub_one, ← Bool.decide_and]
  exact decide_eq_decide.mpr (by omega)

/-- An access to the lower half reaches no bit of a field of the upper one. -/
theorem Fld.of_maskLo {f : Fld} (h : 32 ≤ f.lo) : f.of maskLo = 0 := by
  refine Nat.eq_of_testBit_eq fun i => ?_
  rw [Fld.of, testBit_bits, maskLo, Nat.testBit_two_pow_sub_one, Nat.zero_testBit, ← Bool.decide_and]
  exact decide_eq_false (by omega)

/-- An access to the lower half reaches every bit of a field that stands there. -/
theorem Fld.of_maskLo_low {f : Fld} (h : f.lo + f.len ≤ 32) : f.of maskLo = 2 ^ f.len - 1 := by
  refine Nat.eq_of_testBit_eq fun i => ?_
  rw [Fld.of, testBit_bits, maskLo, Nat.testBit_two_pow_sub_one, Nat.testBit_two_pow_sub_one, ← Bool.decide_and]
  exact decide_eq_decide.mpr (by omega)

/-- An access to the upper half reaches no bit of a field of the lower one. -/
theorem Fld.of_maskHi_low {f : Fld} (h : f.lo + f.len ≤ 32) : f.of maskHi = 0 := by
  refine Nat.eq_of_testBit_eq fun i => ?_
  rw [Fld.of, testBit_bits, testBit_maskHi, Nat.zero_testBit, ← Bool.decide_and]
  exact decide_eq_false (by omega)

theorem accMask_half (o : Nat) : accMask o false = if 4 ≤ o % 8 then maskHi else maskLo := rfl

/-- The offset at which an access to the register at `off` names it, or its upper half, and what follows from it. -/
theorem accessOff {off o : Nat} {wide high : Bool} (h8 : off % 8 = 0)
    (ho : o = off + (if wide = false ∧ high = true then 4 else 0)) :
    (if !wide && high then off + 4 else off) = o ∧ o / 8 * 8 = off := by
  by_cases h : wide = false ∧ high = true
  · rw [if_pos h] at ho
    obtain ⟨rfl, rfl⟩ := h
    exact ⟨ho.symm, by omega⟩
  · rw [if_neg h] at ho
    rw [if_neg (by simpa using h)]
    exact ⟨ho.symm, by omega⟩

theorem mbxOf_none {off : Nat} (h : off < 0x1000 ∨ 0x1400 ≤ off) : mbxOf off = none := if_neg (by omega)

/-! ## A register's fields taken in turn -/

/-- A fold whose step at a field changes that field alone, to `v` of what it held: each field of the list holds `v` of what
it held, and every other field what it held. `get` is the live image or the shadow. -/
theorem foldl_fields {get : Gov → Fld → Nat} {step : Gov → Fld → Gov} {v : Fld → Nat → Nat}
    (hsame : ∀ g f, get (step g f) f = v f (get g f))
    (hne : ∀ g f f', f.key ≠ f'.key → get (step g f') f = get g f) {fs : List Fld} (hk : (fs.map Fld.key).Nodup)
    (g : Gov) (f : Fld) :
    (f.key ∉ fs.map Fld.key → get (fs.foldl step g) f = get g f)
      ∧ (f ∈ fs → get (fs.foldl step g) f = v f (get g f)) := by
  induction fs generalizing g with
  | nil => simp
  | cons x fs ih =>
    rw [List.map_cons] at hk
    obtain ⟨hx, hfs⟩ := List.nodup_cons.mp hk
    obtain ⟨ihout, ihin⟩ := ih hfs (step g x)
    refine ⟨fun h => ?_, fun h => ?_⟩
    · obtain ⟨h1, h2⟩ : f.key ≠ x.key ∧ f.key ∉ fs.map Fld.key := by simpa using h
      exact (ihout h2).trans (hne g f x h1)
    · rcases List.mem_cons.mp h with rfl | h
      · exact (ihout hx).trans (hsame g f)
      · have hfx : f.key ≠ x.key := fun e => hx (e ▸ List.mem_map_of_mem h)
        exact (ihin h).trans (by rw [hne g f x hfx])

theorem Gov.rd_wr_ite_ne (g : Gov) {f f' : Fld} (v : Nat) (c : Prop) [Decidable c] (h : f.key ≠ f'.key) :
    (if c then g.wr f' v else g).rd f = g.rd f := by
  split
  · exact g.rd_wr_ne v h
  · rfl

/-! ## What stays beside the registers and the configuration -/

/-- `t` is `g` but for the register file and the state of the configuration. -/
def Gov.sameRest (g t : Gov) : Prop := ∃ r c, t = { g with regs := r, cfg := c }

theorem Gov.sameRest_refl (g : Gov) : g.sameRest g := ⟨g.regs, g.cfg, rfl⟩

theorem Gov.sameRest_trans {a b c : Gov} (h : a.sameRest b) (h' : b.sameRest c) : a.sameRest c := by
  obtain ⟨r, x, rfl⟩ := h
  obtain ⟨r', x', rfl⟩ := h'
  exact ⟨r', x', rfl⟩

theorem Gov.sameRest_gtime {g t : Gov} (h : g.sameRest t) : t.gtime = g.gtime := by
  obtain ⟨r, c, rfl⟩ := h
  rfl

theorem Gov.sameRest_io {g t : Gov} (h : g.sameRest t) : t.io = g.io := by
  obtain ⟨r, c, rfl⟩ := h
  rfl

theorem Gov.sameRest_quiet {g t : Gov} (h : g.sameRest t) (hq : g.quiet) : t.quiet := by
  obtain ⟨r, c, rfl⟩ := h
  exact hq

theorem Gov.sameRest_wr (g : Gov) (f : Fld) (v : Nat) : g.sameRest (g.wr f v) := ⟨_, g.cfg, rfl⟩

theorem Gov.sameRest_ite (g : Gov) {a b : Gov} {c : Prop} [Decidable c] (ha : g.sameRest a) (hb : g.sameRest b) :
    g.sameRest (if c then a else b) := by
  split
  · exact ha
  · exact hb

theorem Gov.sameRest_foldl {α : Type} {step : Gov → α → Gov} (h : ∀ g x, Gov.sameRest g (step g x)) (l : List α)
    (g : Gov) : g.sameRest (l.foldl step g) := by
  induction l generalizing g with
  | nil => exact g.sameRest_refl
  | cons x l ih => exact Gov.sameRest_trans (h g x) (ih _)

/-! ## Reads that clear -/

theorem Gov.sameRest_clearRc (b : Build) (g : Gov) (off mask : Nat) : g.sameRest (g.clearRc b off mask) :=
  Gov.sameRest_foldl (fun g f => g.sameRest_ite (g.sameRest_wr f 0) g.sameRest_refl) _ g

/-- R9, R455: the RC fields that the mask reaches are 0, the others as they were. -/
theorem Gov.rd_clearRc {b : Build} {off : Nat} {f : Fld} (hf : f ∈ b.fieldsAt off) (g : Gov) (mask : Nat) :
    (g.clearRc b off mask).rd f = if f.acc = .rc ∧ f.of mask ≠ 0 then 0 else g.rd f := by
  refine (foldl_fields (v := fun f x => if f.acc = .rc ∧ f.of mask ≠ 0 then 0 else x) ?_ ?_
    (b.fieldsAt_spec off).2 g f).2 hf
  · intro g f
    split
    · simp
    · rfl
  · exact fun g f f' h => g.rd_wr_ite_ne 0 _ h

/-! ## What a read shows does not depend on the access itself -/

theorem Gov.regWord_touch_openFor (b : Build) (port p off o : Nat) (g : Gov) :
    ((g.touch p).openFor o).regWord b port off = g.regWord b port off := rfl

/-! ## A row that takes no time -/

/-- Where no time passes, the registers and the ports' answers are what the row's change leaves. -/
theorem State.apply_same_time {s : State} {f : Build → List Host.Cell → Gov → Gov}
    (h : (f s.build s.mem s.gov).gtime = s.gov.gtime) :
    (∀ k, (s.apply f).gov.rd k = (f s.build s.mem s.gov).rd k)
      ∧ (s.apply f).gov.io.hrs = (f s.build s.mem s.gov).io.hrs
      ∧ (s.apply f).gov.cfg = (f s.build s.mem s.gov).cfg ∧ (s.apply f).gov.gtime = s.gov.gtime := by
  rw [State.apply_gov, Gov.passed_same_time h]
  exact ⟨fun k => by rw [Gov.rd_wake, Gov.rd_latch], by rw [Gov.wake_io, Gov.latch_hrs],
    by rw [Gov.wake_cfg, Gov.latch_cfg], by rw [Gov.wake_gtime, Gov.latch_gtime, h]⟩

/-! ## The rows that read -/

/-- A read of a register that no mailbox has and that no read acts on: the answer is the register as it stood. -/
theorem halfRead_plain {b : Build} {off port o : Nat} {wide high : Bool} {g : Gov} (hl : g.live = true)
    (hm : mbxOf off = none) (hlock : off ≠ 0x2008) (htime : off ≠ 0x12040) (h8 : off % 8 = 0)
    (ho : o = off + (if wide = false ∧ high = true then 4 else 0)) :
    halfRead b off port wide high g
      = (((g.touch port).openFor off).clearRc b off (accMask o wide)).respond port
          (if wide then g.regWord b port off else halfOf o (g.regWord b port off)) 0 := by
  obtain ⟨ho', hoff⟩ := accessOff h8 ho
  simp only [halfRead, portRead, regRead, hl, if_true, ho', hoff, hm, if_neg hlock, if_neg htime, Bool.true_eq_false,
    if_false, Gov.regWord_touch_openFor]
  rfl

/-- A read of MBX_STAT: a held half of the port is discarded first (R340). -/
theorem halfRead_mbxStat {b : Build} {n port o : Nat} {wide high : Bool} {g : Gov} (hl : g.live = true) (hn : n < 16)
    (ho : o = 0x1010 + 64 * n + (if wide = false ∧ high = true then 4 else 0)) :
    halfRead b (0x1010 + 64 * n) port wide high g
      = ((((g.touch port).openFor (0x1010 + 64 * n)).dropHalf n port).clearRc b (0x1010 + 64 * n) (accMask o wide)).respond
          port (let v := (((g.touch port).openFor (0x1010 + 64 * n)).dropHalf n port).regWord b port (0x1010 + 64 * n)
                if wide then v else halfOf o v) 0 := by
  obtain ⟨ho', hoff⟩ := accessOff (by omega) ho
  have hm : mbxOf (0x1010 + 64 * n) = some n := by
    unfold mbxOf
    rw [if_pos (by omega)]
    congr 1
    omega
  have hstat : ¬ (0x1010 + 64 * n - 0x1000) % 64 = 8 := by omega
  simp only [halfRead, portRead, regRead, hl, if_true, ho', hoff, hm, if_neg hstat, Bool.true_eq_false, if_false]
  rfl

theorem Gov.dropHalf_none {g : Gov} {n port : Nat} (h : mfind (g.mbx n).half port = none) : g.dropHalf n port = g := by
  simp [Gov.dropHalf, h]

theorem Gov.rd_dropHalf (g : Gov) (n port : Nat) (f : Fld) : (g.dropHalf n port).rd f = g.rd f := by
  unfold Gov.dropHalf
  dsimp only
  split <;> rfl

theorem Gov.dropHalf_gtime (g : Gov) (n port : Nat) : (g.dropHalf n port).gtime = g.gtime := by
  unfold Gov.dropHalf
  dsimp only
  split <;> rfl

theorem Gov.clearRc_gtime (b : Build) (g : Gov) (off mask : Nat) : (g.clearRc b off mask).gtime = g.gtime :=
  Gov.sameRest_gtime (g.sameRest_clearRc b off mask)

/-- What a read of the register at `off` answers and leaves. -/
theorem State.read_plain {s : State} {off port o : Nat} {wide high : Bool} (hl : s.gov.live = true)
    (hm : mbxOf off = none) (hlock : off ≠ 0x2008) (htime : off ≠ 0x12040) (h8 : off % 8 = 0)
    (ho : o = off + (if wide = false ∧ high = true then 4 else 0)) :
    let t := s.apply (fun b _ g => halfRead b off port wide high g)
    mget {} t.gov.io.hrs port
        = { data := (let v := s.gov.regWord s.build port off; if wide then v else halfOf o v) }
      ∧ ∀ f ∈ s.build.fieldsAt off,
          t.gov.rd f = if f.acc = .rc ∧ f.of (accMask o wide) ≠ 0 then 0 else s.gov.rd f := by
  have e := halfRead_plain (b := s.build) (port := port) hl hm hlock htime h8 ho
  obtain ⟨hrd, hhrs, -, -⟩ := State.apply_same_time (s := s) (f := fun b _ g => halfRead b off port wide high g)
    (by rw [e]; exact Gov.clearRc_gtime _ _ _ _)
  refine ⟨?_, fun f hf => ?_⟩
  · rw [hhrs, e, Gov.respond_io]
    exact mget_mput_same _ _ _ _
  · rw [hrd, e]
    exact Gov.rd_clearRc hf _ _

theorem State.apply_indexedRead (s : State) {n i : Nat} (hi : i < n) (off port : Nat) (wide high : Bool) :
    s.apply (fun b _ g => indexedRead b n i off port wide high g)
      = s.apply (fun b _ g => halfRead b off port wide high g) := by
  simp only [indexedRead, if_pos hi]

theorem regFind_mbxStat : ∀ n < 16, (regFind (0x1010 + 64 * n)).map (fun e => (e.1.kind, e.1.at e.2))
    = some (.always, [F.MBX_STAT_CQ_FREE n, F.MBX_STAT_RQ_CNT n, F.MBX_STAT_RDY n, F.MBX_STAT_PEND n, F.MBX_STAT_MGEN n,
        F.MBX_STAT_STALE n, F.MBX_STAT_CQ_OVF n, F.MBX_STAT_UNDER n, F.MBX_STAT_TRUNC n, F.MBX_STAT_PORTERR n,
        F.MBX_STAT_RLOST n, F.MBX_STAT_DROP n, F.MBX_STAT_NDROP n]) := by decide +kernel

/-- NDROP is a field of MBX_STAT. -/
theorem ndrop_mem_fieldsAt (b : Build) {n : Nat} (h : n < 16) : F.MBX_STAT_NDROP n ∈ b.fieldsAt (0x1010 + 64 * n) :=
  b.mem_fieldsAt_always (regFind_mbxStat n h) (by simp)

/-- The access reaches NDROP, in bits 47:32, where it is a 64-bit one or one of the upper half. -/
theorem ndrop_reached {n o : Nat} {wide high : Bool}
    (ho : o = 0x1010 + 64 * n + (if wide = false ∧ high = true then 4 else 0)) :
    (F.MBX_STAT_NDROP n).of (accMask o wide) ≠ 0 ↔ wide = true ∨ high = true := by
  have hlo : (F.MBX_STAT_NDROP n).lo = 32 := rfl
  have hlen : (F.MBX_STAT_NDROP n).len = 16 := rfl
  have all : (F.MBX_STAT_NDROP n).of maskAll = 2 ^ 16 - 1 := Fld.of_maskAll (by omega)
  have hi : (F.MBX_STAT_NDROP n).of maskHi = 2 ^ 16 - 1 := Fld.of_maskHi (by omega) (by omega)
  have lo : (F.MBX_STAT_NDROP n).of maskLo = 0 := Fld.of_maskLo (by omega)
  match wide, high with
  | true, _ => simp [accMask, all]
  | false, true =>
    rw [if_pos ⟨rfl, rfl⟩] at ho
    rw [accMask_half, if_pos (by omega), hi]
    simp
  | false, false =>
    rw [if_neg (by simp)] at ho
    rw [accMask_half, if_neg (by omega), lo]
    simp

/-- Settles O45: each of these rows is a read of one register, and `State.read_plain` says what such a read answers and
clears; a read of MBX_STAT discards a held half of the port first. -/
theorem readsThatClear : Obligations.ReadsThatClear := by
  unfold Obligations.ReadsThatClear
  refine ⟨?_, ?_, ?_⟩
  · intro n base c hc s i port wide high o hl hi ho
    obtain ⟨row, place⟩ : exec (c i port wide high) s
          = .next (s.apply (fun b _ g => indexedRead b n i (base + 8 * i) port wide high g))
        ∧ 0x2028 < base + 8 * i ∧ base + 8 * i < 0x10000 ∧ base % 8 = 0 := by
      simp only [List.mem_cons, Prod.mk.injEq, List.not_mem_nil, or_false] at hc
      rcases hc with ⟨rfl, rfl, -, rfl⟩ | ⟨rfl, rfl, -, rfl⟩ | ⟨rfl, rfl, -, rfl⟩
      · exact ⟨rfl, by omega⟩
      · exact ⟨rfl, by omega⟩
      · exact ⟨rfl, by omega⟩
    rw [State.apply_indexedRead s hi] at row
    obtain ⟨hhrs, hrd⟩ := State.read_plain (s := s) (port := port) hl (mbxOf_none (by omega)) (by omega) (by omega)
      (by omega) ho
    exact ⟨_, row, rfl, hhrs, hrd⟩
  · intro base c hc s port wide high o hl ho
    obtain ⟨row, place⟩ : exec (c port wide high) s
          = .next (s.apply (fun b _ g => halfRead b base port wide high g))
        ∧ (base = 0x10030 ∨ base = 0x14050 ∨ base = 0x2028) := by
      simp only [List.mem_cons, Prod.mk.injEq, List.not_mem_nil, or_false] at hc
      rcases hc with ⟨rfl, rfl⟩ | ⟨rfl, rfl⟩ | ⟨rfl, rfl⟩
      · exact ⟨rfl, by omega⟩
      · exact ⟨rfl, by omega⟩
      · exact ⟨rfl, by omega⟩
    obtain ⟨hhrs, hrd⟩ := State.read_plain (s := s) (port := port) hl (mbxOf_none (by omega)) (by omega) (by omega)
      (by omega) ho
    exact ⟨_, row, rfl, hhrs, hrd⟩
  · intro s n port wide high o hl hn ho
    have e := halfRead_mbxStat (b := s.build) (port := port) hl hn ho
    obtain ⟨hrd, hhrs, -, -⟩ := State.apply_same_time (s := s)
      (f := fun b _ g => halfRead b (0x1010 + 64 * n) port wide high g)
      (by rw [e]; exact (Gov.clearRc_gtime _ _ _ _).trans (Gov.dropHalf_gtime _ _ _))
    have ht : exec (.mbxStatRead n port wide high) s
        = .next (s.apply (fun b _ g => halfRead b (0x1010 + 64 * n) port wide high g)) :=
      congrArg Host.Outcome.next (State.apply_indexedRead s hn (0x1010 + 64 * n) port wide high)
    refine ⟨_, ht, rfl, fun hh => ?_, ?_⟩
    · rw [hhrs, e, Gov.respond_io, Gov.dropHalf_none (by exact hh)]
      exact mget_mput_same _ _ _ _
    · rw [hrd, e]
      refine (Gov.rd_clearRc (ndrop_mem_fieldsAt s.build hn) _ _).trans ?_
      rw [Gov.rd_dropHalf]
      exact ite_of_iff ((and_iff_right rfl).trans (ndrop_reached ho))

end Sys2Proof.Machine
end

section
/-! PROOFS. Writes of registers that set nothing off beyond their fields (R9, R56, R364, R366). -/

namespace Sys2Proof.Machine

/-! ## Bits that a write merges -/

theorem testBit_mergeBits (len old w m i : Nat) : (mergeBits len old w m).testBit i
    = (w.testBit i && m.testBit i || old.testBit i && (m.testBit i ^^ decide (i < len))) := by
  change (w &&& m ||| old &&& (m ^^^ (2 ^ len - 1))).testBit i = _
  rw [Nat.testBit_or, Nat.testBit_and, Nat.testBit_and, Nat.testBit_xor, Nat.testBit_two_pow_sub_one]

theorem mergeBits_lt {len m : Nat} (old w : Nat) (h : m < 2 ^ len) : mergeBits len old w m < 2 ^ len := by
  refine Nat.lt_pow_two_of_testBit _ fun i hi => ?_
  have hm : m.testBit i = false := Nat.testBit_lt_two_pow (Nat.lt_of_lt_of_le h (Nat.pow_le_pow_right (by decide) hi))
  rw [testBit_mergeBits, hm]
  simp [hi]

theorem Fld.of_lt (f : Fld) (w : Nat) : f.of w < 2 ^ f.len := Nat.mod_lt _ (Nat.two_pow_pos _)

theorem Fld.merged_lt (f : Fld) (old w mask : Nat) : f.merged old w mask < 2 ^ f.len := mergeBits_lt _ _ (f.of_lt mask)

/-- A write that reaches the whole field leaves what it writes. -/
theorem Fld.merged_whole {f : Fld} {mask : Nat} (h : f.of mask = 2 ^ f.len - 1) (old w : Nat) :
    f.merged old w mask = f.of w := by
  refine Nat.eq_of_testBit_eq fun i => ?_
  rw [Fld.merged, h, testBit_mergeBits, Nat.testBit_two_pow_sub_one, Fld.of, testBit_bits]
  by_cases hi : i < f.len <;> simp [hi]

/-- The word that an access at `off` writes: the bits of a half stand at the half's place (R56). -/
def accData (off w : Nat) (wide : Bool) : Nat :=
  if wide then w else if 4 ≤ off % 8 then w % 2 ^ 32 * 2 ^ 32 else w % 2 ^ 32

theorem accData_half (off w : Nat) :
    accData off w false = if 4 ≤ off % 8 then w % 2 ^ 32 * 2 ^ 32 else w % 2 ^ 32 := rfl

theorem bit_eq_testBit (v i : Nat) : bit v i = v.testBit i := by
  rw [bit, Nat.testBit_eq_decide_div_mod_eq]
  rfl

/-! ## One field under a write -/

/-- What an RW field that holds `x` holds after a write of `d` under a mask. -/
def Fld.take (f : Fld) (x d mask : Nat) : Nat := if f.hit mask then f.merged x d mask else x

/-- A field that the mask does not reach keeps what it holds. -/
theorem Fld.take_none {f : Fld} {mask : Nat} (h : f.of mask = 0) (x d : Nat) : f.take x d mask = x := by
  rw [Fld.take, if_neg (by simp [Fld.hit, h])]

/-- A field that the mask reaches whole takes its bits of the word. -/
theorem Fld.take_whole {f : Fld} {mask : Nat} (hl : 0 < f.len) (h : f.of mask = 2 ^ f.len - 1) (x d : Nat) :
    f.take x d mask = f.of d := by
  have : 2 ^ f.len - 1 ≠ 0 := by have := Nat.one_lt_two_pow (Nat.ne_of_gt hl); omega
  rw [Fld.take, if_pos (by simp [Fld.hit, h, this]), Fld.merged_whole h]

/-- A 64-bit write reaches every field. -/
theorem Fld.take_wide {f : Fld} (hl : 0 < f.len) (h : f.lo + f.len ≤ 64) (off w x : Nat) :
    f.take x (accData off w true) (accMask off true) = f.of w := Fld.take_whole hl (Fld.of_maskAll h) _ _

section Halves
variable {f : Fld} {off : Nat} (w x : Nat)

/-- A write of the lower half reaches the fields that stand there. -/
theorem Fld.take_lower (hl : 0 < f.len) (h : f.lo + f.len ≤ 32) (h4 : off % 8 < 4) :
    f.take x (accData off w false) (accMask off false) = f.of w := by
  rw [accMask_half, if_neg (by omega), Fld.take_whole hl (Fld.of_maskLo_low h), accData_half, if_neg (by omega)]
  refine Nat.eq_of_testBit_eq fun i => ?_
  rw [Fld.of, Fld.of, testBit_bits, testBit_bits, Nat.testBit_mod_two_pow]
  by_cases hi : i < f.len
  · rw [decide_eq_true (by omega : i + f.lo < 32), Bool.true_and]
  · rw [decide_eq_false hi, Bool.false_and, Bool.false_and]

theorem Fld.take_lower_none (h : 32 ≤ f.lo) (h4 : off % 8 < 4) :
    f.take x (accData off w false) (accMask off false) = x := by
  rw [accMask_half, if_neg (by omega), Fld.take_none (Fld.of_maskLo h)]

/-- A write of the upper half reaches the fields that stand there, with its data in bits 31:0 (R56). -/
theorem Fld.take_upper (hl : 0 < f.len) (h : 32 ≤ f.lo) (h' : f.lo + f.len ≤ 64) (h4 : 4 ≤ off % 8) :
    f.take x (accData off w false) (accMask off false) = bits w (f.lo - 32) f.len := by
  rw [accMask_half, if_pos h4, Fld.take_whole hl (Fld.of_maskHi h h'), accData_half, if_pos h4]
  refine Nat.eq_of_testBit_eq fun i => ?_
  rw [Fld.of, testBit_bits, testBit_bits, Nat.testBit_mul_two_pow, Nat.testBit_mod_two_pow]
  by_cases hi : i < f.len
  · rw [decide_eq_true (by omega : 32 ≤ i + f.lo), decide_eq_true (by omega : i + f.lo - 32 < 32), Bool.true_and,
      Bool.true_and, Nat.add_sub_assoc h]
  · rw [decide_eq_false hi, Bool.false_and, Bool.false_and]

theorem Fld.take_upper_none (h : f.lo + f.len ≤ 32) (h4 : 4 ≤ off % 8) :
    f.take x (accData off w false) (accMask off false) = x := by
  rw [accMask_half, if_pos h4, Fld.take_none (Fld.of_maskHi_low h)]
end Halves

/-! ## Fields of a register under a write -/

theorem Gov.rd_putRw {fs : List Fld} (hk : (fs.map Fld.key).Nodup) (g : Gov) (w mask : Nat) (sel : Fld → Bool) (f : Fld) :
    (f.key ∉ fs.map Fld.key → (g.putRw fs w mask sel).rd f = g.rd f)
      ∧ (f ∈ fs → (g.putRw fs w mask sel).rd f
          = if f.acc = .rw ∧ f.hit mask ∧ sel f then f.merged (g.rd f) w mask else g.rd f) := by
  refine foldl_fields (v := fun f x => if f.acc = .rw ∧ f.hit mask ∧ sel f then f.merged x w mask else x) ?_ ?_ hk g f
  · intro g f
    split
    · rw [Gov.rd_wr_same, Nat.mod_eq_of_lt (f.merged_lt _ _ _)]
    · rfl
  · exact fun g f f' h => g.rd_wr_ite_ne _ _ h

theorem Gov.rd_putW1c {fs : List Fld} (hk : (fs.map Fld.key).Nodup) (g : Gov) (w mask : Nat) (f : Fld) :
    (f.key ∉ fs.map Fld.key → (g.putW1c fs w mask).rd f = g.rd f)
      ∧ (f ∈ fs → (g.putW1c fs w mask).rd f
          = if f.acc = .w1c ∧ f.hit mask then mergeBits f.len (g.rd f) 0 (Nat.land (f.of w) (f.of mask)) else g.rd f) := by
  refine foldl_fields (v := fun f x =>
    if f.acc = .w1c ∧ f.hit mask then mergeBits f.len x 0 (Nat.land (f.of w) (f.of mask)) else x) ?_ ?_ hk g f
  · intro g f
    split
    · exact (Gov.rd_wr_same _ _ _).trans (Nat.mod_eq_of_lt (mergeBits_lt _ _ (Nat.and_lt_two_pow _ (f.of_lt mask))))
    · rfl
  · exact fun g f f' h => g.rd_wr_ite_ne _ _ h

/-- A fold keeps what its every step keeps. -/
theorem foldl_keeps {α β : Type} {get : Gov → β} {step : Gov → α → Gov} (h : ∀ g x, get (step g x) = get g) (l : List α)
    (g : Gov) : get (l.foldl step g) = get g := by
  induction l generalizing g with
  | nil => rfl
  | cons x l ih => exact (ih _).trans (h g x)

theorem Gov.putRw_cfg (g : Gov) (fs : List Fld) (w mask : Nat) (sel : Fld → Bool) : (g.putRw fs w mask sel).cfg = g.cfg :=
  foldl_keeps (get := Gov.cfg) (fun g f => by split <;> rfl) fs g

theorem Gov.putW1c_cfg (g : Gov) (fs : List Fld) (w mask : Nat) : (g.putW1c fs w mask).cfg = g.cfg :=
  foldl_keeps (get := Gov.cfg) (fun g f => by split <;> rfl) fs g

theorem Gov.rd_putShadow (g : Gov) (fs : List Fld) (w mask : Nat) (f : Fld) : (g.putShadow fs w mask).rd f = g.rd f :=
  foldl_keeps (get := fun g => g.rd f) (fun g x => by split <;> rfl) fs g

/-- R364: a retained field that the mask reaches takes the write in the shadow image. -/
theorem Gov.staged_putShadow {fs : List Fld} (hk : (fs.map Fld.key).Nodup) (g : Gov) (w mask : Nat) {f : Fld}
    (hf : f ∈ fs) : (g.putShadow fs w mask).staged f = if f.isRet ∧ f.hit mask then f.merged (g.staged f) w mask else g.staged f := by
  refine (foldl_fields (get := Gov.staged)
    (v := fun f x => if f.isRet ∧ f.hit mask then f.merged x w mask else x) ?_ ?_ hk g f).2 hf
  · intro g f
    split
    · exact (mget_mput_same _ _ _ _).trans (Nat.mod_eq_of_lt (f.merged_lt _ _ _))
    · rfl
  · intro g f f' h
    split
    · exact mget_mput_ne _ _ _ h
    · rfl

/-! ## What each step of a write leaves beside the registers and the configuration -/

theorem Gov.sameRest_putRw (g : Gov) (fs : List Fld) (w mask : Nat) (sel : Fld → Bool) :
    g.sameRest (g.putRw fs w mask sel) :=
  Gov.sameRest_foldl (fun g f => g.sameRest_ite (g.sameRest_wr f _) g.sameRest_refl) fs g

theorem Gov.sameRest_putW1c (g : Gov) (fs : List Fld) (w mask : Nat) : g.sameRest (g.putW1c fs w mask) :=
  Gov.sameRest_foldl (fun g f => g.sameRest_ite (g.sameRest_wr f _) g.sameRest_refl) fs g

theorem Gov.sameRest_putShadow (g : Gov) (fs : List Fld) (w mask : Nat) : g.sameRest (g.putShadow fs w mask) :=
  Gov.sameRest_foldl (fun g _ => g.sameRest_ite ⟨g.regs, _, rfl⟩ g.sameRest_refl) fs g

theorem Gov.sameRest_dirty (g : Gov) : g.sameRest g.dirty := ⟨_, _, rfl⟩

theorem Gov.sameRest_discardRet (g : Gov) (off code : Nat) : g.sameRest (g.discardRet off code) := by
  unfold Gov.discardRet
  split
  · exact g.sameRest_ite (Gov.sameRest_trans (g.sameRest_wr _ _) (Gov.sameRest_wr _ _ _)) (g.sameRest_wr _ _)
  · exact g.sameRest_wr _ _

/-! ## Registers that set nothing off -/

/-- Outside these ranges and offsets a register has no check of its own and its write sets nothing off beyond its fields. -/
abbrev Silent (o : Nat) : Prop :=
  (o < 0x1000 ∨ 0x1400 ≤ o) ∧ o ≠ 0x2008 ∧ o ≠ 0x2018 ∧ o ≠ 0x2040 ∧ o ≠ 0x2048 ∧ o ≠ 0x2050 ∧ o ≠ 0x2060
  ∧ (o < 0x4000 ∨ 0x4800 ≤ o) ∧ (o < 0x4900 ∨ 0x4A80 ≤ o) ∧ (o < 0x4C00 ∨ 0x4D00 ≤ o) ∧ (o < 0x5000 ∨ 0x6000 ≤ o)
  ∧ o ≠ 0xC200 ∧ (o < 0xC400 ∨ 0xC500 ≤ o) ∧ (o < 0xE000 ∨ 0x10000 ≤ o) ∧ o ≠ 0x10010 ∧ (o < 0x10100 ∨ 0x10500 ≤ o)
  ∧ o ≠ 0x12000 ∧ o ≠ 0x12018 ∧ o ≠ 0x12020 ∧ o ≠ 0x12100 ∧ (o < 0x13000 ∨ 0x14000 ≤ o) ∧ o ≠ 0x14018 ∧ o ≠ 0x14028
  ∧ o ≠ 0x16100 ∧ (o < 0x16200 ∨ 0x16430 ≤ o) ∧ o ≠ 0x16518 ∧ (o < 0x18400 ∨ 0x18700 ≤ o)

theorem Silent.mbxOf {o : Nat} (h : Silent o) : mbxOf o = none := mbxOf_none h.1

theorem Silent.ne_cfgStat {o : Nat} (h : Silent o) : o ≠ 0x2050 := by omega

theorem Silent.regOk {o : Nat} (h : Silent o) (b : Build) (g : Gov) (val : Fld → Nat) : regOk b g val o = true := by
  unfold Machine.regOk
  simp (disch := omega) only [if_neg]

theorem Silent.setInUse {o : Nat} (h : Silent o) (g : Gov) : g.setInUse o = none := by
  unfold Gov.setInUse
  simp (disch := omega) only [if_neg]

theorem Silent.pendBarred {o : Nat} (h : Silent o) (g : Gov) : g.pendBarred o = false := by
  have : ¬ (0x4000 ≤ o ∧ o < 0x4080) := by omega
  simp only [Gov.pendBarred, decide_eq_false this, Bool.false_and]

theorem Silent.openBarred {o : Nat} (h : Silent o) (w mask : Nat) (g : Gov) : g.openBarred o w mask = false := by
  have : ¬ (0x4000 ≤ o ∧ o < 0x4080) := by omega
  simp only [Gov.openBarred, decide_eq_false this, Bool.false_and]

theorem Silent.wroteRw {o : Nat} (h : Silent o) (b : Build) (mask : Nat) (g : Gov) : wroteRw b o mask g = g := by
  unfold Machine.wroteRw
  simp (disch := omega) only [if_neg]

theorem Silent.wroteWo {o : Nat} (h : Silent o) (b : Build) (port w mask : Nat) (g : Gov) :
    wroteWo b port o w mask g = g := by
  unfold Machine.wroteWo
  simp (disch := omega) only [if_neg]

theorem Silent.putW1cAt {o : Nat} (h : Silent o) (g : Gov) (fs : List Fld) (w mask : Nat) :
    g.putW1cAt fs o w mask = g.putW1c fs w mask := by
  unfold Gov.putW1cAt
  simp (disch := omega) only [if_neg]

/-! ## A write of such a register -/

/-- The mask reaches a retained field of the list. -/
def reachesRet (fs : List Fld) (mask : Nat) : Bool := fs.any (fun f => f.isRet && f.hit mask)

/-- The retained fields of a write go to the shadow, or are discarded, unless they act at once (R364, R366): `rt` is their
route as `Gov.route` gives it. -/
def Gov.routed (g : Gov) (fs : List Fld) (off w mask rt : Nat) : Gov :=
  if rt = 1 then g.putShadow fs w mask else if rt ≠ 0 then g.discardRet off rt else g

/-- What a write of a silent register does to its fields `fs`. -/
def Gov.writeFields (g : Gov) (fs : List Fld) (off w mask rt : Nat) : Gov :=
  let g := (g.routed fs off w mask rt).putRw fs w mask (fun f => rt == 0 || !f.isRet)
  (if reachesRet fs mask = true ∧ rt = 0 then g.dirty else g).putW1c fs w mask

theorem regWriteAct_silent {o : Nat} (h : Silent o) (b : Build) (port w mask : Nat) (fs : List Fld) (g : Gov) :
    (regWriteAct b port o w mask fs g).1
      = g.writeFields fs o w mask (if reachesRet fs mask then g.route port else 0) := by
  have h1 : o ≠ 0x14028 := by omega
  have h2 : o ≠ 0x14018 := by omega
  simp only [regWriteAct, h.openBarred, h.wroteRw, h.wroteWo, h.putW1cAt, if_neg h1, if_neg h2, Bool.false_eq_true,
    if_false, ite_self]
  rfl

theorem regWrite_silent {o : Nat} (h : Silent o) {b : Build} {port w mask : Nat} {g : Gov} (hl : g.live = true)
    (hc : reachesRet (b.fieldsAt o) mask = true → g.cfg.copyAt = none) :
    regWrite b port o w mask g = regWriteDo b port o w mask (b.fieldsAt o) ((g.touch port).openFor o) := by
  have copy : ¬ ((b.fieldsAt o).any (fun f => f.isRet && f.hit mask) = true
      ∧ ((g.touch port).openFor o).cfg.copyAt.isSome = true) := by
    rintro ⟨hr, hs⟩
    have := hc hr
    simp [this] at hs
  have h1 : o ≠ 0x2060 := by omega
  have h2 : o ≠ 0x12000 := by omega
  have h3 : o ≠ 0x16420 := by omega
  simp only [regWrite, hl, Bool.true_eq_false, if_false, h.mbxOf, if_neg copy, if_neg h1, if_neg h2, if_neg h3,
    h.pendBarred, Bool.false_eq_true, false_and, and_false, h.regOk, h.setInUse, ite_self]

/-! ## Where retained fields go -/

theorem Gov.routed_direct (g : Gov) (fs : List Fld) (off w mask : Nat) : g.routed fs off w mask 0 = g := rfl

theorem Gov.routed_shadow (g : Gov) (fs : List Fld) (off w mask : Nat) :
    g.routed fs off w mask 1 = g.putShadow fs w mask := rfl

/-- A register that is none of a rail's is discarded with REFUSED of CFG_STAT alone. -/
theorem Gov.routed_discard (g : Gov) (fs : List Fld) {off rt : Nat} (w mask : Nat) (hr : railReg off = none) (h : 1 < rt) :
    g.routed fs off w mask rt = g.wr F.CFG_STAT_REFUSED 1 := by
  rw [Gov.routed, if_neg (by omega), if_pos (by omega), Gov.discardRet, hr]

/-! ## What a write of a silent register leaves -/

theorem Gov.sameRest_writeFields (g : Gov) (fs : List Fld) (off w mask rt : Nat) :
    g.sameRest (g.writeFields fs off w mask rt) := by
  have routed : g.sameRest (g.routed fs off w mask rt) :=
    g.sameRest_ite (g.sameRest_putShadow _ _ _) (g.sameRest_ite (g.sameRest_discardRet _ _) g.sameRest_refl)
  have put : g.sameRest ((g.routed fs off w mask rt).putRw fs w mask (fun f => rt == 0 || !f.isRet)) :=
    Gov.sameRest_trans routed (Gov.sameRest_putRw _ _ _ _ _)
  exact Gov.sameRest_trans put
    (Gov.sameRest_trans (Gov.sameRest_ite _ (Gov.sameRest_dirty _) (Gov.sameRest_refl _)) (Gov.sameRest_putW1c _ _ _ _))

theorem Gov.rd_dirty (g : Gov) (f : Fld) : g.dirty.rd f = (g.wr F.CFG_STAT_DIRTY 1).rd f := rfl

theorem Gov.staged_wr (g : Gov) (k : Fld) (v : Nat) (f : Fld) : (g.wr k v).staged f = g.staged f := rfl

theorem Gov.staged_dirty (g : Gov) (f : Fld) : g.dirty.staged f = g.staged f := rfl

theorem Gov.staged_writeFields (g : Gov) (fs : List Fld) (off w mask rt : Nat) (f : Fld) :
    (g.writeFields fs off w mask rt).staged f = (g.routed fs off w mask rt).staged f := by
  rw [Gov.writeFields, Gov.staged, Gov.putW1c_cfg]
  split
  · exact (Gov.staged_dirty _ f).trans (by rw [Gov.staged, Gov.putRw_cfg, Gov.staged])
  · rw [Gov.putRw_cfg, Gov.staged]

section Fields
variable {b : Build} {o : Nat} (g : Gov) (w mask rt : Nat)

/-- The fields of other registers, CFG_STAT among them, do not take the write. -/
theorem Gov.rd_writeFields_other {k : Fld} (hk : k.lo < 64) (ho : k.off ≠ o) :
    (g.writeFields (b.fieldsAt o) o w mask rt).rd k
      = if reachesRet (b.fieldsAt o) mask = true ∧ rt = 0 ∧ k.key = F.CFG_STAT_DIRTY.key then 1
        else (g.routed (b.fieldsAt o) o w mask rt).rd k := by
  have hn := (b.fieldsAt_spec o).2
  have hout : k.key ∉ (b.fieldsAt o).map Fld.key := by
    intro h
    obtain ⟨f, hf, he⟩ := List.mem_map.mp h
    exact Build.key_ne_of_mem hf hk ho he
  rw [Gov.writeFields, (Gov.rd_putW1c hn _ w mask k).1 hout]
  by_cases hd : reachesRet (b.fieldsAt o) mask = true ∧ rt = 0
  · rw [if_pos hd, Gov.rd_dirty, Gov.rd_wr, (Gov.rd_putRw hn _ w mask _ k).1 hout]
    exact ite_of_iff ⟨fun h => ⟨hd.1, hd.2, h⟩, fun h => h.2.2⟩
  · rw [if_neg hd, (Gov.rd_putRw hn _ w mask _ k).1 hout, if_neg fun h => hd ⟨h.1, h.2.1⟩]

/-- An RW field takes the write, a retained one only where it acts at once. -/
theorem Gov.rd_writeFields_rw {f : Fld} (hf : f ∈ b.fieldsAt o) (hacc : f.acc = .rw) (ho : o ≠ 0x2050) :
    (g.writeFields (b.fieldsAt o) o w mask rt).rd f
      = if f.hit mask = true ∧ (rt = 0 ∨ f.isRet = false) then
          f.merged ((g.routed (b.fieldsAt o) o w mask rt).rd f) w mask
        else (g.routed (b.fieldsAt o) o w mask rt).rd f := by
  have hn := (b.fieldsAt_spec o).2
  have hd : f.key ≠ F.CFG_STAT_DIRTY.key := Build.key_ne_of_mem hf (by decide) ho.symm
  have dirty : ∀ (x : Gov) (c : Prop) [Decidable c], (if c then x.dirty else x).rd f = x.rd f := by
    intro x c _
    split
    · exact x.rd_wr_ne 1 hd
    · rfl
  rw [Gov.writeFields, (Gov.rd_putW1c hn _ w mask f).2 hf, if_neg (by simp [hacc]), dirty,
    (Gov.rd_putRw hn _ w mask _ f).2 hf]
  exact ite_of_iff (by simp [hacc])

/-- Where the write acts at once, an RW field takes the bits that the mask reaches. -/
theorem Gov.rd_writeFields_direct {f : Fld} (hf : f ∈ b.fieldsAt o) (hacc : f.acc = .rw) (ho : o ≠ 0x2050) :
    (g.writeFields (b.fieldsAt o) o w mask 0).rd f
      = f.take (g.rd f) w mask := by
  rw [Gov.rd_writeFields_rw g w mask 0 hf hacc ho, Gov.routed_direct]
  exact ite_of_iff (and_iff_left (Or.inl rfl))

/-- A W1C field loses the bits that are written as 1 (R9). -/
theorem Gov.rd_writeFields_w1c {f : Fld} (hf : f ∈ b.fieldsAt o) (hacc : f.acc = .w1c) (hh : f.hit mask = true)
    (hr : reachesRet (b.fieldsAt o) mask = false) :
    (g.writeFields (b.fieldsAt o) o w mask 0).rd f
      = mergeBits f.len (g.rd f) 0 (Nat.land (f.of w) (f.of mask)) := by
  have hn := (b.fieldsAt_spec o).2
  rw [Gov.writeFields, (Gov.rd_putW1c hn _ w mask f).2 hf, if_pos ⟨hacc, hh⟩, if_neg (by simp [hr]),
    (Gov.rd_putRw hn _ w mask _ f).2 hf, if_neg (by simp [hacc]), Gov.routed_direct]
end Fields

/-! ## The row -/

/-- The governor with the access of `port` to the register at `o` noted and answered. -/
def Gov.accessed (g : Gov) (port o : Nat) : Gov :=
  let t := ((g.respond port 0 0).touch port).openFor o
  { t with recr := { t.recr with cause := port } }

theorem Gov.accessed_regs (g : Gov) (port o : Nat) : (g.accessed port o).regs = g.regs := by simp [Gov.accessed]

theorem Gov.accessed_gtime (g : Gov) (port o : Nat) : (g.accessed port o).gtime = g.gtime := by simp [Gov.accessed]

theorem Gov.accessed_hrs (g : Gov) (port o : Nat) : (g.accessed port o).io.hrs = mput g.io.hrs port {} := by
  simp [Gov.accessed]

theorem Gov.accessed_shadow (g : Gov) (port o : Nat) : (g.accessed port o).cfg.shadow = g.cfg.shadow := by
  simp [Gov.accessed]

theorem Gov.accessed_quiet {g : Gov} (hq : g.quiet) (port o : Nat) : (g.accessed port o).quiet := by
  simpa [Gov.accessed] using hq

theorem Gov.rd_accessed (g : Gov) (port o : Nat) (f : Fld) : (g.accessed port o).rd f = g.rd f := by
  rw [Gov.rd, Gov.accessed_regs, Gov.rd]

theorem Gov.staged_accessed (g : Gov) (port o : Nat) (f : Fld) : (g.accessed port o).staged f = g.staged f := by
  rw [Gov.staged, Gov.accessed_shadow, Gov.staged]

theorem Gov.route_accessed (g : Gov) (port o : Nat) : (g.accessed port o).route port = g.route port := by
  unfold Gov.route Gov.committing Gov.rd
  rw [Gov.accessed_regs]

/-- The fields of a silent register after a write of it by `port`. -/
def Gov.written (g : Gov) (b : Build) (port o d mask : Nat) : Gov :=
  (g.accessed port o).writeFields (b.fieldsAt o) o d mask
    (if reachesRet (b.fieldsAt o) mask then (g.accessed port o).route port else 0)

theorem Gov.sameRest_written (g : Gov) (b : Build) (port o d mask : Nat) :
    (g.accessed port o).sameRest (g.written b port o d mask) := Gov.sameRest_writeFields _ _ _ _ _ _

theorem Gov.written_gtime (g : Gov) (b : Build) (port o d mask : Nat) : (g.written b port o d mask).gtime = g.gtime :=
  (Gov.sameRest_gtime (g.sameRest_written b port o d mask)).trans (g.accessed_gtime port o)

/-- The response to a write is empty. -/
theorem Gov.written_hrs (g : Gov) (b : Build) (port o d mask : Nat) :
    mget {} (g.written b port o d mask).io.hrs port = {} := by
  rw [Gov.sameRest_io (g.sameRest_written b port o d mask), Gov.accessed_hrs]
  exact mget_mput_same _ _ _ _

theorem Gov.written_quiet {g : Gov} (hq : g.quiet) (b : Build) (port o d mask : Nat) :
    (g.written b port o d mask).quiet :=
  Gov.sameRest_quiet (g.sameRest_written b port o d mask) (Gov.accessed_quiet hq port o)

section Written
variable {b : Build} {port o d mask : Nat} {g : Gov}

theorem Gov.written_of_ret (h : reachesRet (b.fieldsAt o) mask = true) :
    g.written b port o d mask = (g.accessed port o).writeFields (b.fieldsAt o) o d mask (g.route port) := by
  rw [Gov.written, if_pos h, Gov.route_accessed]

theorem Gov.written_direct (h : reachesRet (b.fieldsAt o) mask = true → g.route port = 0) :
    g.written b port o d mask = (g.accessed port o).writeFields (b.fieldsAt o) o d mask 0 := by
  rw [Gov.written, Gov.route_accessed]
  split
  · rw [h ‹_›]
  · rfl

theorem Gov.rd_written_direct (h : reachesRet (b.fieldsAt o) mask = true → g.route port = 0) {f : Fld}
    (hf : f ∈ b.fieldsAt o) (hacc : f.acc = .rw) (ho : o ≠ 0x2050) :
    (g.written b port o d mask).rd f = f.take (g.rd f) d mask := by
  rw [Gov.written_direct h, Gov.rd_writeFields_direct _ _ _ hf hacc ho, Gov.rd_accessed]
end Written

theorem regWriteDo_silent {o : Nat} (h : Silent o) (b : Build) (port d mask : Nat) (g : Gov) :
    (regWriteDo b port o d mask (b.fieldsAt o) (((g.respond port 0 0).touch port).openFor o)).1
      = { g.written b port o d mask with
          recr := { (g.written b port o d mask).recr with cause := g.recr.cause } } := by
  unfold regWriteDo
  dsimp only
  rw [regWriteAct_silent h]
  rfl

theorem portWrite_silent {b : Build} {port off w o d : Nat} {wide : Bool} {g : Gov} (hl : g.live = true) (h : Silent o)
    (ho : off / 8 * 8 = o) (hlt : o < 0x40000)
    (hd : d = accData off w wide)
    (hc : reachesRet (b.fieldsAt o) (accMask off wide) = true → g.cfg.copyAt = none) :
    portWrite b port off w wide g = { g.written b port o d (accMask off wide) with
      recr := { (g.written b port o d (accMask off wide)).recr with cause := g.recr.cause } } := by
  have hw := regWrite_silent h (b := b) (port := port) (w := d) (mask := accMask off wide) (g := g.respond port 0 0) hl hc
  rw [portWrite, if_pos hl]
  rw [accData] at hd
  simp only [ho, h.mbxOf, if_pos hlt, ← hd]
  rw [hw]
  exact regWriteDo_silent h b port d (accMask off wide) g

/-- A write of a silent register completes; its fields, and the shadow, are what `Gov.written` says. -/
theorem State.registerWrite_silent {s : State} {port off w o d : Nat} {wide : Bool} (hl : s.gov.live = true)
    (hq : s.gov.quiet) (h : Silent o) (ho : off / 8 * 8 = o) (hlt : o < 0x40000)
    (hd : d = accData off w wide)
    (hc : reachesRet (s.build.fieldsAt o) (accMask off wide) = true → s.gov.cfg.copyAt = none) :
    ∃ t, exec (.registerWrite port off w wide) s = .next t ∧ t.mem = s.mem ∧ mget {} t.gov.io.hrs port = {}
      ∧ t.gov.gtime = s.gov.gtime
      ∧ (∀ f, t.gov.rd f = (s.gov.written s.build port o d (accMask off wide)).rd f)
      ∧ ∀ f, t.gov.staged f = (s.gov.written s.build port o d (accMask off wide)).staged f := by
  have hw := portWrite_silent (b := s.build) (port := port) hl h ho hlt hd hc
  have hs : (portWrite s.build port off w wide s.gov).settled s.build = portWrite s.build port off w wide s.gov :=
    Gov.settled_quiet (by rw [hw]; exact Gov.written_quiet hq s.build port o d _) _
  obtain ⟨hrd, hhrs, hcfg, ht⟩ := State.apply_same_time (s := s)
    (f := fun b _ g => (portWrite b port off w wide g).settled b)
    (by rw [hs, hw]; exact s.gov.written_gtime _ _ _ _ _)
  rw [hs, hw] at hhrs hcfg
  refine ⟨_, rfl, rfl, ?_, ht, fun f => ?_, fun f => ?_⟩
  · exact (congrArg (mget {} · port) hhrs).trans (s.gov.written_hrs _ _ _ _ _)
  · refine (hrd f).trans ?_
    rw [hs, hw]
    rfl
  · exact congrArg (fun c : CfgState => mget f.rst c.shadow f.key) hcfg

/-! ## The route of a write's retained fields -/

theorem Gov.route_of_closed {g : Gov} (h : g.rd F.CFG_STAT_STATE = 0) (port : Nat) : g.route port = 0 := by
  simp [Gov.route, Gov.committing, h]

theorem Gov.route_of_open {g : Gov} (h : g.rd F.CFG_STAT_STATE = 1) (port : Nat) :
    g.route port = if g.rd F.CFG_STAT_OWNER = port then 1 else 0x30 := by
  simp [Gov.route, Gov.committing, h]

theorem Gov.route_of_committing {g : Gov} (h : g.committing = true) (port : Nat) : g.route port = 0x11 := by
  simp [Gov.route, h]

/-- A retained field that does not act at once keeps its live value (R364, R366). -/
theorem Gov.rd_writeFields_held {b : Build} {o rt : Nat} (g : Gov) (w mask : Nat) {f : Fld} (hf : f ∈ b.fieldsAt o)
    (hret : f.isRet = true) (ho : o ≠ 0x2050) (hr : railReg o = none) (h : rt ≠ 0) :
    (g.writeFields (b.fieldsAt o) o w mask rt).rd f = g.rd f := by
  have hacc : f.acc = .rw := by
    simp only [Fld.isRet, Bool.and_eq_true, beq_iff_eq] at hret
    exact hret.1
  rw [Gov.rd_writeFields_rw g w mask rt hf hacc ho, if_neg (by simp [h, hret])]
  rcases Nat.lt_or_ge 1 rt with h1 | h1
  · rw [Gov.routed_discard _ _ _ _ hr h1]
    exact g.rd_wr_ne 1 (Build.key_ne_of_mem hf (by decide) ho.symm)
  · obtain rfl : rt = 1 := by omega
    rw [Gov.routed_shadow, Gov.rd_putShadow]

/-- Retained fields that are discarded set REFUSED (R364, R366). -/
theorem Gov.refused_writeFields {b : Build} {o rt : Nat} (g : Gov) (w mask : Nat) (ho : o ≠ 0x2050)
    (hr : railReg o = none) (h : 1 < rt) : (g.writeFields (b.fieldsAt o) o w mask rt).rd F.CFG_STAT_REFUSED = 1 := by
  rw [Gov.rd_writeFields_other _ _ _ _ (by decide) ho.symm, if_neg (by omega), Gov.routed_discard _ _ _ _ hr h,
    Gov.rd_wr_same]
  rfl

/-! ## Configuration registers whose rows give no further effect -/

/-- The configuration registers whose rows give a write no effect beyond their fields. -/
abbrev plainConfig : List Nat :=
  offsets 0x4800 8 16 ++ offsets 0x4880 8 16 ++ offsets 0x16440 8 8 ++ [0x2010, 0x2020, 0x10000, 0x10008, 0x10020,
    0x12010, 0x12110, 0x12200, 0x14000, 0x14008, 0x14010, 0x14040, 0x16500, 0x16508]

theorem silent_of_plainConfig : ∀ o ∈ plainConfig, Silent o ∧ o % 8 = 0 ∧ o < 0x40000 := by decide

theorem regFind_plainConfig : ∀ o ∈ plainConfig,
    (regFind o).all (fun e => (e.1.at e.2).all (·.acc == .rw)) = true := by decide +kernel

theorem Gov.rd_written_plainConfig {g : Gov} (hs : g.noStage) {o : Nat} (ho : o ∈ plainConfig) {b : Build} {f : Fld}
    (hf : f ∈ b.fieldsAt o) (port d mask : Nat) :
    (g.written b port o d mask).rd f = f.take (g.rd f) d mask :=
  Gov.rd_written_direct (fun _ => Gov.route_of_closed hs.1 port) hf (Build.fieldsAt_rw (regFind_plainConfig o ho) f hf)
    (silent_of_plainConfig o ho).1.ne_cfgStat

theorem accData_eq {off w o d : Nat} {wide : Bool} (h8 : o % 8 = 0) (hoff : off = o ∨ off = o + 4 ∧ wide = false)
    (hw : w < (if wide then 2 ^ 64 else 2 ^ 32)) (hd : d = (if off = o then w else w * 2 ^ 32)) :
    d = accData off w wide := by
  rw [accData]
  rcases hoff with rfl | ⟨rfl, rfl⟩
  · rw [if_pos rfl] at hd
    cases wide
    · rw [if_neg Bool.false_ne_true] at hw
      rw [hd, if_neg Bool.false_ne_true, if_neg (by omega), Nat.mod_eq_of_lt hw]
    · rw [hd, if_pos rfl]
  · rw [if_neg Bool.false_ne_true] at hw
    rw [hd, if_neg (by omega), if_neg Bool.false_ne_true, if_pos (by omega), Nat.mod_eq_of_lt hw]

/-! ## MBX_TO -/

theorem Build.fieldsAt_mbxTo (b : Build) : b.fieldsAt 0x2010 = [F.MBX_TO_PKT_TO, F.MBX_TO_RPL_TO, F.MBX_TO_EXE_TO] :=
  b.fieldsAt_always (by decide +kernel)

/-- What the three timeouts take from a write of `w` to MBX_TO. -/
theorem mbxTo_take {off w : Nat} {wide : Bool} (hoff : off = 0x2010 ∨ off = 0x2014 ∧ wide = false) (x : Nat) :
    F.MBX_TO_PKT_TO.take x (accData off w wide) (accMask off wide) = (if off = 0x2010 then bits w 0 16 else x)
    ∧ F.MBX_TO_RPL_TO.take x (accData off w wide) (accMask off wide) = (if off = 0x2010 then bits w 16 16 else x)
    ∧ F.MBX_TO_EXE_TO.take x (accData off w wide) (accMask off wide)
        = (if wide then bits w 32 16 else if off = 0x2014 then bits w 0 16 else x) := by
  match off, wide, hoff with
  | _, true, .inl rfl =>
    exact ⟨Fld.take_wide (by decide) (by decide) _ _ _, Fld.take_wide (by decide) (by decide) _ _ _,
      Fld.take_wide (by decide) (by decide) _ _ _⟩
  | _, false, .inl rfl =>
    exact ⟨Fld.take_lower _ _ (by decide) (by decide) (by decide), Fld.take_lower _ _ (by decide) (by decide) (by decide),
      Fld.take_lower_none _ _ (by decide) (by decide)⟩
  | _, _, .inr ⟨rfl, rfl⟩ =>
    exact ⟨Fld.take_upper_none _ _ (by decide) (by decide), Fld.take_upper_none _ _ (by decide) (by decide),
      Fld.take_upper _ _ (by decide) (by decide) (by decide) (by decide)⟩

/-- Every write of MBX_TO reaches a retained field. -/
theorem mbxTo_reachesRet (b : Build) {off : Nat} {wide : Bool} (hoff : off = 0x2010 ∨ off = 0x2014 ∧ wide = false) :
    reachesRet (b.fieldsAt 0x2010) (accMask off wide) = true := by
  rw [b.fieldsAt_mbxTo]
  match off, wide, hoff with
  | _, true, .inl rfl => decide
  | _, false, .inl rfl => decide
  | _, _, .inr ⟨rfl, rfl⟩ => decide

theorem Build.mem_fieldsAt_mbxTo (b : Build) : F.MBX_TO_PKT_TO ∈ b.fieldsAt 0x2010 ∧ F.MBX_TO_RPL_TO ∈ b.fieldsAt 0x2010
    ∧ F.MBX_TO_EXE_TO ∈ b.fieldsAt 0x2010 := by
  rw [b.fieldsAt_mbxTo]
  decide

section MbxTo
variable {b : Build} {g : Gov} {port off w d : Nat} {wide : Bool}

/-- R364: with no stage open the timeouts take the write, and DIRTY is set. -/
theorem Gov.written_mbxTo_closed (hoff : off = 0x2010 ∨ off = 0x2014 ∧ wide = false)
    (h0 : g.rd F.CFG_STAT_STATE = 0) :
    let t := g.written b port 0x2010 (accData off w wide) (accMask off wide)
    t.rd F.CFG_STAT_DIRTY = 1
      ∧ t.rd F.MBX_TO_PKT_TO = (if off = 0x2010 then bits w 0 16 else g.rd F.MBX_TO_PKT_TO)
      ∧ t.rd F.MBX_TO_RPL_TO = (if off = 0x2010 then bits w 16 16 else g.rd F.MBX_TO_RPL_TO)
      ∧ t.rd F.MBX_TO_EXE_TO
          = (if wide then bits w 32 16 else if off = 0x2014 then bits w 0 16 else g.rd F.MBX_TO_EXE_TO) := by
  obtain ⟨pkt, rpl, exe⟩ := b.mem_fieldsAt_mbxTo
  have rt : reachesRet (b.fieldsAt 0x2010) (accMask off wide) = true → g.route port = 0 :=
    fun _ => Gov.route_of_closed h0 port
  refine ⟨?_, (Gov.rd_written_direct rt pkt rfl (by decide)).trans (mbxTo_take hoff _).1,
    (Gov.rd_written_direct rt rpl rfl (by decide)).trans (mbxTo_take hoff _).2.1,
    (Gov.rd_written_direct rt exe rfl (by decide)).trans (mbxTo_take hoff _).2.2⟩
  rw [Gov.written_direct rt, Gov.rd_writeFields_other _ _ _ _ (by decide) (by decide),
    if_pos ⟨mbxTo_reachesRet b hoff, rfl, rfl⟩]

/-- Where the write does not act at once, each timeout keeps its live value. -/
theorem Gov.rd_written_mbxTo_held (hret : reachesRet (b.fieldsAt 0x2010) (accMask off wide) = true)
    (hrt : g.route port ≠ 0) {f : Fld} (hf : f ∈ b.fieldsAt 0x2010) (hr : f.isRet = true) :
    (g.written b port 0x2010 d (accMask off wide)).rd f = g.rd f := by
  rw [Gov.written_of_ret hret, Gov.rd_writeFields_held _ _ _ hf hr (by decide) rfl hrt, Gov.rd_accessed]

/-- R364: the owner's write of an open stage goes to the shadow, another port's is discarded with REFUSED. -/
theorem Gov.written_mbxTo_open (hoff : off = 0x2010 ∨ off = 0x2014 ∧ wide = false)
    (h1 : g.rd F.CFG_STAT_STATE = 1) :
    let t := g.written b port 0x2010 (accData off w wide) (accMask off wide)
    t.rd F.MBX_TO_PKT_TO = g.rd F.MBX_TO_PKT_TO ∧ t.rd F.MBX_TO_EXE_TO = g.rd F.MBX_TO_EXE_TO
      ∧ (g.rd F.CFG_STAT_OWNER = port → off = 0x2010 → t.staged F.MBX_TO_PKT_TO = bits w 0 16)
      ∧ (g.rd F.CFG_STAT_OWNER ≠ port → t.rd F.CFG_STAT_REFUSED = 1
          ∧ t.staged F.MBX_TO_PKT_TO = g.staged F.MBX_TO_PKT_TO) := by
  have hret := mbxTo_reachesRet b hoff
  obtain ⟨pkt, -, exe⟩ := b.mem_fieldsAt_mbxTo
  have rt := Gov.route_of_open h1 port
  have hrt : g.route port ≠ 0 := by
    rw [rt]
    split <;> decide
  refine ⟨Gov.rd_written_mbxTo_held hret hrt pkt rfl, Gov.rd_written_mbxTo_held hret hrt exe rfl,
    fun hown hlow => ?_, fun hown => ?_⟩
  · rw [if_pos hown] at rt
    rw [Gov.written_of_ret hret, rt, Gov.staged_writeFields, Gov.routed_shadow,
      Gov.staged_putShadow (b.fieldsAt_spec _).2 _ _ _ pkt]
    exact (ite_of_iff (and_iff_right rfl)).trans ((mbxTo_take hoff _).1.trans (if_pos hlow))
  · rw [if_neg hown] at rt
    rw [Gov.written_of_ret hret, rt, Gov.refused_writeFields _ _ _ (by decide) rfl (by decide),
      Gov.staged_writeFields, Gov.routed_discard _ _ _ _ rfl (by decide), Gov.staged_wr, Gov.staged_accessed]
    exact ⟨rfl, rfl⟩

/-- R366: during a validation or a commit the write is discarded with REFUSED. -/
theorem Gov.written_mbxTo_committing (hret : reachesRet (b.fieldsAt 0x2010) (accMask off wide) = true)
    (hc : g.committing = true) :
    let t := g.written b port 0x2010 d (accMask off wide)
    t.rd F.CFG_STAT_REFUSED = 1 ∧ t.rd F.MBX_TO_PKT_TO = g.rd F.MBX_TO_PKT_TO
      ∧ t.rd F.MBX_TO_RPL_TO = g.rd F.MBX_TO_RPL_TO ∧ t.rd F.MBX_TO_EXE_TO = g.rd F.MBX_TO_EXE_TO := by
  obtain ⟨pkt, rpl, exe⟩ := b.mem_fieldsAt_mbxTo
  have rt := Gov.route_of_committing hc port
  have hrt : g.route port ≠ 0 := by
    rw [rt]
    decide
  refine ⟨?_, Gov.rd_written_mbxTo_held hret hrt pkt rfl, Gov.rd_written_mbxTo_held hret hrt rpl rfl,
    Gov.rd_written_mbxTo_held hret hrt exe rfl⟩
  rw [Gov.written_of_ret hret, rt, Gov.refused_writeFields _ _ _ (by decide) rfl (by decide)]
end MbxTo

/-! ## MIR_ADDR and SVC_CAUSE -/

theorem Build.fieldsAt_mirAddr (b : Build) : b.fieldsAt 0x2020 = [F.MIR_ADDR_ADDR] := b.fieldsAt_always (by decide +kernel)

theorem Build.fieldsAt_svcCause (b : Build) : b.fieldsAt 0x14038 = [F.SVC_CAUSE_CAUSE] :=
  b.fieldsAt_always (by decide +kernel)

theorem mirAddr_reachesRet (b : Build) (mask : Nat) : reachesRet (b.fieldsAt 0x2020) mask = false := by
  rw [b.fieldsAt_mirAddr]
  rfl

theorem svcCause_reachesRet (b : Build) (mask : Nat) : reachesRet (b.fieldsAt 0x14038) mask = false := by
  rw [b.fieldsAt_svcCause]
  rfl

/-- MIR_ADDR is not retained: it takes the write whatever the stage, and DIRTY stays. -/
theorem Gov.written_mirAddr (b : Build) (g : Gov) (port w : Nat) :
    let t := g.written b port 0x2020 w maskAll
    t.rd F.MIR_ADDR_ADDR = bits w 4 52 ∧ t.rd F.CFG_STAT_DIRTY = g.rd F.CFG_STAT_DIRTY := by
  have hret := mirAddr_reachesRet b maskAll
  have hf : F.MIR_ADDR_ADDR ∈ b.fieldsAt 0x2020 := by
    rw [b.fieldsAt_mirAddr]
    decide
  have rt : reachesRet (b.fieldsAt 0x2020) maskAll = true → g.route port = 0 := by simp [hret]
  refine ⟨?_, ?_⟩
  · exact (Gov.rd_written_direct rt hf rfl (by decide)).trans
      (Fld.take_whole (by decide) (Fld.of_maskAll (by decide)) _ _)
  · rw [Gov.written_direct rt, Gov.rd_writeFields_other _ _ _ _ (by decide) (by decide), if_neg (by simp [hret]),
      Gov.routed_direct, Gov.rd_accessed]

/-- A 1 clears its bit of SVC_CAUSE, a 0 leaves it (R9). -/
theorem Gov.written_svcCause (b : Build) (g : Gov) (port w : Nat) {i : Nat} (hi : i < 16) :
    bit ((g.written b port 0x14038 w maskAll).rd F.SVC_CAUSE_CAUSE) i
      = (bit (g.rd F.SVC_CAUSE_CAUSE) i && !bit w i) := by
  have hret := svcCause_reachesRet b maskAll
  have hf : F.SVC_CAUSE_CAUSE ∈ b.fieldsAt 0x14038 := by
    rw [b.fieldsAt_svcCause]
    decide
  have hlen : F.SVC_CAUSE_CAUSE.len = 16 := rfl
  have hw : (F.SVC_CAUSE_CAUSE.of w).testBit i = w.testBit i := by
    rw [Fld.of, testBit_bits, hlen, decide_eq_true hi, Bool.true_and]
    rfl
  have ones : (Nat.land (F.SVC_CAUSE_CAUSE.of w) (2 ^ 16 - 1)).testBit i = w.testBit i := by
    refine (Nat.testBit_and _ _ i).trans ?_
    rw [hw, Nat.testBit_two_pow_sub_one, decide_eq_true hi, Bool.and_true]
  rw [bit_eq_testBit, bit_eq_testBit, bit_eq_testBit, Gov.written_direct (by simp [hret]),
    Gov.rd_writeFields_w1c _ _ _ hf rfl (by decide) hret, testBit_mergeBits, Fld.of_maskAll (by decide), hlen, ones,
    decide_eq_true hi, Gov.rd_accessed]
  simp

/-- Settles O46: each clause names a register that sets nothing off, so `State.registerWrite_silent` gives the next state,
and the lemmas above say what such a write leaves on each route. -/
theorem registerWrites : Obligations.RegisterWrites := by
  unfold Obligations.RegisterWrites
  refine ⟨?_, ?_, ?_, ?_⟩
  · intro s port off w o d wide hl hq hs ho hoff hw hd
    obtain ⟨h8, hlt⟩ := (silent_of_plainConfig o ho).2
    obtain ⟨t, ht, hmem, hhrs, htime, hrd, -⟩ := State.registerWrite_silent (port := port) hl hq
      (silent_of_plainConfig o ho).1 (by omega : off / 8 * 8 = o) hlt (accData_eq h8 hoff hw hd) (fun _ => hs.2)
    exact ⟨t, ht, hmem, hhrs, htime, fun f hf => (hrd f).trans (Gov.rd_written_plainConfig hs ho hf _ _ _)⟩
  · intro s port off w wide hl hq hc hoff _
    obtain ⟨t, ht, hmem, -, -, hrd, hst⟩ := State.registerWrite_silent (port := port) hl hq
      (by decide : Silent 0x2010) (by omega : off / 8 * 8 = 0x2010) (by decide) rfl (fun _ => hc)
    refine ⟨t, ht, hmem, ?_⟩
    simp only [hrd, hst]
    exact ⟨fun h0 _ => Gov.written_mbxTo_closed hoff h0, fun h1 _ => Gov.written_mbxTo_open hoff h1,
      fun hcom => Gov.written_mbxTo_committing (mbxTo_reachesRet _ hoff) hcom⟩
  · intro s port w hl hq _
    obtain ⟨t, ht, hmem, -, -, hrd, -⟩ := State.registerWrite_silent (port := port) (off := 0x2020) (w := w) (d := w)
      (wide := true) hl hq (by decide : Silent 0x2020) rfl (by decide) rfl (by simp [mirAddr_reachesRet])
    obtain ⟨haddr, hdirty⟩ := Gov.written_mirAddr s.build s.gov port w
    exact ⟨t, ht, hmem, (hrd _).trans haddr, (hrd _).trans hdirty⟩
  · intro s port w hl hq _
    obtain ⟨t, ht, hmem, -, -, hrd, -⟩ := State.registerWrite_silent (port := port) (off := 0x14038) (w := w) (d := w)
      (wide := true) hl hq (by decide : Silent 0x14038) rfl (by decide) rfl (by simp [svcCause_reachesRet])
    refine ⟨t, ht, hmem, fun i hi => ?_⟩
    rw [hrd]
    exact Gov.written_svcCause s.build s.gov port w hi

end Sys2Proof.Machine
end

section
/-! PROOFS. The always-on supplies and GOV_PORST_N, and the invariants at reset (R31, R32, R68, R494). -/

namespace Sys2Proof.Machine

/-! ## A row that leaves the governor without a running clock -/

/-- In reset no time passes, nothing latches, and the gates and requests of the bus are gone. -/
theorem State.apply_gov_of_not_live {s : State} {f : Build → List Host.Cell → Gov → Gov}
    (h : (f s.build s.mem s.gov).live = false) :
    (s.apply f).gov = { f s.build s.mem s.gov with bus := {} } := by
  rw [State.apply_gov]
  simp [Gov.passed, Gov.latch, Gov.wake, Gov.busAfter, h]

/-! ## What the three rows do to the governor and to the raw store bytes -/

theorem aonUp_of_down {g : Gov} (h : g.aon = false) :
    aonUp g = { fresh := g.fresh, st := { sats := g.st.sats }, hr := { links := g.keptLinks } } := by
  simp [aonUp, h]

section Loss
variable {vdd vdda ns : Nat} {g : Gov} (haon : g.aon = true) (hv : vdd < 600 ∨ vdda < 1500) (hns : 1000 ≤ ns)
include haon hv hns

theorem aonLoss_of_low : aonLoss vdd vdda ns g
    = { aon := false, fresh := g.fresh, st := { sats := g.keptSats }, hr := { links := g.keptLinks } } :=
  if_pos ⟨haon, hv, hns⟩

theorem aonLossMem_of_low (m : List Host.Cell) : aonLossMem vdd vdda ns g m = [] := by
  rw [aonLossMem, aonLoss_of_low haon hv hns]
  rfl
end Loss

section Pulse
variable {ns : Nat} {g : Gov} (haon : g.aon = true) (hp : g.porst = false) (hns : 5 ≤ ns)
include haon hp hns

/-- A pulse of 5 ns or more always resets (R68). -/
theorem porstAssert_of_long : porstAssert ns g = g.inReset := by
  simp [porstAssert, Gov.pulseResets, haon, hp, hns, Nat.not_lt.mpr hns]

theorem porstMem_of_long (m : List Host.Cell) : porstMem ns g m = [] := by
  simp [porstMem, Gov.pulseResets, haon, hp, hns]
end Pulse

/-! ## Registers through a reset pulse -/

/-- Always-on registers outlast the pulse, with STORE_MAP settled; every other takes its reset value (R31, R476). -/
theorem Gov.rd_inReset (g : Gov) (f : Fld) :
    g.inReset.rd f = if keyAlwaysOn f.key then g.mapsSettled.rd f else f.rst :=
  mget_filter_key f.rst keyAlwaysOn g.mapsSettled.regs f.key

theorem Gov.mapsSettled_of_none {g : Gov} (hc : g.store.copying = none) (hw : g.store.waits = []) :
    g.mapsSettled = g := by
  simp [Gov.mapsSettled, hc, hw]

section Maps
variable {f : Fld} (hf : ∀ k, f.key ≠ (F.STORE_MAP_PHYS k).key ∧ f.key ≠ (F.STORE_MAP_COPY k).key
  ∧ f.key ≠ (F.STORE_MAP_FUNC k).key)
include hf

/-- The remapping of a bank reaches STORE_MAP alone. -/
theorem Gov.rd_mapOver_of_ne (g : Gov) (k h : Nat) : (g.mapOver k h).rd f = g.rd f := by
  obtain ⟨physK, copyK, -⟩ := hf k
  obtain ⟨physH, copyH, funcH⟩ := hf h
  rw [Gov.mapOver, Gov.goDark, Gov.rd_wr_ne _ _ copyH, Gov.rd_wr_ne _ _ funcH, Gov.rd_wr_ne _ _ physH,
    Gov.rd_wr_ne _ _ copyK, Gov.rd_wr_ne _ _ physK]

theorem Gov.rd_mapsSettled_of_ne (g : Gov) : g.mapsSettled.rd f = g.rd f := by
  have fold : ∀ (l : List (Nat × Nat)) (g : Gov), (l.foldl (fun g e => g.mapOver e.1 e.2) g).rd f = g.rd f := by
    intro l
    induction l with
    | nil => exact fun _ => rfl
    | cons e l ih => exact fun g => (ih _).trans (g.rd_mapOver_of_ne hf e.1 e.2)
  exact fold _ g
end Maps

/-! ## The rows -/

/-- R494: the always-on supplies rise, with every register at its reset value. -/
theorem State.alwaysOnPowerUp_next {s : State} (h : s.gov.aon = false) :
    ∃ t, exec .alwaysOnPowerUp s = .next t ∧ t.gov.aon = true ∧ t.gov.porst = true ∧ t.gov.gclk = false
      ∧ t.gov.cold = true ∧ (∀ f, t.gov.rd f = f.rst) ∧ t.mem = s.mem := by
  have hgov := State.apply_gov_of_not_live (s := s) (f := fun _ _ g => aonUp g) (by simp [aonUp_of_down h, Gov.live])
  simp only [aonUp_of_down h] at hgov
  refine ⟨_, rfl, ?_⟩
  rw [hgov]
  exact ⟨rfl, rfl, rfl, rfl, fun _ => rfl, rfl⟩

/-- R494: a supply below its limit for 1 µs loses every register and every store byte. -/
theorem State.alwaysOnSupplyLoss_next {s : State} {vdd vdda ns : Nat} (haon : s.gov.aon = true)
    (hv : vdd < 600 ∨ vdda < 1500) (hns : 1000 ≤ ns) :
    ∃ t, exec (.alwaysOnSupplyLoss vdd vdda ns) s = .next t ∧ t.gov.aon = false ∧ (∀ f, t.gov.rd f = f.rst)
      ∧ t.mem = [] := by
  have hl := aonLoss_of_low haon hv hns
  have hgov := State.apply_gov_of_not_live (s := s) (f := fun _ _ g => aonLoss vdd vdda ns g) (by simp [hl, Gov.live])
  simp only [hl] at hgov
  refine ⟨_, rfl, ?_⟩
  rw [State.withMem_gov, hgov]
  exact ⟨rfl, fun _ => rfl, aonLossMem_of_low haon hv hns s.mem⟩

/-- R32: a reset pulse leaves the governor as `Gov.inReset` holds it, with its bus idle and no store byte listed. -/
theorem State.govPorstNAssert_next {s : State} {ns : Nat} (haon : s.gov.aon = true) (hp : s.gov.porst = false)
    (hns : 5 ≤ ns) :
    ∃ t, exec (.govPorstNAssert ns) s = .next t ∧ t.gov = { s.gov.inReset with bus := {} } ∧ t.mem = [] := by
  have hl := porstAssert_of_long haon hp hns
  have hgov := State.apply_gov_of_not_live (s := s) (f := fun _ _ g => porstAssert ns g)
    (by simp [hl, Gov.live, Gov.inReset])
  simp only [hl] at hgov
  exact ⟨_, rfl, hgov, porstMem_of_long haon hp hns s.mem⟩

/-- Settles O1: each of the three rows leaves the governor without a running clock, so it is what the row's own change
leaves; after a pulse the register file is the always-on part of the file with STORE_MAP settled. -/
theorem suppliesAndReset : Obligations.SuppliesAndReset := by
  unfold Obligations.SuppliesAndReset
  refine ⟨fun s h => State.alwaysOnPowerUp_next h,
    fun s vdd vdda ns haon hv hns => State.alwaysOnSupplyLoss_next haon hv hns, fun s ns haon hp hns => ?_⟩
  obtain ⟨t, ht, hgov, hmem⟩ := State.govPorstNAssert_next haon hp hns
  have hkept : ∀ f, keyAlwaysOn f.key = true → s.gov.inReset.rd f = s.gov.mapsSettled.rd f :=
    fun f hf => (s.gov.rd_inReset f).trans (if_pos hf)
  refine ⟨t, ht, ?_⟩
  rw [hgov]
  refine ⟨rfl, rfl, rfl, rfl, rfl, hmem, fun f hf => ?_, fun hc hw f hf => ?_, fun f hf hne => ?_⟩
  · exact (s.gov.rd_inReset f).trans (if_neg (by simp [hf]))
  · exact (hkept f hf).trans (by rw [Gov.mapsSettled_of_none hc hw])
  · exact (hkept f hf).trans (s.gov.rd_mapsSettled_of_ne hne)

/-! ## The invariants at reset -/

/-- No command waits after reset. -/
theorem State.reset_queueOk : State.reset.queueOk := fun _ h => absurd h List.not_mem_nil

theorem Build.full_ok : Build.full.ok = true := by decide

/-- Settles O54: reset lists no store byte and no command, and takes the build at its greatest. -/
theorem resetMeetsTheInvariants : Obligations.ResetMeetsTheInvariants :=
  ⟨State.reset_memOk, State.reset_queueOk, rfl, Build.full_ok⟩

end Sys2Proof.Machine
end

section
/-! SUPPORT. What a row leaves of the parts that its change sets, and single bits of a field. -/

namespace Sys2Proof.Machine

/-! ## What a row leaves of the parts that its change sets -/

theorem State.apply_gclk (s : State) (f : Build → List Host.Cell → Gov → Gov) :
    (s.apply f).gov.gclk = (f s.build s.mem s.gov).gclk := by simp [State.apply_gov]

theorem State.apply_porst (s : State) (f : Build → List Host.Cell → Gov → Gov) :
    (s.apply f).gov.porst = (f s.build s.mem s.gov).porst := by simp [State.apply_gov]

theorem State.apply_gtime (s : State) (f : Build → List Host.Cell → Gov → Gov) :
    (s.apply f).gov.gtime = (f s.build s.mem s.gov).gtime := by simp [State.apply_gov]

theorem State.apply_clk (s : State) (f : Build → List Host.Cell → Gov → Gov) :
    (s.apply f).gov.clk = (f s.build s.mem s.gov).clk := by simp [State.apply_gov]

theorem State.apply_brg (s : State) (f : Build → List Host.Cell → Gov → Gov) :
    (s.apply f).gov.brg = (f s.build s.mem s.gov).brg := by simp [State.apply_gov]

theorem State.apply_rail (s : State) (f : Build → List Host.Cell → Gov → Gov) (n : Nat) :
    (s.apply f).gov.rail n = (f s.build s.mem s.gov).rail n := by simp [State.apply_gov, Gov.rail]

theorem State.apply_hrs (s : State) (f : Build → List Host.Cell → Gov → Gov) :
    (s.apply f).gov.io.hrs = (f s.build s.mem s.gov).io.hrs := by simp [State.apply_gov]

theorem State.apply_refReady (s : State) (f : Build → List Host.Cell → Gov → Gov) (j : Nat) :
    (s.apply f).gov.refReady j = (f s.build s.mem s.gov).refReady j := by
  rw [Gov.refReady, State.rd_apply s f (by decide), Gov.refReady]

/-! ## Bits of a field -/

theorem bit_mod {v n i : Nat} (h : i < n) : bit (v % 2 ^ n) i = bit v i := by
  rw [bit_eq_testBit, bit_eq_testBit, Nat.testBit_mod_two_pow, decide_eq_true h, Bool.true_and]

theorem bits_mod {v n lo len : Nat} (h : lo + len ≤ n) : bits (v % 2 ^ n) lo len = bits v lo len := by
  refine Nat.eq_of_testBit_eq fun i => ?_
  rw [testBit_bits, testBit_bits, Nat.testBit_mod_two_pow]
  by_cases hi : i < len
  · rw [decide_eq_true (by omega : i + lo < n), Bool.true_and]
  · rw [decide_eq_false hi, Bool.false_and, Bool.false_and]

/-- Adding a power of two whose bit is clear sets that bit alone. -/
theorem add_two_pow_eq_or {v i : Nat} (h : bit v i = false) : v + 2 ^ i = v ||| 2 ^ i := by
  have hmod : v / 2 ^ i % 2 = 0 := by
    rw [bit, beq_eq_false_iff_ne] at h
    omega
  have hlow : v % 2 ^ i < 2 ^ i := Nat.mod_lt _ (Nat.two_pow_pos i)
  have hpow : 2 ^ (i + 1) = 2 ^ i * 2 := Nat.pow_succ ..
  have hv : v = 2 ^ (i + 1) * (v / 2 ^ i / 2) + v % 2 ^ i := by
    rw [hpow, Nat.mul_assoc, Nat.mul_div_cancel' (Nat.dvd_of_mod_eq_zero hmod), Nat.div_add_mod]
  generalize v / 2 ^ i / 2 = a at hv
  generalize v % 2 ^ i = r at hv hlow
  have hor : 2 ^ i + r = 2 ^ i ||| r := by simpa using Nat.two_pow_add_eq_or_of_lt hlow 1
  rw [hv, Nat.add_assoc, Nat.add_comm r, Nat.two_pow_add_eq_or_of_lt (by omega), hor,
    Nat.two_pow_add_eq_or_of_lt (by omega), Nat.or_assoc, Nat.or_comm r]

theorem bit_or_two_pow (v i j : Nat) : bit (v ||| 2 ^ i) j = (bit v j || decide (i = j)) := by
  rw [bit_eq_testBit, bit_eq_testBit, Nat.testBit_or, Nat.testBit_two_pow]

theorem bit_withBit (v i j : Nat) : bit (withBit v i) j = (bit v j || decide (i = j)) := by
  unfold withBit
  split
  · next h =>
    by_cases hj : i = j
    · rw [← hj, h, Bool.true_or]
    · rw [decide_eq_false hj, Bool.or_false]
  · next h => rw [add_two_pow_eq_or (Bool.eq_false_iff.mpr h), bit_or_two_pow]

theorem bit_withoutBit (v i j : Nat) : bit (withoutBit v i) j = (bit v j && decide (i ≠ j)) := by
  unfold withoutBit
  split
  · next h =>
    have hle : 2 ^ i ≤ v := Nat.ge_two_pow_of_testBit (bit_eq_testBit v i ▸ h)
    have hv : 2 ^ i + (v - 2 ^ i) = v := by omega
    have hclear : bit (v - 2 ^ i) i = false := by
      have := Nat.testBit_two_pow_add_eq (v - 2 ^ i) i
      rw [hv, ← bit_eq_testBit, ← bit_eq_testBit, h] at this
      simpa using this.symm
    have hor : bit v j = (bit (v - 2 ^ i) j || decide (i = j)) := by
      rw [← bit_or_two_pow, ← add_two_pow_eq_or hclear, Nat.add_comm, hv]
    rw [hor]
    by_cases hj : i = j
    · subst hj
      simp [hclear]
    · simp [hj]
  · next h =>
    by_cases hj : i = j
    · subst hj
      simp [h]
    · simp [hj]

theorem Gov.bit_rd_setBit (g : Gov) (f : Fld) (i : Nat) {j : Nat} (h : j < f.len) :
    bit ((g.setBit f i).rd f) j = (bit (g.rd f) j || decide (i = j)) := by
  rw [Gov.setBit, Gov.rd_wr_same, bit_mod h, bit_withBit]

theorem Gov.bit_rd_clrBit (g : Gov) (f : Fld) (i : Nat) {j : Nat} (h : j < f.len) :
    bit ((g.clrBit f i).rd f) j = (bit (g.rd f) j && decide (i ≠ j)) := by
  rw [Gov.clrBit, Gov.rd_wr_same, bit_mod h, bit_withoutBit]

end Sys2Proof.Machine
end

section
/-! PROOFS. The release of reset, the first lock and the fuse identity (R76, R81, R88, R94, R102). -/

namespace Sys2Proof.Machine

/-! ## The release of reset -/

/-- R69, R81, R357: the release changes the clock's state, RSTCNT, and at a root the Hedgerow registers. -/
theorem porstDeassert_of_reset {g : Gov} (root : Bool) (haon : g.aon = true) (hp : g.porst = true) :
    (porstDeassert root g).porst = false ∧ (porstDeassert root g).clk.xoWait = true
      ∧ (porstDeassert root g).clk.hrRoot = root
      ∧ (porstDeassert root g).rd F.GOV_STAT_RSTCNT = (g.rd F.GOV_STAT_RSTCNT + 1) % 2 ^ 16 := by
  rw [porstDeassert, if_pos ⟨haon, hp⟩]
  cases root
  · exact ⟨rfl, rfl, rfl, Gov.rd_wr_same _ _ _⟩
  · refine ⟨rfl, rfl, rfl, ?_⟩
    refine (Gov.rd_wr_ne _ _ (by decide)).trans ((Gov.rd_wr_ne _ _ (by decide)).trans
      ((Gov.rd_wr_ne _ _ (by decide)).trans ((Gov.rd_wr_ne _ _ (by decide)).trans ?_)))
    exact Gov.rd_wr_same _ _ _

theorem xoDelayEnd_of_held {g : Gov} (haon : g.aon = true) (hp : g.porst = false) (hg : g.gclk = false) :
    xoDelayEnd g = { g with clk := { g.clk with xoWait := false } } := if_pos ⟨haon, hp, hg⟩

/-! ## The first lock -/

/-- R88, R94, R102: the first lock releases GCLK with GTIME at 0 and begins the Store stage. -/
theorem gpllLock_of_released {g : Gov} (haon : g.aon = true) (hp : g.porst = false) (hg : g.gclk = false)
    (hx : g.clk.xoWait = false) :
    (gpllLock g).gclk = true ∧ (gpllLock g).gtime = 0 ∧ (gpllLock g).stage = sSTORE
      ∧ (gpllLock g).rd F.REF_STAT_LOCK = 1 := by
  rw [gpllLock, if_pos ⟨haon, hp, hg, hx⟩]
  refine ⟨Gov.ev_gclk .., Gov.ev_gtime .., ?_, ?_⟩
  · rw [Gov.stage, Gov.rd_ev _ _ _ _ _ _ (by decide), Gov.rd_wr_same]
    rfl
  · rw [Gov.rd_ev _ _ _ _ _ _ (by decide), Gov.rd_wr_ne _ _ (by decide), Gov.rd_setBit _ _ (by decide), Gov.rd_wr_same]
    rfl

theorem Gov.storeSizes_gclk (g : Gov) : g.storeSizes.gclk = g.gclk := by
  unfold Gov.storeSizes
  dsimp only
  split <;> rfl

theorem Gov.storeSizes_gtime (g : Gov) : g.storeSizes.gtime = g.gtime := by
  unfold Gov.storeSizes
  dsimp only
  split <;> rfl

/-- The sizes of the store's functions stand in PL_STAT and in the recorder's registers. -/
theorem Gov.rd_storeSizes (g : Gov) {f : Fld} (hp : f.key ≠ F.PL_STAT_PLIM.key) (hr : f.key ≠ F.REC_HEAD_SLOTS.key)
    (ht : f.key ≠ F.TRC_CTL_GONE.key) (hh : f.key ≠ F.HIST_CTL_GONE.key) : g.storeSizes.rd f = g.rd f := by
  unfold Gov.storeSizes
  dsimp only
  rw [Gov.rd_wr_ite_ne _ _ _ hh, Gov.rd_wr_ne _ _ ht, Gov.rd_wr_ne _ _ hr, Gov.rd_wr_ne _ _ hp]
  rfl

/-- The first lock as the row makes it: the sizes and budgets leave the clocks and the stage alone. -/
theorem firstLock_of_released {b : Build} {g : Gov} (hb : b.ok = true) (haon : g.aon = true) (hp : g.porst = false)
    (hg : g.gclk = false) (hx : g.clk.xoWait = false) :
    (firstLock b g).gclk = true ∧ (firstLock b g).gtime = 0 ∧ (firstLock b g).stage = sSTORE
      ∧ (firstLock b g).rd F.REF_STAT_LOCK = 1 := by
  obtain ⟨hgclk, htime, hstage, hlock⟩ := gpllLock_of_released haon hp hg hx
  have hfirst : firstLock b g = (gpllLock g).storeSizes.budApply b := by simp [firstLock, hg, hgclk]
  have hbud := Gov.budApply_only (rs := [(0xA200, 0xA2FF)]) [] b (gpllLock g).storeSizes hb (by decide)
  have hreg : ∀ f : Fld, f.lo < 64 → (∀ r ∈ [(0xA200, 0xA2FF)], f.off < r.1 ∨ r.2 < f.off) →
      f.key ≠ F.PL_STAT_PLIM.key → f.key ≠ F.REC_HEAD_SLOTS.key → f.key ≠ F.TRC_CTL_GONE.key →
      f.key ≠ F.HIST_CTL_GONE.key → (firstLock b g).rd f = (gpllLock g).rd f := by
    intro f hlo hr h1 h2 h3 h4
    rw [hfirst, Gov.onlyChanges_rd hbud f hlo hr, Gov.rd_storeSizes _ h1 h2 h3 h4]
  obtain ⟨-, -, hpower, -⟩ : Part.power.same (gpllLock g).storeSizes _ := hbud.1 .power (by decide)
  have hsame : Part.time.same (gpllLock g).storeSizes _ := hbud.1 .time (by decide)
  refine ⟨?_, ?_, ?_, ?_⟩
  · rw [hfirst, hpower, Gov.storeSizes_gclk, hgclk]
  · rw [hfirst, hsame, Gov.storeSizes_gtime, htime]
  · exact (hreg F.BRG_STAT_STAGE (by decide) (by decide) (by decide) (by decide) (by decide) (by decide)).trans hstage
  · exact (hreg F.REF_STAT_LOCK (by decide) (by decide) (by decide) (by decide) (by decide) (by decide)).trans hlock

/-! ## The fuse identity -/

section Fuse
variable {g : Gov} (haon : g.aon = true) (hp : g.porst = false) (hf : g.brg.fuseDone = false)
include haon hp hf

/-- R76: captures that agree, with even parity, are the identity. -/
theorem fuseCapture_of_valid {id1 id2 : Nat} {par : Bool} (ha : id1 % 2 ^ 77 = id2 % 2 ^ 77)
    (he : (popCount 77 (id1 % 2 ^ 77) + b2n par) % 2 = 0) :
    let t := fuseCapture id1 id2 par g
    t.brg.fuseDone = true ∧ t.rd F.HOST_POS_FSTAT = 1 ∧ t.rd F.HOST_LOT_LOT = id1 % 2 ^ 56
      ∧ t.rd F.HOST_POS_WAFER = bits id1 56 5 ∧ t.rd F.HOST_POS_X = bits id1 61 8 ∧ t.rd F.HOST_POS_Y = bits id1 69 8 := by
  have h : fuseCapture id1 id2 par g = _ := if_pos ⟨haon, hp, hf⟩
  simp only [fuseBits, beq_iff_eq.mpr ha, beq_iff_eq.mpr he, Bool.and_self, if_true] at h
  have whole : ∀ lo len, bits id1 lo len % 2 ^ len = bits id1 lo len := fun _ _ => Nat.mod_mod _ _
  simp only [h]
  refine ⟨rfl, Gov.rd_wr_same _ _ _, ?_, ?_, ?_, ?_⟩
  · rw [Gov.rd_wr_ne _ _ (by decide), Gov.rd_wr_ne _ _ (by decide), Gov.rd_wr_ne _ _ (by decide),
      Gov.rd_wr_ne _ _ (by decide), Gov.rd_wr_same, bits_mod (by decide)]
    exact (whole 0 56).trans (by rw [bits, Nat.pow_zero, Nat.div_one])
  · rw [Gov.rd_wr_ne _ _ (by decide), Gov.rd_wr_ne _ _ (by decide), Gov.rd_wr_ne _ _ (by decide), Gov.rd_wr_same,
      bits_mod (by decide)]
    exact whole 56 5
  · rw [Gov.rd_wr_ne _ _ (by decide), Gov.rd_wr_ne _ _ (by decide), Gov.rd_wr_same, bits_mod (by decide)]
    exact whole 61 8
  · rw [Gov.rd_wr_ne _ _ (by decide), Gov.rd_wr_same, bits_mod (by decide)]
    exact whole 69 8

/-- R76: captures that differ, or odd parity, make the identity invalid. -/
theorem fuseCapture_of_invalid {id1 id2 : Nat} {par : Bool}
    (h : ¬ (id1 % 2 ^ 77 = id2 % 2 ^ 77 ∧ (popCount 77 (id1 % 2 ^ 77) + b2n par) % 2 = 0)) :
    (fuseCapture id1 id2 par g).brg.fuseDone = true ∧ (fuseCapture id1 id2 par g).rd F.HOST_POS_FSTAT = 2 := by
  have hc : fuseCapture id1 id2 par g = _ := if_pos ⟨haon, hp, hf⟩
  have hno : ¬ ((id1 % 2 ^ fuseBits == id2 % 2 ^ fuseBits)
      && ((popCount fuseBits (id1 % 2 ^ fuseBits) + b2n par) % 2 == 0)) = true := by
    simpa [fuseBits] using h
  simp only [if_neg hno] at hc
  rw [hc, Gov.ev_brg, Gov.rd_ev _ _ _ _ _ _ (by decide), Gov.rd_wr_same]
  exact ⟨rfl, rfl⟩

theorem fuseTimeout_of_waiting :
    (fuseTimeout g).brg.fuseDone = true ∧ (fuseTimeout g).rd F.HOST_POS_FSTAT = 2 := by
  rw [fuseTimeout, if_pos ⟨haon, hp, hf⟩]
  dsimp only
  rw [Gov.ev_brg, Gov.rd_ev _ _ _ _ _ _ (by decide), Gov.rd_wr_same]
  exact ⟨rfl, rfl⟩
end Fuse

/-- Settles O2: a row leaves each of these parts and registers as its change does, and the lemmas above say what each change
does. -/
theorem clockAndFuses : Obligations.ClockAndFuses := by
  unfold Obligations.ClockAndFuses
  refine ⟨fun s root haon hp => ?_, fun s haon hp hg => ?_, fun s hb haon hp hg hx => ?_,
    fun s id1 id2 par haon hp hf => ?_, fun s haon hp hf => ?_⟩
  · obtain ⟨hporst, hwait, hroot, hcnt⟩ := porstDeassert_of_reset root haon hp
    refine ⟨_, rfl, (s.apply_porst _).trans hporst, ?_, ?_, (s.rd_apply _ (by decide)).trans hcnt⟩
    · exact (congrArg Clk.xoWait (s.apply_clk _)).trans hwait
    · exact (congrArg Clk.hrRoot (s.apply_clk _)).trans hroot
  · have hend := xoDelayEnd_of_held haon hp hg
    refine ⟨_, rfl, (congrArg Clk.xoWait (s.apply_clk _)).trans ?_, (s.apply_gclk _).trans ?_⟩
    · rw [hend]
    · rw [hend]
      exact hg
  · obtain ⟨hgclk, htime, hstage, hlock⟩ := firstLock_of_released hb haon hp hg hx
    exact ⟨_, rfl, (s.apply_gclk _).trans hgclk, (s.apply_gtime _).trans htime,
      (s.rd_apply _ (by decide)).trans hstage, (s.rd_apply _ (by decide)).trans hlock⟩
  · by_cases hok : id1 % 2 ^ 77 = id2 % 2 ^ 77 ∧ (popCount 77 (id1 % 2 ^ 77) + b2n par) % 2 = 0
    · obtain ⟨hdone, hstat, hlot, hwafer, hx, hy⟩ := fuseCapture_of_valid haon hp hf hok.1 hok.2
      rw [if_pos hok]
      exact ⟨_, rfl, (congrArg Brg.fuseDone (s.apply_brg _)).trans hdone, (s.rd_apply _ (by decide)).trans hstat,
        fun _ _ => ⟨(s.rd_apply _ (by decide)).trans hlot, (s.rd_apply _ (by decide)).trans hwafer,
          (s.rd_apply _ (by decide)).trans hx, (s.rd_apply _ (by decide)).trans hy⟩⟩
    · obtain ⟨hdone, hstat⟩ := fuseCapture_of_invalid haon hp hf hok
      rw [if_neg hok]
      exact ⟨_, rfl, (congrArg Brg.fuseDone (s.apply_brg _)).trans hdone, (s.rd_apply _ (by decide)).trans hstat,
        fun ha he => absurd ⟨ha, he⟩ hok⟩
  · obtain ⟨hdone, hstat⟩ := fuseTimeout_of_waiting haon hp hf
    exact ⟨_, rfl, (congrArg Brg.fuseDone (s.apply_brg _)).trans hdone, (s.rd_apply _ (by decide)).trans hstat⟩

end Sys2Proof.Machine
end

section
/-! PROOFS. Readiness and loss of the reference sources (R82, R83, R86, R87). -/

namespace Sys2Proof.Machine

/-! ## A source becomes ready, or ceases to be -/

/-- GTIME when source `j` becomes ready: the XO waits for the start delay that XO_DLY now selects (R82, R83). -/
def Gov.readyAt (g : Gov) (j : Nat) : Nat :=
  match (if j = 4 then g.clk.xoDownAt else none) with
  | none => g.gtime
  | some u => max g.gtime (u + xoNs (xoDelayCycles (g.rd F.XO_CTL_XO_DLY)))

theorem refSourceReady_of_unready {g : Gov} {j : Nat} (hl : g.live = true) (hj : j < 5) (hr : g.refReady j = false) :
    refSourceReady j g = { g.setBit F.REF_STAT_REF_RDY j with
      gtime := g.readyAt j
      clk := { g.clk with
        readySince := mput g.clk.readySince j (g.readyAt j)
        xoDownAt := if j = 4 then none else g.clk.xoDownAt } } := by
  rw [refSourceReady, if_pos ⟨hl, hj, hr⟩, Gov.readyAt]
  by_cases h4 : j = 4
  · simp only [if_pos h4]
    cases g.clk.xoDownAt <;> rfl
  · simp only [if_neg h4]
    rfl

theorem Gov.refReady_setBit (g : Gov) (j : Nat) {i : Nat} (hi : i < 5) :
    (g.setBit F.REF_STAT_REF_RDY j).refReady i = (g.refReady i || decide (j = i)) := g.bit_rd_setBit _ _ hi

theorem Gov.refReady_refDown (g : Gov) (j : Nat) {i : Nat} (hi : i < 5) :
    (g.refDown j).refReady i = (g.refReady i && decide (j ≠ i)) := by
  unfold Gov.refDown
  dsimp only
  split
  · exact g.bit_rd_clrBit F.REF_STAT_REF_RDY j hi
  · exact g.bit_rd_clrBit F.REF_STAT_REF_RDY j hi

theorem Gov.rd_refDown (g : Gov) (j : Nat) {f : Fld} (h : f.key ≠ F.REF_STAT_REF_RDY.key) :
    (g.refDown j).rd f = g.rd f := by
  unfold Gov.refDown
  dsimp only
  split
  · exact g.rd_clrBit j h
  · exact g.rd_clrBit j h

theorem refSourceUnready_of_other {g : Gov} {j : Nat} (hl : g.live = true) (hj : j < 5) (hr : g.refReady j = true)
    (hc : j ≠ g.rd F.REF_STAT_CUR) : refSourceUnready j g = g.refDown j := by
  rw [refSourceUnready, if_pos ⟨hl, hj, hr⟩, if_neg hc]

/-! ## The current source is lost -/

/-- The governor in holdover after the loss of the current source, before the choice of AUTO (R86). -/
def Gov.unlocked (g : Gov) : Gov :=
  let t := ((g.refDown (g.rd F.REF_STAT_CUR)).wr F.REF_STAT_HOLDOVER 1).wr F.REF_STAT_LOST 1
  { t with clk := { t.clk with switched := false } }.ev 0x9001 3 (g.rd F.REF_STAT_CUR) (g.rd F.REF_STAT_CUR) 0

theorem referenceLost_of_ready {g : Gov} (hl : g.live = true) (hr : g.refReady (g.rd F.REF_STAT_CUR) = true) :
    referenceLost g = g.unlocked.autoSwitch := by
  rw [referenceLost, if_pos ⟨hl, hr⟩, Gov.refLost]
  simp only [if_pos hr]
  rfl

theorem Gov.rd_unlocked (g : Gov) {f : Fld} (hlt : f.key < 0x16000 * 64) (hr : f.key ≠ F.REF_STAT_REF_RDY.key)
    (hh : f.key ≠ F.REF_STAT_HOLDOVER.key) (hlost : f.key ≠ F.REF_STAT_LOST.key) : g.unlocked.rd f = g.rd f := by
  refine (Gov.rd_ev _ _ _ _ _ _ hlt).trans ?_
  exact (Gov.rd_wr_ne _ _ hlost).trans ((Gov.rd_wr_ne _ _ hh).trans (g.rd_refDown _ hr))

theorem Gov.holdover_unlocked (g : Gov) : g.unlocked.rd F.REF_STAT_HOLDOVER = 1 := by
  refine (Gov.rd_ev _ _ _ _ _ _ (by decide)).trans ?_
  exact (Gov.rd_wr_ne _ _ (by decide)).trans (Gov.rd_wr_same _ _ _)

theorem Gov.lost_unlocked (g : Gov) : g.unlocked.rd F.REF_STAT_LOST = 1 :=
  (Gov.rd_ev _ _ _ _ _ _ (by decide)).trans (Gov.rd_wr_same _ _ _)

theorem Gov.refReady_unlocked (g : Gov) {i : Nat} (hi : i < 5) :
    g.unlocked.refReady i = (g.refReady i && decide (g.rd F.REF_STAT_CUR ≠ i)) := by
  have hrdy : g.unlocked.rd F.REF_STAT_REF_RDY = (g.refDown (g.rd F.REF_STAT_CUR)).rd F.REF_STAT_REF_RDY := by
    refine (Gov.rd_ev _ _ _ _ _ _ (by decide)).trans ?_
    exact (Gov.rd_wr_ne _ _ (by decide)).trans (Gov.rd_wr_ne _ _ (by decide))
  rw [Gov.refReady, hrdy]
  exact g.refReady_refDown _ hi

/-! ## The choice of AUTO -/

/-- The choice of AUTO reaches REFSEL.SRC and SWITCHING alone (R87). -/
theorem Gov.rd_autoSwitch (g : Gov) {f : Fld} (hs : f.key ≠ F.REFSEL_SRC.key) (hw : f.key ≠ F.REF_STAT_SWITCHING.key) :
    g.autoSwitch.rd f = g.rd f := by
  unfold Gov.autoSwitch
  split
  · split
    · exact (Gov.rd_wr_ne _ _ hw).trans (Gov.rd_wr_ne _ _ hs)
    · rfl
  · rfl

theorem Gov.autoSwitch_of_manual {g : Gov} (h : g.flag F.REFSEL_AUTO = false) : g.autoSwitch = g := by
  simp [Gov.autoSwitch, h]

/-- R87: the preferred source is chosen before any other. -/
theorem Gov.autoSwitch_of_preferred {g : Gov} (ha : g.flag F.REFSEL_AUTO = true)
    (hw : g.flag F.REF_STAT_SWITCHING = false) (hr : g.refReady (g.rd F.REFSEL_PREF) = true) :
    g.autoSwitch = g.startSwitch (g.rd F.REFSEL_PREF) := by
  have hchoice : g.autoChoice = some (g.rd F.REFSEL_PREF) := List.find?_cons_of_pos hr
  simp [Gov.autoSwitch, ha, hw, hchoice]

theorem Gov.rd_startSwitch (g : Gov) {j : Nat} (hj : j < 8) :
    (g.startSwitch j).rd F.REFSEL_SRC = j ∧ (g.startSwitch j).rd F.REF_STAT_SWITCHING = 1 := by
  refine ⟨(Gov.rd_wr_ne _ _ (by decide)).trans ((Gov.rd_wr_same _ _ _).trans ?_), Gov.rd_wr_same _ _ _⟩
  exact Nat.mod_eq_of_lt hj

/-- Settles O11: a source's row changes its bit of REF_RDY alone, and a loss is holdover followed by the choice of AUTO,
whose first candidate is the preferred source. -/
theorem referenceSources : Obligations.ReferenceSources := by
  unfold Obligations.ReferenceSources
  refine ⟨fun s j hl hj hr => ?_, fun s j hl hj hr hc => ?_, fun s hl hc hr => ?_⟩
  · have hrow := refSourceReady_of_unready hl hj hr
    have hready : ∀ i < 5, (s.apply fun _ _ g => refSourceReady j g).gov.refReady i
        = (s.gov.refReady i || decide (j = i)) := by
      intro i hi
      rw [s.apply_refReady, hrow]
      exact s.gov.refReady_setBit j hi
    have htime := (s.apply_gtime fun _ _ g => refSourceReady j g).trans (congrArg Gov.gtime hrow)
    have hclk := (s.apply_clk fun _ _ g => refSourceReady j g).trans (congrArg Gov.clk hrow)
    refine ⟨_, rfl, ?_, htime, ?_, fun i hi hne => ?_⟩
    · rw [hready j hj, decide_eq_true rfl, Bool.or_true]
    · rw [hclk, htime]
      exact mget_mput_same _ _ _ _
    · rw [hready i hi, decide_eq_false (Ne.symm hne), Bool.or_false]
  · have hrow := refSourceUnready_of_other hl hj hr hc
    have hreg : ∀ f : Fld, f.key ≠ F.SVC_CAUSE_CAUSE.key → f.key ≠ F.REF_STAT_REF_RDY.key →
        (s.apply fun _ _ g => refSourceUnready j g).gov.rd f = s.gov.rd f := by
      intro f hsvc hrdy
      rw [s.rd_apply _ hsvc, hrow, s.gov.rd_refDown j hrdy]
    refine ⟨_, rfl, ?_, hreg _ (by decide) (by decide), hreg _ (by decide) (by decide)⟩
    rw [s.apply_refReady, hrow, s.gov.refReady_refDown j hj]
    simp
  · have hrow := referenceLost_of_ready hl hr
    have hreg : ∀ f : Fld, f.key ≠ F.SVC_CAUSE_CAUSE.key →
        (s.apply fun _ _ g => referenceLost g).gov.rd f = s.gov.unlocked.autoSwitch.rd f := by
      intro f hsvc
      rw [s.rd_apply _ hsvc, hrow]
    have hauto : s.gov.unlocked.flag F.REFSEL_AUTO = s.gov.flag F.REFSEL_AUTO :=
      congrArg (· == 1) (s.gov.rd_unlocked (by decide) (by decide) (by decide) (by decide))
    refine ⟨_, rfl, ?_, ?_, ?_, fun ha hw hp hrp hne => ?_, fun ha => ?_⟩
    · rw [hreg _ (by decide), Gov.rd_autoSwitch _ (by decide) (by decide), Gov.holdover_unlocked]
    · rw [hreg _ (by decide), Gov.rd_autoSwitch _ (by decide) (by decide), Gov.lost_unlocked]
    · rw [Gov.refReady, hreg _ (by decide), Gov.rd_autoSwitch _ (by decide) (by decide)]
      refine (s.gov.refReady_unlocked hc).trans ?_
      simp
    · have hpref : s.gov.unlocked.rd F.REFSEL_PREF = s.gov.rd F.REFSEL_PREF :=
        s.gov.rd_unlocked (by decide) (by decide) (by decide) (by decide)
      have hsw : s.gov.unlocked.flag F.REF_STAT_SWITCHING = s.gov.flag F.REF_STAT_SWITCHING :=
        congrArg (· == 1) (s.gov.rd_unlocked (by decide) (by decide) (by decide) (by decide))
      have hready : s.gov.unlocked.refReady (s.gov.unlocked.rd F.REFSEL_PREF) = true := by
        rw [hpref, s.gov.refReady_unlocked (by omega), hrp, decide_eq_true hne.symm, Bool.and_self]
      rw [hreg _ (by decide), hreg _ (by decide),
        Gov.autoSwitch_of_preferred (hauto.trans ha) (hsw.trans hw) hready, hpref]
      exact Gov.rd_startSwitch _ (by omega)
    · rw [hreg _ (by decide), Gov.autoSwitch_of_manual (hauto.trans ha)]
      exact s.gov.rd_unlocked (by decide) (by decide) (by decide) (by decide)

end Sys2Proof.Machine
end

section
/-! PROOFS. Clock gates, GOV_CLKOUT and the reading of GTIME (R91, R93, R97). -/

namespace Sys2Proof.Machine

/-! ## Clock gates -/

/-- Opening the gates of other blocks leaves the gate of block `k` as it was. -/
theorem bit_foldl_withoutBit {p : Nat → Bool} {k : Nat} (hk : p k = false) (l : List Nat) (v : Nat) :
    bit (l.foldl (fun m j => if p j then withoutBit m j else m) v) k = bit v k := by
  induction l generalizing v with
  | nil => rfl
  | cons j l ih =>
    rw [List.foldl_cons, ih]
    split
    · next h =>
      have hne : j ≠ k := fun e => by simp [e, hk] at h
      rw [bit_withoutBit, decide_eq_true hne, Bool.and_true]
    · rfl

/-- A row leaves closed the gate of a block that did no work and has none. -/
theorem Gov.gate_busAfter {g t : Gov} (hl : g.live = true) (hlt : t.live = true) {k : Nat}
    (hg : bit t.bus.gates k = true) (hw : worked g t k = false) (hh : t.hasWork k = false) :
    bit (g.busAfter t).gates k = true := by
  have hne : t.bus.gates ≠ 0 := fun h => by simp [h, bit] at hg
  rw [Gov.busAfter, if_pos (by rw [hl, hlt, Bool.and_self])]
  simp only [if_neg hne]
  exact (bit_foldl_withoutBit (p := fun k => worked g t k || t.hasWork k) (by rw [hw, hh, Bool.or_self]) _ _).trans hg

/-- The governor with the gate of block `k` closed. -/
def Gov.gateClosed (g : Gov) (k : Nat) : Gov := { g with bus := { g.bus with gates := withBit g.bus.gates k } }

theorem clockGateClose_of_idle {g : Gov} {k : Nat} (hl : g.live = true) (hk : k < 12)
    (hd : bit (g.rd F.CLKGATE_CTL_DIS) k = false) (hw : g.hasWork k = false) :
    clockGateClose k false g = g.gateClosed k := if_pos ⟨hl, hk, rfl, hd, hw⟩

/-- The closing of a gate is no work of a block, nor is the latching of PMBus bits (R91). -/
theorem worked_gateClosed {g : Gov} (j : Nat) {i : Io} (hi : i.hrs = g.io.hrs) (k : Nat) :
    worked g { g.gateClosed j with io := i } k = false := by
  unfold worked
  split <;> simp [Gov.gateClosed, hi]

/-- R91: the gate of an idle block closes, and the row itself does not open it. -/
theorem State.gate_clockGateClose {s : State} {k : Nat} (hl : s.gov.live = true) (hk : k < 12)
    (hd : bit (s.gov.rd F.CLKGATE_CTL_DIS) k = false) (hw : s.gov.hasWork k = false) :
    bit (s.apply fun _ _ g => clockGateClose k false g).gov.bus.gates k = true := by
  have hhrs : ((s.gov.gateClosed k).latch s.build s.gov).io.hrs = s.gov.io.hrs := Gov.latch_hrs _ _ _
  have htime : (s.gov.gateClosed k).gtime = s.gov.gtime := rfl
  rw [State.apply_gov, Gov.wake_bus, clockGateClose_of_idle hl hk hd hw, Gov.passed_same_time htime]
  obtain ⟨i, hi⟩ := Gov.latch_eq s.build (s.gov.gateClosed k) s.gov
  rw [hi] at hhrs ⊢
  refine Gov.gate_busAfter (t := { s.gov.gateClosed k with io := i }) hl hl ?_ (worked_gateClosed k hhrs k) hw
  exact (bit_withBit _ _ _).trans (by rw [decide_eq_true rfl, Bool.or_true])

/-! ## GOV_CLKOUT -/

/-- The fields of CLKOUT_CTL hold bits 16:0 of `w`. -/
def Gov.clkoutHolds (g : Gov) (w : Nat) : Prop :=
  g.rd F.CLKOUT_CTL_SRC = bits w 0 4 ∧ g.rd F.CLKOUT_CTL_SLICE = bits w 4 4 ∧ g.rd F.CLKOUT_CTL_DIV = bits w 8 8
  ∧ g.rd F.CLKOUT_CTL_EN = bits w 16 1

theorem Build.fieldsAt_clkout (b : Build) :
    b.fieldsAt 0x12018 = [F.CLKOUT_CTL_SRC, F.CLKOUT_CTL_SLICE, F.CLKOUT_CTL_DIV, F.CLKOUT_CTL_EN] :=
  b.fieldsAt_always (by decide +kernel)

theorem wordOf_four (f₀ f₁ f₂ f₃ : Fld) (val : Fld → Nat) :
    wordOf [f₀, f₁, f₂, f₃] val = 0 + val f₀ % 2 ^ f₀.len * 2 ^ f₀.lo + val f₁ % 2 ^ f₁.len * 2 ^ f₁.lo
      + val f₂ % 2 ^ f₂.len * 2 ^ f₂.lo + val f₃ % 2 ^ f₃.len * 2 ^ f₃.lo := rfl

/-- Fields that stand one above the other add up to the bits that they cover. -/
theorem mod_add_bits (w n len : Nat) : w % 2 ^ n + bits w n len % 2 ^ len * 2 ^ n = w % 2 ^ (n + len) := by
  rw [bits, Nat.mod_mod, Nat.pow_add, Nat.mod_mul, Nat.mul_comm]

/-- The register's word is what its fields hold. -/
theorem Gov.rawWord_clkout {g : Gov} {w : Nat} (h : g.clkoutHolds w) (b : Build) :
    g.rawWord b 0x12018 = w % 2 ^ 17 := by
  obtain ⟨hsrc, hslice, hdiv, hen⟩ := h
  have hlow : 0 + bits w 0 4 % 2 ^ 4 * 2 ^ 0 = w % 2 ^ 4 := by
    rw [bits, Nat.mod_mod, Nat.pow_zero, Nat.div_one, Nat.mul_one, Nat.zero_add]
  rw [Gov.rawWord, b.fieldsAt_clkout, wordOf_four, hsrc, hslice, hdiv, hen]
  simp only [F.CLKOUT_CTL_SRC, F.CLKOUT_CTL_SLICE, F.CLKOUT_CTL_DIV, F.CLKOUT_CTL_EN]
  rw [hlow, mod_add_bits, mod_add_bits, mod_add_bits]

theorem clkoutHolds_mod (g : Gov) (w : Nat) : g.clkoutHolds (w % 2 ^ 17) ↔ g.clkoutHolds w := by
  unfold Gov.clkoutHolds
  rw [bits_mod (by decide), bits_mod (by decide), bits_mod (by decide), bits_mod (by decide)]

theorem clkoutHolds_clkoutWrite (w : Nat) (r : Bool) (g : Gov) : (clkoutWrite w r g).clkoutHolds w := by
  have whole : ∀ lo len, bits w lo len % 2 ^ len = bits w lo len := fun _ _ => Nat.mod_mod _ _
  refine ⟨?_, ?_, ?_, ?_⟩
  · refine (Gov.rd_wr_ne _ _ (by decide)).trans ((Gov.rd_wr_ne _ _ (by decide)).trans
      ((Gov.rd_wr_ne _ _ (by decide)).trans ((Gov.rd_wr_same _ _ _).trans (whole 0 4))))
  · exact (Gov.rd_wr_ne _ _ (by decide)).trans ((Gov.rd_wr_ne _ _ (by decide)).trans
      ((Gov.rd_wr_same _ _ _).trans (whole 4 4)))
  · exact (Gov.rd_wr_ne _ _ (by decide)).trans ((Gov.rd_wr_same _ _ _).trans (whole 8 8))
  · exact (Gov.rd_wr_same _ _ _).trans (whole 16 1)

/-- A write of the whole word reaches every field, as none of them is retained. -/
theorem clkoutHolds_putRw (b : Build) (g : Gov) (w : Nat) {sel : Fld → Bool} (hsel : ∀ f, f.isRet = false → sel f = true) :
    (g.putRw (b.fieldsAt 0x12018) w maskAll sel).clkoutHolds w := by
  have take : ∀ f ∈ b.fieldsAt 0x12018, f.acc = .rw → f.isRet = false → f.hit maskAll = true → f.lo + f.len ≤ 64 →
      (g.putRw (b.fieldsAt 0x12018) w maskAll sel).rd f = bits w f.lo f.len := by
    intro f hf hacc hret hhit hle
    rw [(Gov.rd_putRw (b.fieldsAt_spec _).2 g w maskAll sel f).2 hf, if_pos ⟨hacc, hhit, hsel f hret⟩,
      Fld.merged_whole (Fld.of_maskAll hle), Fld.of]
  have mem : ∀ f ∈ [F.CLKOUT_CTL_SRC, F.CLKOUT_CTL_SLICE, F.CLKOUT_CTL_DIV, F.CLKOUT_CTL_EN], f ∈ b.fieldsAt 0x12018 := by
    rw [b.fieldsAt_clkout]
    exact fun f hf => hf
  exact ⟨take _ (mem _ (by simp)) rfl rfl (by decide) (by decide), take _ (mem _ (by simp)) rfl rfl (by decide) (by decide),
    take _ (mem _ (by simp)) rfl rfl (by decide) (by decide), take _ (mem _ (by simp)) rfl rfl (by decide) (by decide)⟩

/-- No field of CLKOUT_CTL is W1C. -/
theorem clkoutHolds_putW1c (b : Build) {g : Gov} {w : Nat} (h : g.clkoutHolds w) (v mask : Nat) :
    (g.putW1c (b.fieldsAt 0x12018) v mask).clkoutHolds w := by
  have keep : ∀ f ∈ b.fieldsAt 0x12018, f.acc = .rw → (g.putW1c (b.fieldsAt 0x12018) v mask).rd f = g.rd f := by
    intro f hf hacc
    rw [(Gov.rd_putW1c (b.fieldsAt_spec _).2 g v mask f).2 hf, if_neg (by simp [hacc])]
  rw [b.fieldsAt_clkout] at keep ⊢
  obtain ⟨hsrc, hslice, hdiv, hen⟩ := h
  exact ⟨(keep _ (by simp) rfl).trans hsrc, (keep _ (by simp) rfl).trans hslice, (keep _ (by simp) rfl).trans hdiv,
    (keep _ (by simp) rfl).trans hen⟩

/-- R93: what follows the write of the register writes the same fields again. -/
theorem clkoutHolds_wroteRw {g : Gov} {w : Nat} (h : g.clkoutHolds w) (b : Build) (mask : Nat) :
    (wroteRw b 0x12018 mask g).clkoutHolds w := by
  have hrow : ∃ r u, wroteRw b 0x12018 mask g = clkoutWrite (w % 2 ^ 17) r u := by
    simp only [wroteRw, Gov.rawWord_clkout h]
    simp (disch := decide) only [if_neg, if_true]
    split
    · exact ⟨_, _, rfl⟩
    · exact ⟨_, _, rfl⟩
  obtain ⟨r, u, hrow⟩ := hrow
  rw [hrow, ← clkoutHolds_mod]
  exact clkoutHolds_clkoutWrite _ _ _

theorem reachesRet_clkout (b : Build) (mask : Nat) : reachesRet (b.fieldsAt 0x12018) mask = false := by
  rw [b.fieldsAt_clkout]
  rfl

/-- What a write does to a register that has no retained field, where it sets off only what follows its RW fields. -/
theorem regWriteAct_unretained {b : Build} {port o w mask : Nat} {fs : List Fld} {g : Gov}
    (hret : reachesRet fs mask = false) (hopen : g.openBarred o w mask = false) (hhold : o ≠ 0x14028)
    (hblk : o ≠ 0x14018) (hwo : ∀ (v : Nat) (g : Gov), wroteWo b port o v mask g = g) :
    ∃ c : Bool, (regWriteAct b port o w mask fs g).1
      = (if c then wroteRw b o mask (g.putRw fs w mask fun f => 0 == 0 || !f.isRet)
          else g.putRw fs w mask fun f => 0 == 0 || !f.isRet).putW1cAt fs o w mask := by
  rw [reachesRet] at hret
  simp only [regWriteAct, hret, hopen, hwo, if_neg hhold, if_neg hblk, Bool.false_eq_true, if_false, false_and]
  exact ⟨_, rfl⟩

/-- The same for a change that is made or not. -/
theorem clkoutHolds_ite {g g' : Gov} {w : Nat} {c : Prop} [Decidable c] (h : g.clkoutHolds w) (h' : g'.clkoutHolds w) :
    (if c then g else g').clkoutHolds w := by
  split
  · exact h
  · exact h'

theorem clkoutHolds_regWriteAct (b : Build) (port w : Nat) (g : Gov) :
    (regWriteAct b port 0x12018 w maskAll (b.fieldsAt 0x12018) g).1.clkoutHolds w := by
  have hwo : ∀ (v : Nat) (g : Gov), wroteWo b port 0x12018 v maskAll g = g := fun _ _ => rfl
  have hput : (g.putRw (b.fieldsAt 0x12018) w maskAll fun f => 0 == 0 || !f.isRet).clkoutHolds w :=
    clkoutHolds_putRw b g w fun _ _ => rfl
  obtain ⟨c, hc⟩ := regWriteAct_unretained (w := w) (g := g) (reachesRet_clkout b maskAll) rfl (by decide) (by decide) hwo
  rw [hc]
  exact clkoutHolds_putW1c b (clkoutHolds_ite (clkoutHolds_wroteRw hput b maskAll) hput) w maskAll

/-- The port that an event names is no register's affair. -/
theorem rd_regWriteDo (b : Build) (port off w mask : Nat) (fs : List Fld) (g : Gov) (f : Fld) :
    (regWriteDo b port off w mask fs g).1.rd f
      = (regWriteAct b port off w mask fs { g with recr := { g.recr with cause := port } }).1.rd f := rfl

theorem clkoutHolds_regWriteDo (b : Build) (port w : Nat) (g : Gov) :
    (regWriteDo b port 0x12018 w maskAll (b.fieldsAt 0x12018) g).1.clkoutHolds w := by
  have keep := rd_regWriteDo b port 0x12018 w maskAll (b.fieldsAt 0x12018) g
  obtain ⟨hsrc, hslice, hdiv, hen⟩ := clkoutHolds_regWriteAct b port w { g with recr := { g.recr with cause := port } }
  exact ⟨(keep _).trans hsrc, (keep _).trans hslice, (keep _).trans hdiv, (keep _).trans hen⟩

/-- A write of a register that has no retained field and no check of its own. -/
theorem regWrite_unretained {b : Build} {port o w mask : Nat} {g : Gov} (hl : g.live = true)
    (hret : reachesRet (b.fieldsAt o) mask = false) (hm : mbxOf o = none) (hpage : o ≠ 0x2060) (hsel : o ≠ 0x12000)
    (hcons : o ≠ 0x16420) (hbar : ∀ g : Gov, g.pendBarred o = false) :
    regWrite b port o w mask g = regWriteDo b port o w mask (b.fieldsAt o) ((g.touch port).openFor o) := by
  rw [reachesRet] at hret
  simp only [regWrite, hl, hm, hret, hbar, if_neg hpage, if_neg hsel, if_neg hcons, Bool.true_eq_false,
    Bool.false_eq_true, false_and, if_false]

/-- A 64-bit write through the port of a register that is no mailbox's. -/
theorem portWrite_wide {b : Build} {port o w : Nat} {g : Gov} (hl : g.live = true) (h8 : o / 8 * 8 = o)
    (hlt : o < 0x40000) (hm : mbxOf o = none) :
    portWrite b port o w true g = (regWrite b port o w maskAll (g.respond port 0 0)).1 := by
  simp only [portWrite, hl, h8, hm, if_pos hlt, if_true]
  rfl

/-- R9, R93: a 64-bit write of CLKOUT_CTL leaves its fields at the bits written. -/
theorem clkoutHolds_portWrite (b : Build) (port w : Nat) {g : Gov} (hl : g.live = true) :
    (portWrite b port 0x12018 w true g).clkoutHolds w := by
  have hm : mbxOf 0x12018 = none := mbxOf_none (by decide)
  have hbar : ∀ g : Gov, g.pendBarred 0x12018 = false := fun _ => rfl
  rw [portWrite_wide hl (by decide) (by decide) hm, regWrite_unretained (g := g.respond port 0 0) hl
    (reachesRet_clkout b maskAll) hm (by decide) (by decide) (by decide) hbar]
  exact clkoutHolds_regWriteDo b port w _

/-- R93: the register takes the value, and GOV_CLKOUT the setting where it is enabled and its source runs. -/
theorem clkoutPort_of_live (b : Build) (port w : Nat) (r : Bool) {g : Gov} (hl : g.live = true) :
    (clkoutPort b port w r g).clkoutHolds w
      ∧ (clkoutPort b port w r g).clk.clkout = (if r = true ∧ bit w 16 = true ∧ bits w 0 4 < 12 then
          some (bits w 0 4, bits w 4 4, bits w 8 8 + 1) else none) := by
  have hrow : clkoutPort b port w r g = clkoutWrite (w % 2 ^ 17) r (portWrite b port 0x12018 w true g) := by
    rw [clkoutPort, if_pos hl]
    dsimp only
    rw [Gov.rawWord_clkout (clkoutHolds_portWrite b port w hl)]
  rw [hrow]
  refine ⟨(clkoutHolds_mod _ _).mp (clkoutHolds_clkoutWrite _ _ _), ?_⟩
  rw [clkoutWrite]
  dsimp only
  rw [bit_mod (by decide), bits_mod (by decide), bits_mod (by decide), bits_mod (by decide)]
  exact ite_of_iff and_left_comm

/-! ## GTIME -/

theorem regFind_gtimeLo :
    (regFind 0x12040).map (fun e => (e.1.kind, e.1.at e.2)) = some (.always, [F.GTIME_LO_GTIME]) := by decide +kernel

theorem Build.fieldsAt_gtimeLo (b : Build) : b.fieldsAt 0x12040 = [F.GTIME_LO_GTIME] :=
  b.fieldsAt_always regFind_gtimeLo

/-- GTIME_LO shows GTIME (R94). -/
theorem Gov.regWord_gtimeLo (b : Build) (port : Nat) (g : Gov) : g.regWord b port 0x12040 = g.gtime % 2 ^ 64 := by
  have hval : g.fieldVal b port F.GTIME_LO_GTIME = g.gtime % 2 ^ 64 := rfl
  simp only [Gov.regWord, b.fieldsAt_gtimeLo, wordOf, List.map_cons, List.map_nil, List.foldl_cons, List.foldl_nil, hval]
  simp [F.GTIME_LO_GTIME]

/-- R97: a read of the lower half latches the upper one for the port, and answers bits 31:0. -/
theorem gtimeLoRead_of_live (b : Build) (port : Nat) {g : Gov} (hl : g.live = true) :
    halfRead b 0x12040 port false false g
      = (gtimeLoLatch port ((g.touch port).openFor 0x12040)).respond port (g.gtime % 2 ^ 32) 0 := by
  have hm : mbxOf 0x12040 = none := rfl
  have hread : regRead b port 0x12040 maskLo g
      = (gtimeLoLatch port ((g.touch port).openFor 0x12040), g.gtime % 2 ^ 64) := by
    simp only [regRead, hl, hm, Bool.true_eq_false, if_false]
    simp (disch := decide) only [if_neg, if_true]
    rw [Gov.regWord_gtimeLo]
    rfl
  have hhalf : halfRead b 0x12040 port false false g
      = (regRead b port 0x12040 maskLo g).1.respond port ((regRead b port 0x12040 maskLo g).2 % 2 ^ 32) 0 := by
    rw [halfRead, if_pos hl]
    rfl
  rw [hhalf, hread, Nat.mod_mod_of_dvd _ (by decide)]

/-- What the port is answered and what it finds latched, and what stays. -/
theorem gtimeLoRead_latches (b : Build) (port : Nat) {g : Gov} (hl : g.live = true) :
    let t := halfRead b 0x12040 port false false g
    mget {} t.io.hrs port = { data := g.gtime % 2 ^ 32 } ∧ mget 0 t.clk.hiLatch port = bits g.gtime 32 32
      ∧ (∀ p ≠ port, mget 0 t.clk.hiLatch p = mget 0 g.clk.hiLatch p) ∧ t.gtime = g.gtime := by
  simp only [gtimeLoRead_of_live b port hl]
  exact ⟨mget_mput_same _ _ _ _, mget_mput_same _ _ _ _, fun p hp => mget_mput_ne _ _ _ hp, rfl⟩

end Sys2Proof.Machine
end

section
/-! PROOFS. VSEL and PWM_SYNC, rail by rail (R69, R166, R174, R175). -/

namespace Sys2Proof.Machine

/-! ## Rails taken in turn -/

/-- A fold over the rails whose step at another rail leaves what `get` sees of rail `n`: what it leaves there is what
the step at `n` leaves, made on a governor that `get` sees as `g`. -/
theorem Gov.each_range_at {β : Type} {get : Gov → β} {step : Gov → Nat → Gov} {k n : Nat} (hn : n < k)
    (hne : ∀ g m, m ≠ n → get (step g m) = get g) (g : Gov) :
    ∃ u, get u = get g ∧ get (g.each (List.range k) step) = get (step u n) := by
  have keep : ∀ (l : List Nat) (g : Gov), n ∉ l → get (l.foldl step g) = get g := by
    intro l
    induction l with
    | nil => exact fun _ _ => rfl
    | cons m l ih =>
      intro g h
      obtain ⟨hm, hl⟩ : n ≠ m ∧ n ∉ l := by simpa using h
      exact (ih _ hl).trans (hne g m hm.symm)
  obtain ⟨l, r, hlr⟩ := List.append_of_mem (List.mem_range.mpr hn)
  have hnodup : (l ++ n :: r).Nodup := hlr ▸ List.nodup_range
  obtain ⟨-, hr, hdisj⟩ := List.nodup_append.mp hnodup
  have hl : n ∉ l := fun h => hdisj n h n List.mem_cons_self rfl
  refine ⟨l.foldl step g, keep l g hl, ?_⟩
  rw [Gov.each, hlr, List.foldl_append, List.foldl_cons]
  exact keep r _ (List.nodup_cons.mp hr).1

theorem Gov.rail_setRail_same (g : Gov) (n : Nat) (r : Rail) : (g.setRail n r).rail n = r := mget_mput_same _ _ _ _

theorem Gov.rail_setRail_ne (g : Gov) {n m : Nat} (r : Rail) (h : n ≠ m) : (g.setRail m r).rail n = g.rail n :=
  mget_mput_ne _ _ _ h

theorem Gov.rd_setRail (g : Gov) (n : Nat) (r : Rail) (f : Fld) : (g.setRail n r).rd f = g.rd f := rfl

/-! ## VSEL -/

/-- What a set-point of rail `n` is taken from: the rail, the registers, the clock's state and GTIME. -/
def Gov.vrefView (n : Nat) (g : Gov) : Rail × Sparse Nat × Clk × Nat := (g.rail n, g.regs, g.clk, g.gtime)

/-- A set-point reaches its own rail alone. -/
theorem setpointRefresh_eq (b : Build) (n : Nat) (g : Gov) :
    setpointRefresh b n g = g ∨ ∃ r, setpointRefresh b n g = g.setRail n r := by
  have arrive : ∀ opt v, ∃ r, setpointArrive b n opt v g = g.setRail n r := by
    intro opt v
    unfold setpointArrive
    dsimp only
    split <;> exact ⟨_, rfl⟩
  unfold setpointRefresh
  dsimp only
  split
  · split
    · split
      · exact .inl rfl
      · exact .inr (arrive _ _)
    · split
      · exact .inl rfl
      · exact .inr (arrive _ _)
  · exact .inl rfl

theorem vrefView_setpointRefresh_ne (b : Build) {n m : Nat} (g : Gov) (h : m ≠ n) :
    (setpointRefresh b m g).vrefView n = g.vrefView n := by
  rcases setpointRefresh_eq b m g with he | ⟨r, he⟩
  · rw [he]
  · rw [he, Gov.vrefView, g.rail_setRail_ne r h.symm]
    rfl

theorem setpointRefresh_clk (b : Build) (n : Nat) (g : Gov) : (setpointRefresh b n g).clk = g.clk := by
  rcases setpointRefresh_eq b n g with he | ⟨r, he⟩
  · rw [he]
  · rw [he, Gov.setRail_clk]

/-- R166: an increase of the set-point of a running rail waits for the rail from the present instant. -/
theorem vchg_setpointRefresh {b : Build} {n : Nat} {g : Gov} (hs : g.stage = sREADY) (hr : g.running n = true)
    (hlt : (g.rail n).vset < g.rd (F.RAIL_OPT_VSET n g.clk.vsel)) (hv : (g.rail n).vchg = none) :
    ((setpointRefresh b n g).rail n).vchg
      = some { opt := g.clk.vsel, v := g.rd (F.RAIL_OPT_VSET n g.clk.vsel), atT := g.gtime } := by
  have htakes : g.takesVref n = true := by simp [Gov.takesVref, hs, hr]
  have hnew : ¬ (g.rd (F.RAIL_STAT_OPT n) = g.clk.vsel ∧ (g.rail n).vset = g.rd (F.RAIL_OPT_VSET n g.clk.vsel)) := by omega
  have hup : ¬ (g.rd (F.RAIL_OPT_VSET n g.clk.vsel) < (g.rail n).vset ∧ thrDies b g n ≠ []) := by omega
  simp only [setpointRefresh, if_pos htakes, hv, if_neg hnew, setpointArrive, if_neg hup, Gov.rail_setRail_same]

/-- R69: the code is taken, and every running rail whose set-point it raises takes the change. -/
theorem vselValid_of_running {b : Build} {code n : Nat} {g : Gov} (haon : g.aon = true) (hp : g.porst = false)
    (hn : n < b.rails) (hs : g.stage = sREADY) (hr : g.running n = true)
    (hlt : (g.rail n).vset < g.rd (F.RAIL_OPT_VSET n (code % 8))) (hv : (g.rail n).vchg = none) :
    ((vselValid b code g).rail n).vchg
      = some { opt := code % 8, v := g.rd (F.RAIL_OPT_VSET n (code % 8)), atT := g.gtime } := by
  rw [vselValid, if_pos ⟨haon, hp⟩]
  obtain ⟨u, hu, hat⟩ := Gov.each_range_at (get := Gov.vrefView n) (step := fun g n => setpointRefresh b n g) hn
    (fun g m h => vrefView_setpointRefresh_ne b g h) { g with clk := { g.clk with vsel := code % 8 } }
  obtain ⟨hrail, hregs, hclk, htime⟩ : u.rail n = g.rail n ∧ u.regs = g.regs
      ∧ u.clk = { g.clk with vsel := code % 8 } ∧ u.gtime = g.gtime := by simpa [Gov.vrefView, Gov.rail] using hu
  have hrd : ∀ f, u.rd f = g.rd f := fun f => by rw [Gov.rd, hregs, Gov.rd]
  have hvsel : u.clk.vsel = code % 8 := by rw [hclk]
  have hstage : u.stage = sREADY := (hrd _).trans hs
  have hrun : u.running n = true := by
    rw [← hr]
    simp only [Gov.running, Gov.mode, hrd, hrail]
  have hchg := vchg_setpointRefresh (b := b) (n := n) hstage hrun (by rw [hvsel, hrd, hrail]; exact hlt) (by rw [hrail, hv])
  rw [hvsel, hrd, htime] at hchg
  exact (congrArg (fun v : Rail × Sparse Nat × Clk × Nat => v.1.vchg) hat).trans hchg

theorem vselValid_vsel (b : Build) (code : Nat) {g : Gov} (haon : g.aon = true) (hp : g.porst = false) :
    (vselValid b code g).clk.vsel = code % 8 := by
  rw [vselValid, if_pos ⟨haon, hp⟩]
  exact congrArg Clk.vsel (foldl_keeps (get := Gov.clk) (fun g n => setpointRefresh_clk b n g) _ _)

/-! ## PWM_SYNC -/

/-- Fields that start at different bits are different fields. -/
theorem Fld.key_ne_of_lo {f f' : Fld} (hf : f.lo < 64) (hf' : f'.lo < 64) (h : f.lo ≠ f'.lo) : f.key ≠ f'.key := by
  unfold Fld.key; omega

/-- An event leaves every register whose field starts neither at a count nor at DROP_SEEN. -/
theorem Gov.rd_ev_of_lo (g : Gov) (code a b c d : Nat) {f : Fld} (hf : f.lo < 64) (h0 : f.lo ≠ 0) (h9 : f.lo ≠ 9) :
    (g.ev code a b c d).rd f = g.rd f := by
  have hcnt : f.key ≠ (F.REC_CNT_COUNT 1).key := Fld.key_ne_of_lo hf (by decide) h0
  have hdrop : f.key ≠ F.REC_STAT_DROP_SEEN.key := Fld.key_ne_of_lo hf (by decide) h9
  unfold Gov.ev Gov.evp Gov.evt
  split
  · rfl
  · exact (Gov.rd_wr_ne _ _ hdrop).trans (Gov.rd_count _ _ hcnt)

/-- What the sync of rail `n` is judged by: the rail, its SYNC_EN and SYNC_DIV, and GTIME. -/
def Gov.syncView (n : Nat) (g : Gov) : Rail × Nat × Nat × Nat :=
  (g.rail n, g.rd (F.RAIL_CTL_SYNC_EN n), g.rd (F.RAIL_CTL_SYNC_DIV n), g.gtime)

/-- From `g` to `t` GTIME, every rail but `n`, and every field but those that start where SYNC_LOCK, SYNC_LOST and the
recorder's own do, are as they were. -/
def Gov.syncStep (n : Nat) (g t : Gov) : Prop :=
  t.gtime = g.gtime ∧ (∀ m, m ≠ n → t.rail m = g.rail m)
  ∧ ∀ f : Fld, f.lo < 64 → f.lo ∉ [0, 9, 37, 49] → t.rd f = g.rd f

theorem Gov.syncStep_refl (n : Nat) (g : Gov) : g.syncStep n g := ⟨rfl, fun _ _ => rfl, fun _ _ _ => rfl⟩

theorem Gov.syncStep_setRail {n : Nat} {g t : Gov} (h : g.syncStep n t) (r : Rail) : g.syncStep n (t.setRail n r) := by
  obtain ⟨htime, hrail, hrd⟩ := h
  exact ⟨htime, fun m hm => (t.rail_setRail_ne r hm).trans (hrail m hm), hrd⟩

theorem Gov.syncStep_wr {n : Nat} {g t : Gov} (h : g.syncStep n t) {f : Fld} (v : Nat) (hf : f.lo = 37 ∨ f.lo = 49) :
    g.syncStep n (t.wr f v) := by
  obtain ⟨htime, hrail, hrd⟩ := h
  refine ⟨htime, hrail, fun k hk hlo => (t.rd_wr_ne v (Fld.key_ne_of_lo hk (by omega) fun e => hlo ?_)).trans (hrd k hk hlo)⟩
  rcases hf with hf | hf <;> simp [e, hf]

theorem Gov.syncStep_ev {n : Nat} {g t : Gov} (h : g.syncStep n t) (code a b c d : Nat) :
    g.syncStep n (t.ev code a b c d) := by
  obtain ⟨htime, hrail, hrd⟩ := h
  refine ⟨(t.ev_gtime ..).trans htime, fun m hm => ?_, fun f hf hlo => ?_⟩
  · rw [Gov.rail, t.ev_rails]
    exact hrail m hm
  · rw [t.rd_ev_of_lo _ _ _ _ _ hf (fun e => hlo (by simp [e])) (fun e => hlo (by simp [e])), hrd f hf hlo]

/-- A step at another rail is not seen by the sync of rail `n`. -/
theorem Gov.syncView_of_step {n m : Nat} {g t : Gov} (h : g.syncStep m t) (hm : m ≠ n) : t.syncView n = g.syncView n := by
  obtain ⟨htime, hrail, hrd⟩ := h
  rw [Gov.syncView, htime, hrail n hm.symm, hrd (F.RAIL_CTL_SYNC_EN n) (show 3 < 64 by decide) (show 3 ∉ [0, 9, 37, 49] by decide),
    hrd (F.RAIL_CTL_SYNC_DIV n) (show 4 < 64 by decide) (show 4 ∉ [0, 9, 37, 49] by decide)]
  rfl

theorem loseSync_step (n : Nat) (g : Gov) : g.syncStep n (loseSync n g) := by
  unfold loseSync
  dsimp only
  split
  · exact Gov.syncStep_ev (Gov.syncStep_setRail (Gov.syncStep_wr (Gov.syncStep_wr (g.syncStep_refl n) 0 (.inl rfl)) 1
      (.inr rfl)) _) _ _ _ _ _
  · exact Gov.syncStep_setRail (g.syncStep_refl n) _

/-- The rail as a good edge leaves it, before its boundary moves (R174). -/
def Gov.edged (g : Gov) (n t0 : Nat) : Rail :=
  let r := g.rail n
  let good := min 16 (r.syncGood + 1)
  let div := 2 ^ g.rd (F.RAIL_CTL_SYNC_DIV n)
  { r with
    syncEdge := some g.gtime, syncGood := good, syncIdx := (r.syncIdx + 1) % div, syncInt := g.gtime - t0,
    perCur := if 16 ≤ good then (g.gtime - t0) * 16 * div else r.perCur, slewLeft := if 16 ≤ good then 0 else r.slewLeft }

theorem wr_or_same (g : Gov) (f : Fld) (v : Nat) (c : Prop) [Decidable c] :
    (if c then g.wr f v else g) = g ∨ (if c then g.wr f v else g) = g.wr f v := by
  split
  · exact .inr rfl
  · exact .inl rfl

/-- R174: after a good edge the boundary stays, or moves with or without the lock. -/
theorem syncEdgeRail_of_good {n t0 : Nat} {g : Gov} (he : g.flag (F.RAIL_CTL_SYNC_EN n) = true)
    (hs : (g.rail n).started = true) (hp : 0 < (g.rail n).per) (ht : (g.rail n).syncEdge = some t0)
    (hg : g.syncGood n (g.gtime - t0) = true) :
    syncEdgeRail n g = g.setRail n (g.edged n t0)
      ∨ ∃ x, let t := (g.setRail n (g.edged n t0)).setRail n { (g.setRail n (g.edged n t0)).rail n with bnd := x }
          syncEdgeRail n g = t ∨ syncEdgeRail n g = t.wr (F.RAIL_STAT_SYNC_LOCK n) 1 := by
  rw [syncEdgeRail, if_pos ⟨he, hs, hp⟩, ht]
  simp only [if_pos hg]
  by_cases hc : 16 ≤ min 16 ((g.rail n).syncGood + 1)
      ∧ ((g.rail n).syncIdx + 1) % 2 ^ g.rd (F.RAIL_CTL_SYNC_DIV n) = 0
  · rw [if_pos hc]
    exact .inr ⟨_, wr_or_same _ _ _ _⟩
  · rw [if_neg hc]
    exact .inl rfl

theorem syncEdgeRail_of_bad {n t0 : Nat} {g : Gov} (he : g.flag (F.RAIL_CTL_SYNC_EN n) = true)
    (hs : (g.rail n).started = true) (hp : 0 < (g.rail n).per) (ht : (g.rail n).syncEdge = some t0)
    (hg : g.syncGood n (g.gtime - t0) = false) :
    syncEdgeRail n g = (loseSync n g).setRail n { (loseSync n g).rail n with syncEdge := some g.gtime } := by
  rw [syncEdgeRail, if_pos ⟨he, hs, hp⟩, ht]
  simp only [if_neg (Bool.eq_false_iff.mp hg), (loseSync_step n g).1]

theorem syncEdgeRail_of_first {n : Nat} {g : Gov} (he : g.flag (F.RAIL_CTL_SYNC_EN n) = true)
    (hs : (g.rail n).started = true) (hp : 0 < (g.rail n).per) (ht : (g.rail n).syncEdge = none) :
    syncEdgeRail n g
      = g.setRail n { g.rail n with syncEdge := some g.gtime, syncGood := 0, syncIdx := 0 } := by
  rw [syncEdgeRail, if_pos ⟨he, hs, hp⟩, ht]

/-- An edge changes its own rail, SYNC_LOCK and SYNC_LOST, and may be recorded. -/
theorem syncEdgeRail_step (n : Nat) (g : Gov) : g.syncStep n (syncEdgeRail n g) := by
  by_cases hc : g.flag (F.RAIL_CTL_SYNC_EN n) = true ∧ (g.rail n).started = true ∧ 0 < (g.rail n).per
  · obtain ⟨he, hs, hp⟩ := hc
    cases ht : (g.rail n).syncEdge with
    | none =>
      rw [syncEdgeRail_of_first he hs hp ht]
      exact Gov.syncStep_setRail (g.syncStep_refl n) _
    | some t0 =>
      cases hg : g.syncGood n (g.gtime - t0) with
      | true =>
        have hedged := Gov.syncStep_setRail (g.syncStep_refl n) (g.edged n t0)
        rcases syncEdgeRail_of_good he hs hp ht hg with h | ⟨x, h | h⟩
        · rw [h]
          exact hedged
        · rw [h]
          exact Gov.syncStep_setRail hedged _
        · rw [h]
          exact Gov.syncStep_wr (Gov.syncStep_setRail hedged _) 1 (.inl rfl)
      | false =>
        rw [syncEdgeRail_of_bad he hs hp ht hg]
        exact Gov.syncStep_setRail (loseSync_step n g) _
  · rw [syncEdgeRail, if_neg hc]
    exact g.syncStep_refl n

/-- The count of consecutive good edges after an edge at `now` (R174). -/
def Rail.syncCount (r : Rail) (div now : Nat) : Nat :=
  match r.syncEdge with
  | none => 0
  | some t0 =>
    if 95 * r.per ≤ 1600 * (now - t0) * 2 ^ div ∧ 1600 * (now - t0) * 2 ^ div ≤ 105 * r.per then min 16 (r.syncGood + 1)
    else 0

theorem syncGood_loseSync (n : Nat) (g : Gov) : ((loseSync n g).rail n).syncGood = 0 := by
  unfold loseSync
  dsimp only
  split
  · rw [Gov.rail, Gov.ev_rails]
    exact congrArg Rail.syncGood (Gov.rail_setRail_same _ _ _)
  · rw [Gov.rail_setRail_same]

/-- R174: an edge is noted at its rail, and counts where it is good. -/
theorem syncEdgeRail_of_enabled {n : Nat} {g : Gov} (he : g.flag (F.RAIL_CTL_SYNC_EN n) = true)
    (hs : (g.rail n).started = true) (hp : 0 < (g.rail n).per) :
    ((syncEdgeRail n g).rail n).syncEdge = some g.gtime
      ∧ ((syncEdgeRail n g).rail n).syncGood = (g.rail n).syncCount (g.rd (F.RAIL_CTL_SYNC_DIV n)) g.gtime := by
  rw [Rail.syncCount]
  cases ht : (g.rail n).syncEdge with
  | none =>
    rw [syncEdgeRail_of_first he hs hp ht, Gov.rail_setRail_same]
    exact ⟨rfl, rfl⟩
  | some t0 =>
    have hgood : g.syncGood n (g.gtime - t0) = true ↔ _ := decide_eq_true_iff
    dsimp only
    cases hg : g.syncGood n (g.gtime - t0) with
    | true =>
      rw [if_pos (hgood.mp hg)]
      rcases syncEdgeRail_of_good he hs hp ht hg with h | ⟨x, h | h⟩
      · rw [h, Gov.rail_setRail_same]
        exact ⟨rfl, rfl⟩
      · rw [h, Gov.rail_setRail_same, Gov.rail_setRail_same]
        exact ⟨rfl, rfl⟩
      · rw [h, Gov.rail, Gov.wr_rails, ← Gov.rail, Gov.rail_setRail_same, Gov.rail_setRail_same]
        exact ⟨rfl, rfl⟩
    | false =>
      rw [if_neg (mt hgood.mpr (Bool.eq_false_iff.mp hg)), syncEdgeRail_of_bad he hs hp ht hg, Gov.rail_setRail_same]
      exact ⟨rfl, syncGood_loseSync n g⟩

/-- R174: an edge after `ns` ns, at every rail. -/
theorem pwmSyncEdge_of_enabled {b : Build} {ns n : Nat} {g : Gov} (hl : g.live = true) (hn : n < b.rails)
    (he : g.flag (F.RAIL_CTL_SYNC_EN n) = true) (hs : (g.rail n).started = true) (hp : 0 < (g.rail n).per) :
    (pwmSyncEdge b ns g).gtime = g.gtime + ns ∧ ((pwmSyncEdge b ns g).rail n).syncEdge = some (g.gtime + ns)
      ∧ ((pwmSyncEdge b ns g).rail n).syncGood
          = (g.rail n).syncCount (g.rd (F.RAIL_CTL_SYNC_DIV n)) (g.gtime + ns) := by
  rw [pwmSyncEdge, if_pos hl]
  obtain ⟨u, hu, hat⟩ := Gov.each_range_at (get := Gov.syncView n) (step := fun g n => syncEdgeRail n g) hn
    (fun g m h => Gov.syncView_of_step (syncEdgeRail_step m g) h) (g.runTo (g.gtime + ns))
  obtain ⟨hrail, hen, hdiv, htime⟩ : u.rail n = g.rail n ∧ u.rd (F.RAIL_CTL_SYNC_EN n) = g.rd (F.RAIL_CTL_SYNC_EN n)
      ∧ u.rd (F.RAIL_CTL_SYNC_DIV n) = g.rd (F.RAIL_CTL_SYNC_DIV n) ∧ u.gtime = g.gtime + ns := by
    simpa [Gov.syncView, Gov.rail, Gov.rd] using hu
  have hgtime := (syncEdgeRail_step n u).1
  obtain ⟨hedge, hgood⟩ := syncEdgeRail_of_enabled (n := n) (g := u) (by rw [Gov.flag, hen]; exact he)
    (by rw [hrail, hs]) (by rw [hrail]; exact hp)
  rw [hrail, hdiv, htime] at hgood
  rw [htime] at hgtime hedge
  exact ⟨(congrArg (fun v : Rail × Nat × Nat × Nat => v.2.2.2) hat).trans hgtime,
    (congrArg (fun v : Rail × Nat × Nat × Nat => v.1.syncEdge) hat).trans hedge,
    (congrArg (fun v : Rail × Nat × Nat × Nat => v.1.syncGood) hat).trans hgood⟩

/-! ## The loss of the sync -/

/-- R175: the loss of a lock clears SYNC_LOCK, sets SYNC_LOST and starts the way back to PER. -/
theorem loseSync_of_locked {n : Nat} {g : Gov} (h : g.flag (F.RAIL_STAT_SYNC_LOCK n) = true) :
    (loseSync n g).rd (F.RAIL_STAT_SYNC_LOCK n) = 0 ∧ (loseSync n g).rd (F.RAIL_STAT_SYNC_LOST n) = 1
      ∧ ((loseSync n g).rail n).slewLeft = 64 ∧ ((loseSync n g).rail n).slewFrom = (g.rail n).perCur := by
  have hrow : loseSync n g = _ := if_pos (Or.inl h)
  have hev : ∀ f : Fld, f.lo = 37 ∨ f.lo = 49 → (loseSync n g).rd f
      = ((g.wr (F.RAIL_STAT_SYNC_LOCK n) 0).wr (F.RAIL_STAT_SYNC_LOST n) 1).rd f := by
    intro f hf
    rw [hrow, Gov.rd_ev_of_lo _ _ _ _ _ _ (by omega) (by omega) (by omega), Gov.rd_setRail]
  have hrail : (loseSync n g).rail n
      = { g.rail n with syncGood := 0, syncIdx := 0, slewLeft := 64, slewFrom := (g.rail n).perCur } := by
    rw [hrow, Gov.rail, Gov.ev_rails]
    exact Gov.rail_setRail_same _ _ _
  refine ⟨?_, ?_, ?_, ?_⟩
  · have hne : (F.RAIL_STAT_SYNC_LOCK n).key ≠ (F.RAIL_STAT_SYNC_LOST n).key :=
      Fld.key_ne_of_lo (show 37 < 64 by decide) (show 49 < 64 by decide) (show 37 ≠ 49 by decide)
    rw [hev _ (.inl rfl), Gov.rd_wr_ne _ _ hne, Gov.rd_wr_same]
    rfl
  · rw [hev _ (.inr rfl), Gov.rd_wr_same]
    rfl
  · rw [hrail]
  · rw [hrail]

/-- R175: where the rail was locked, the loss leaves it without an edge, slewing back over 64 periods. -/
theorem syncLost_of_locked {b : Build} {n t0 : Nat} {g : Gov} (hl : g.live = true) (hn : n < b.rails)
    (he : g.flag (F.RAIL_CTL_SYNC_EN n) = true) (ht : (g.rail n).syncEdge = some t0)
    (hlock : g.flag (F.RAIL_STAT_SYNC_LOCK n) = true) :
    (syncLost b n g).rd (F.RAIL_STAT_SYNC_LOCK n) = 0 ∧ (syncLost b n g).rd (F.RAIL_STAT_SYNC_LOST n) = 1
      ∧ ((syncLost b n g).rail n).slewLeft = 64 ∧ ((syncLost b n g).rail n).slewFrom = (g.rail n).perCur
      ∧ ((syncLost b n g).rail n).syncEdge = none := by
  obtain ⟨hoff, hset, hleft, hfrom⟩ := loseSync_of_locked (n := n) (g := g.runTo (t0 + g.syncTimeout n)) hlock
  simp only [syncLost, ht, if_pos (⟨hl, hn, he⟩ : _ ∧ _ ∧ _), Gov.rd_setRail, Gov.rail_setRail_same]
  exact ⟨hoff, hset, hleft, hfrom, trivial⟩

/-- Settles O13: each row's own change is what the lemmas above say of it, and no row adds more than SVC_CAUSE and the
latched PMBus bits to it. -/
theorem clocksAndSync : Obligations.ClocksAndSync := by
  unfold Obligations.ClocksAndSync
  refine ⟨fun s k hl hk hd hw => ⟨_, rfl, State.gate_clockGateClose hl hk hd hw⟩, fun s port w r hl => ?_,
    fun s port hl => ?_, fun s code hl => ?_, fun s ns n _ hl hn he hs hp => ?_, fun s n t0 hl hn he ht hlock => ?_⟩
  · obtain ⟨⟨hsrc, hslice, hdiv, hen⟩, hout⟩ := clkoutPort_of_live s.build port w r hl
    exact ⟨_, rfl, (s.rd_apply _ (by decide)).trans hsrc, (s.rd_apply _ (by decide)).trans hslice,
      (s.rd_apply _ (by decide)).trans hdiv, (s.rd_apply _ (by decide)).trans hen,
      (congrArg Clk.clkout (s.apply_clk _)).trans hout⟩
  · obtain ⟨hdata, hlatch, hother, htime⟩ := gtimeLoRead_latches s.build port hl
    refine ⟨_, rfl, ?_, ?_, fun p hp => ?_, (s.apply_gtime _).trans htime⟩
    · rw [s.apply_hrs, hdata]
    · rw [s.apply_clk, hlatch]
    · rw [s.apply_clk, hother p hp]
  · obtain ⟨haon, hporst⟩ : s.gov.aon = true ∧ s.gov.porst = false := by
      simp only [Gov.live, Bool.and_eq_true, Bool.not_eq_true'] at hl
      exact hl.1
    refine ⟨_, rfl, (congrArg Clk.vsel (s.apply_clk _)).trans (vselValid_vsel s.build code haon hporst),
      fun n hn hs hr hlt hv => ?_⟩
    rw [s.apply_rail]
    exact vselValid_of_running haon hporst hn hs hr hlt hv
  · obtain ⟨htime, hedge, hgood⟩ := pwmSyncEdge_of_enabled (ns := ns) hl hn he hs hp
    exact ⟨_, rfl, (s.apply_gtime _).trans htime, (congrArg Rail.syncEdge (s.apply_rail _ n)).trans hedge,
      (congrArg Rail.syncGood (s.apply_rail _ n)).trans hgood⟩
  · obtain ⟨hoff, hset, hleft, hfrom, hnone⟩ := syncLost_of_locked hl hn he ht hlock
    have hsvc : ∀ f : Fld, f.lo = 37 ∨ f.lo = 49 → f.key ≠ F.SVC_CAUSE_CAUSE.key := fun f hf =>
      Fld.key_ne_of_lo (by omega) (by decide) (show f.lo ≠ 0 by omega)
    exact ⟨_, rfl, (s.rd_apply _ (hsvc _ (.inl rfl))).trans hoff, (s.rd_apply _ (hsvc _ (.inr rfl))).trans hset,
      (congrArg Rail.slewLeft (s.apply_rail _ n)).trans hleft,
      (congrArg Rail.slewFrom (s.apply_rail _ n)).trans hfrom,
      (congrArg Rail.syncEdge (s.apply_rail _ n)).trans hnone⟩

end Sys2Proof.Machine
end

section
/-! SUPPORT. Satellites, rings and tile records: what is read after each is replaced, and after a row; SVC_CAUSE after a
row; the fields of ST_TILE. -/

namespace Sys2Proof.Machine

/-! ## Reads after a replacement -/

@[simp] theorem Gov.sat_setSat_same (g : Gov) (u : Nat) (x : Sat) : (g.setSat u x).sat u = x := mget_mput_same _ _ _ _

@[simp] theorem Gov.ring_setRing_same (g : Gov) (d : Nat) (x : Ring) : (g.setRing d x).ring d = x :=
  mget_mput_same _ _ _ _

theorem Gov.ring_setRing_ne (g : Gov) {d m : Nat} (x : Ring) (h : d ≠ m) : (g.setRing m x).ring d = g.ring d :=
  mget_mput_ne _ _ _ h

@[simp] theorem Gov.trec_setTrec_same (g : Gov) (u : Nat) (x : TRec) : (g.setTrec u x).trec u = x :=
  mget_mput_same _ _ _ _

theorem Gov.trec_wr (g : Gov) (f : Fld) (v u : Nat) : (g.wr f v).trec u = g.trec u := rfl

theorem Gov.ring_wr (g : Gov) (f : Fld) (v d : Nat) : (g.wr f v).ring d = g.ring d := rfl

theorem Gov.ring_setTrec (g : Gov) (u : Nat) (x : TRec) (d : Nat) : (g.setTrec u x).ring d = g.ring d := rfl

/-! ## What a row leaves -/

theorem State.apply_st (s : State) (f : Build → List Host.Cell → Gov → Gov) :
    (s.apply f).gov.st = (f s.build s.mem s.gov).st := by simp [State.apply_gov]

theorem State.apply_sat (s : State) (f : Build → List Host.Cell → Gov → Gov) (u : Nat) :
    (s.apply f).gov.sat u = (f s.build s.mem s.gov).sat u := by rw [Gov.sat, s.apply_st, Gov.sat]

theorem State.apply_ring (s : State) (f : Build → List Host.Cell → Gov → Gov) (d : Nat) :
    (s.apply f).gov.ring d = (f s.build s.mem s.gov).ring d := by rw [Gov.ring, s.apply_st, Gov.ring]

theorem State.apply_trec (s : State) (f : Build → List Host.Cell → Gov → Gov) (u : Nat) :
    (s.apply f).gov.trec u = (f s.build s.mem s.gov).trec u := by rw [Gov.trec, s.apply_st, Gov.trec]

/-- R435: the level causes of the cycles that pass set bits of SVC_CAUSE and clear none. -/
theorem State.svcCause_apply (s : State) (f : Build → List Host.Cell → Gov → Gov) {i : Nat} (hi : i < 16)
    (h : bit ((f s.build s.mem s.gov).rd F.SVC_CAUSE_CAUSE) i = true) :
    bit ((s.apply f).gov.rd F.SVC_CAUSE_CAUSE) i = true := by
  have fold : ∀ (l : List Nat) (t : Gov), bit (t.rd F.SVC_CAUSE_CAUSE) i = true →
      bit ((l.foldl (fun (t : Gov) j => t.svc j) t).rd F.SVC_CAUSE_CAUSE) i = true := by
    intro l
    induction l with
    | nil => exact fun _ ht => ht
    | cons j l ih =>
      intro t ht
      have hj : bit ((t.svc j).rd F.SVC_CAUSE_CAUSE) i = true := by
        rw [Gov.svc, Gov.bit_rd_setBit _ _ _ hi, ht, Bool.true_or]
      exact ih _ hj
  rw [State.apply_gov, Gov.rd_wake, Gov.rd_latch, Gov.passed]
  split
  · exact fold _ _ h
  · exact h

/-! ## The fields of ST_TILE -/

/-- A field is left by a write of one that starts at another bit. -/
theorem Gov.rd_wr_of_lo (g : Gov) {f k : Fld} (v : Nat) (hf : f.lo < 64) (hk : k.lo < 64) (h : f.lo ≠ k.lo) :
    (g.wr k v).rd f = g.rd f := g.rd_wr_ne v (Fld.key_ne_of_lo hf hk h)

theorem Build.tile_lt {b : Build} (hb : b.ok = true) {u : Nat} (ht : b.tile u = true) : u < 512 := by
  have hdies := Build.ok_dies hb
  obtain ⟨hdie, -⟩ : u / 64 < b.dies ∧ u % 64 < b.tiles := by simpa [Build.tile, Build.has] using ht
  omega

/-- ST_TILE lies below the recorder's registers. -/
theorem Fld.key_tile_lt {f : Fld} {u : Nat} (hu : u < 512) (hoff : f.off = 0x13000 + 8 * u) (hlo : f.lo < 64) :
    f.key < 0x16000 * 64 := by
  rw [Fld.key, hoff]
  omega

/-- A row adds nothing to what its change leaves of ST_TILE. -/
theorem State.rd_apply_tile (s : State) (f : Build → List Host.Cell → Gov → Gov) {k : Fld} {u : Nat} (hu : u < 512)
    (hoff : k.off = 0x13000 + 8 * u) (hlo : k.lo < 64) : (s.apply f).gov.rd k = (f s.build s.mem s.gov).rd k := by
  refine s.rd_apply f (Fld.key_ne hlo (by decide) (show k.off ≠ 0x14038 from ?_))
  omega

end Sys2Proof.Machine
end

section
/-! PROOFS. The frames of the rings: the header sent, the header taken at a tile, the frame that returns (R47, R48, R139
to R141, R145). -/

namespace Sys2Proof.Machine

/-! ## A frame goes out -/

/-- The header that the core sends now on the ring of die `d` (R139). -/
def Gov.hdrNow (g : Gov) (b : Build) (d : Nat) : StHdr :=
  { fnum := (g.ring d).fnum
    set := { g.stSet b d with hseq := (g.ring d).hseqOf (g.stSet b d) }
    enm := bits (g.enmask d) ((g.ring d).fnum % 4 * 16) 16
    ofs := g.rd (F.ST_TILE_OFS (64 * d + (g.ring d).fnum % 64)) }

/-- The ring of die `d` with that header on its way. -/
def Gov.ringSent (g : Gov) (b : Build) (d : Nat) : Ring :=
  { g.ring d with
    fnum := ((g.ring d).fnum + 1) % 256
    out := (g.ring d).out ++ [(g.ring d).fnum]
    due := Nat.lor (g.ring d).due (slotBits (g.ring d).fnum)
    sent := (g.hdrNow b d).set
    hdr := some (g.hdrNow b d) }

theorem ringFrameSend_of_untested {b : Build} {d : Nat} {g : Gov} (hl : g.live = true) (hd : d < b.dies)
    (ht : g.ringTest d = false) : ringFrameSend b d g = g.setRing d (g.ringSent b d) := by
  simp only [ringFrameSend, if_pos (⟨hl, hd⟩ : _ ∧ _), ht, Bool.false_eq_true, if_false]
  rfl

theorem ringFrameSend_eq (b : Build) (d : Nat) (g : Gov) :
    ringFrameSend b d g = g ∨ ∃ r, ringFrameSend b d g = g.setRing d r := by
  unfold ringFrameSend
  split
  · dsimp only
    split
    · exact .inr ⟨_, rfl⟩
    · exact .inr ⟨_, rfl⟩
  · exact .inl rfl

/-- What a frame on the ring of die `d` is made of: that ring, and everything but the rings. -/
def Gov.ringView (d : Nat) (g : Gov) : Ring × Gov := (g.ring d, { g with st := { g.st with rings := [] } })

theorem ringView_ringFrameSend_ne (b : Build) {d m : Nat} (g : Gov) (h : m ≠ d) :
    (ringFrameSend b m g).ringView d = g.ringView d := by
  rcases ringFrameSend_eq b m g with he | ⟨r, he⟩
  · rw [he]
  · rw [he, Gov.ringView, g.ring_setRing_ne r h.symm]
    rfl

theorem Gov.ringSent_of_ringView {b : Build} {d : Nat} {u g : Gov} (h : u.ringView d = g.ringView d) :
    u.ringSent b d = g.ringSent b d := by
  have hring : u.ring d = g.ring d := congrArg (·.1) h
  have hset : u.stSet b d = g.stSet b d := congrArg (·.2.stSet b d) h
  have henm : u.enmask d = g.enmask d := congrArg (·.2.enmask d) h
  have hrd : ∀ f, u.rd f = g.rd f := fun f => congrArg (·.2.rd f) h
  simp only [Gov.ringSent, Gov.hdrNow, hring, hset, henm, hrd]

/-- R139: of the frames that go out together, each ring's is the one the core would send on it alone. -/
theorem ring_ringFrames {b : Build} {d : Nat} {g : Gov} (hl : g.live = true) (hd : d < b.dies)
    (ht : g.ringTest d = false) :
    (g.each (List.range b.dies) fun g d => ringFrameSend b d g).ring d = g.ringSent b d := by
  obtain ⟨u, hu, hat⟩ := Gov.each_range_at (get := Gov.ringView d) (step := fun g d => ringFrameSend b d g) hd
    (fun g m h => ringView_ringFrameSend_ne b g h) g
  have hlive : u.live = true := (congrArg (·.2.live) hu).trans hl
  have htest : u.ringTest d = false := (congrArg (·.2.ringTest d) hu).trans ht
  rw [ringFrameSend_of_untested hlive hd htest, Gov.ringSent_of_ringView hu] at hat
  exact (congrArg (·.1) hat).trans (u.ring_setRing_same d _)

/-! ## A header at a tile -/

/-- A change of TCLK_EN at once sets the enable, and the ENMASK bit it follows. -/
theorem Sat.enAtOnce_eq (x : Sat) : ∃ e n, x.enAtOnce = { x with en := e, enBit := n } := by
  unfold Sat.enAtOnce
  split
  · exact ⟨_, _, rfl⟩
  · exact ⟨x.en, x.enBit, rfl⟩

theorem Sat.countStop_eq (x : Sat) (now : Nat) : ∃ n a, x.countStop now = { x with tstop := n, stopAt := a } := by
  unfold Sat.countStop
  split
  · exact ⟨_, _, rfl⟩
  · exact ⟨x.tstop, x.stopAt, rfl⟩

/-- The writing of a report slot reaches the latch, the slot, the interval's droop and the stop count. -/
theorem Sat.upTo_eq (x : Sat) (i now : Nat) : ∃ l v m a n p,
    x.upTo i now = { x with latch := l, slot := v, dmax := m, dall := a, tstop := n, stopAt := p } := by
  have hsame : ∃ l v m a n p, x = { x with latch := l, slot := v, dmax := m, dall := a, tstop := n, stopAt := p } :=
    ⟨x.latch, x.slot, x.dmax, x.dall, x.tstop, x.stopAt, rfl⟩
  unfold Sat.upTo
  split
  · next t _ =>
    split
    · obtain ⟨n, p, h⟩ := x.countStop_eq t
      rw [h]
      exact ⟨_, _, _, _, _, _, rfl⟩
    · exact hsame
  · exact hsame

/-- The satellite of tile `u` once header `h` has passed it, its latch set where the frame holds its slot (R141). -/
def Gov.satPassed (g : Gov) (u : Nat) (h : StHdr) : Sat :=
  if h.fnum % 4 = u % 64 / 16 then { g.satNow u with latch := some (g.gtime + 14 * (u % 64 % 16)) } else g.satNow u

theorem Gov.satPassed_latch (g : Gov) (u : Nat) (h : StHdr) (hf : h.fnum % 4 = u % 64 / 16) :
    (g.satPassed u h).latch = some (g.gtime + 14 * (u % 64 % 16)) := by rw [Gov.satPassed, if_pos hf]

/-- A frame that passes leaves the settings, the enable and the header that waits. -/
theorem Gov.satPassed_keeps (g : Gov) (u : Nat) (h : StHdr) :
    (g.satPassed u h).ringOk = (g.sat u).ringOk ∧ (g.satPassed u h).pend = (g.sat u).pend
      ∧ (g.satPassed u h).set = (g.sat u).set ∧ (g.satPassed u h).ofs = (g.sat u).ofs
      ∧ (g.satPassed u h).level = (g.sat u).level ∧ (g.satPassed u h).en = (g.sat u).en
      ∧ (g.satPassed u h).enBit = (g.sat u).enBit := by
  obtain ⟨l, v, m, a, n, p, hup⟩ := (g.sat u).upTo_eq (u % 64) g.gtime
  rw [Gov.satPassed, Gov.satNow, hup]
  split
  · exact ⟨rfl, rfl, rfl, rfl, rfl, rfl, rfl⟩
  · exact ⟨rfl, rfl, rfl, rfl, rfl, rfl, rfl⟩

/-- The satellite of tile `u` once header `h` has reached it whole, as the word `w`: it waits for an edge (R48). -/
def Gov.satWaiting (g : Gov) (u : Nat) (h : StHdr) (w : Nat) : Sat :=
  { g.satPassed u h with
    ringOk := true
    pend := some (StPend.next (g.satPassed u h).pend w (u % 64) h.set.noRail) }

section Header
variable {b : Build} {u err : Nat} {g : Gov} {h : StHdr} (hl : g.live = true) (ht : b.tile u = true)
  (hs : (g.sat u).supply = true) (hh : (g.ring (u / 64)).hdr = some h)
include hl ht hs hh

/-- R140: a whole header waits at the tile. -/
theorem headerReceive_of_whole (hok : hdrOk (Nat.xor h.word (err % 2 ^ 128)) = true) :
    headerReceive b u err g = g.setSat u (g.satWaiting u h (Nat.xor h.word (err % 2 ^ 128))).enAtOnce := by
  simp only [headerReceive, hh, if_pos (⟨ht, hs, hl⟩ : _ ∧ _ ∧ _), if_pos hok]
  rfl

/-- R140: a header whose CRC fails is discarded. -/
theorem headerReceive_of_spoiled (hok : hdrOk (Nat.xor h.word (err % 2 ^ 128)) = false) :
    headerReceive b u err g = g.setSat u (g.satPassed u h) := by
  simp only [headerReceive, hh, if_pos (⟨ht, hs, hl⟩ : _ ∧ _ ∧ _), hok, Bool.false_eq_true, if_false]
  rfl
end Header

/-! ## A frame returns -/

/-- The ring of die `d` with its oldest frame back, `rest` still out and `run` frames in a row whole. -/
def Gov.ringBack (g : Gov) (d : Nat) (rest : List Nat) (run : Nat) : Gov :=
  g.setRing d { g.ring d with out := rest, okRun := run }

section Return
variable {b : Build} {d f : Nat} {rest : List Nat} {g : Gov} (hl : g.live = true) (hd : d < b.dies)
  (ho : (g.ring d).out = f :: rest)
include hl hd ho

theorem frameReturnCheck_of_whole (hf : f < 256) :
    frameReturnCheck b d true true f g =
      let t := g.ringBack d rest (min 4 ((g.ring d).okRun + 1))
      if 3 ≤ (g.ring d).okRun then t.setBit F.ST_STAT_RING_OK d else t.clrBit F.ST_STAT_RING_OK d := by
  have hrun : min 4 ((g.ring d).okRun + 1) = 4 ↔ 3 ≤ (g.ring d).okRun := by omega
  simp only [frameReturnCheck, if_pos (⟨hl, hd⟩ : _ ∧ _), ho, Nat.mod_eq_of_lt hf, Bool.not_true, Bool.false_eq_true,
    if_false, ne_eq, not_true, if_true, hrun]
  rfl

/-- R145: a frame that is missing, spoiled or out of turn sets RING_ERR and is recorded. -/
theorem frameReturnCheck_of_bad {fnum : Nat} {arrived crcOk : Bool}
    (hbad : (arrived && crcOk && decide (fnum % 256 = f)) = false) :
    ∃ why, frameReturnCheck b d arrived crcOk fnum g
      = (((g.ringBack d rest 0).clrBit F.ST_STAT_RING_OK d).setBit F.ST_STAT_RING_ERR d).ev 0xA002 d why f 0 := by
  have row : ∀ why, why ≠ 0 →
      (if !arrived then 1 else if !crcOk then 2 else if fnum % 256 ≠ f then 3 else 0) = why →
      frameReturnCheck b d arrived crcOk fnum g
        = (((g.ringBack d rest 0).clrBit F.ST_STAT_RING_OK d).setBit F.ST_STAT_RING_ERR d).ev 0xA002 d why f 0 := by
    intro why hne hwhy
    simp only [frameReturnCheck, if_pos (⟨hl, hd⟩ : _ ∧ _), ho, hwhy, if_neg hne]
    rfl
  cases arrived with
  | false => exact ⟨1, row 1 (by decide) rfl⟩
  | true =>
    cases crcOk with
    | false => exact ⟨2, row 2 (by decide) rfl⟩
    | true => exact ⟨3, row 3 (by decide) (if_pos (by simpa using hbad))⟩
end Return

/-- R145: a whole frame counts toward RING_OK, which the fourth in a row sets, and leaves RING_ERR. -/
theorem frameReturnCheck_whole_leaves {b : Build} {d f : Nat} {rest : List Nat} {g : Gov} (hb : b.ok = true)
    (hl : g.live = true) (hd : d < b.dies) (ho : (g.ring d).out = f :: rest) (hf : f < 256) :
    (frameReturnCheck b d true true f g).ring d
        = { g.ring d with out := rest, okRun := min 4 ((g.ring d).okRun + 1) }
      ∧ bit ((frameReturnCheck b d true true f g).rd F.ST_STAT_RING_OK) d = decide (3 ≤ (g.ring d).okRun)
      ∧ (frameReturnCheck b d true true f g).rd F.ST_STAT_RING_ERR = g.rd F.ST_STAT_RING_ERR := by
  have hlen : d < F.ST_STAT_RING_OK.len := Nat.lt_of_lt_of_le hd (Build.ok_dies hb)
  rw [frameReturnCheck_of_whole hl hd ho hf]
  dsimp only
  split
  · next hrun =>
    refine ⟨Gov.ring_setRing_same _ _ _, ?_, Gov.rd_setBit _ _ (by decide)⟩
    rw [Gov.bit_rd_setBit _ _ _ hlen, decide_eq_true hrun, decide_eq_true rfl, Bool.or_true]
  · next hrun =>
    refine ⟨Gov.ring_setRing_same _ _ _, ?_, Gov.rd_clrBit _ _ (by decide)⟩
    rw [Gov.bit_rd_clrBit _ _ _ hlen, decide_eq_false hrun, decide_eq_false (fun h => h rfl), Bool.and_false]

/-- R145: any other clears the count and RING_OK and sets RING_ERR. -/
theorem frameReturnCheck_bad_leaves {b : Build} {d f fnum : Nat} {rest : List Nat} {arrived crcOk : Bool} {g : Gov}
    (hb : b.ok = true) (hl : g.live = true) (hd : d < b.dies) (ho : (g.ring d).out = f :: rest)
    (hbad : (arrived && crcOk && decide (fnum % 256 = f)) = false) :
    (frameReturnCheck b d arrived crcOk fnum g).ring d = { g.ring d with out := rest, okRun := 0 }
      ∧ bit ((frameReturnCheck b d arrived crcOk fnum g).rd F.ST_STAT_RING_OK) d = false
      ∧ bit ((frameReturnCheck b d arrived crcOk fnum g).rd F.ST_STAT_RING_ERR) d = true := by
  have hdies : d < 8 := Nat.lt_of_lt_of_le hd (Build.ok_dies hb)
  obtain ⟨why, hrow⟩ := frameReturnCheck_of_bad hl hd ho hbad
  rw [hrow]
  refine ⟨?_, ?_, ?_⟩
  · rw [Gov.ring, Gov.ev_st]
    exact Gov.ring_setRing_same _ _ _
  · rw [Gov.rd_ev _ _ _ _ _ _ (by decide), Gov.rd_setBit _ _ (by decide), Gov.bit_rd_clrBit _ _ _ hdies,
      decide_eq_false (fun h => h rfl), Bool.and_false]
  · rw [Gov.rd_ev _ _ _ _ _ _ (by decide), Gov.bit_rd_setBit _ _ _ hdies, decide_eq_true rfl, Bool.or_true]

/-- Settles O15: a row leaves the rings, the satellites and ST_STAT as its change does, and the lemmas above say what each
change does. -/
theorem ringFrames : Obligations.RingFrames := by
  unfold Obligations.RingFrames
  refine ⟨fun s d hl hd ht => ?_, fun s u err h hl ht hs hh hok => ?_, fun s u err h hl ht hs hh hok => ?_,
    fun s d f rest hb hl hd ho => ?_, fun s d f fnum rest arrived crcOk hb hl hd ho hbad => ?_⟩
  · have hring := (s.apply_ring (fun b _ g => g.each (List.range b.dies) fun g d => ringFrameSend b d g) d).trans
      (ring_ringFrames hl hd ht)
    exact ⟨_, s.gov.hdrNow s.build d, rfl, congrArg Ring.hdr hring, rfl, rfl, rfl, ⟨_, rfl⟩,
      congrArg Ring.fnum hring, congrArg Ring.out hring, congrArg Ring.due hring⟩
  · obtain ⟨-, -, hset, hofs, hlevel, -, -⟩ := s.gov.satPassed_keeps u h
    have hsat := s.apply_sat (fun b _ g => headerReceive b u err g) u
    obtain ⟨e, n, hen⟩ := (s.gov.satWaiting u h (Nat.xor h.word (err % 2 ^ 128))).enAtOnce_eq
    rw [headerReceive_of_whole hl ht hs hh hok, Gov.sat_setSat_same, hen] at hsat
    exact ⟨_, _, rfl, congrArg Sat.ringOk hsat, congrArg Sat.pend hsat, rfl, fun hg => if_pos hg, fun ho => if_pos ho,
      (congrArg Sat.set hsat).trans hset, (congrArg Sat.ofs hsat).trans hofs, (congrArg Sat.level hsat).trans hlevel,
      fun hf => (congrArg Sat.latch hsat).trans (s.gov.satPassed_latch u h hf)⟩
  · have hsat := s.apply_sat (fun b _ g => headerReceive b u err g) u
    rw [headerReceive_of_spoiled hl ht hs hh hok, Gov.sat_setSat_same] at hsat
    obtain ⟨hring, hpend, hset, hofs, -, hen, hbit⟩ := hsat ▸ s.gov.satPassed_keeps u h
    exact ⟨_, rfl, hring, hpend, hset, hofs, hen, hbit⟩
  · refine ⟨_, rfl, fun hf => ?_⟩
    obtain ⟨hring, hok, herr⟩ := frameReturnCheck_whole_leaves hb hl hd ho hf
    have hrow := (s.apply_ring (fun b _ g => frameReturnCheck b d true true f g) d).trans hring
    exact ⟨congrArg Ring.out hrow, congrArg Ring.okRun hrow,
      (congrArg (bit · d) (s.rd_apply _ (by decide))).trans hok, (s.rd_apply _ (by decide)).trans herr⟩
  · obtain ⟨hring, hok, herr⟩ := frameReturnCheck_bad_leaves hb hl hd ho hbad
    have hrow := (s.apply_ring (fun b _ g => frameReturnCheck b d arrived crcOk fnum g) d).trans hring
    exact ⟨_, rfl, congrArg Ring.out hrow, congrArg Ring.okRun hrow,
      (congrArg (bit · d) (s.rd_apply _ (by decide))).trans hok,
      (congrArg (bit · d) (s.rd_apply _ (by decide))).trans herr⟩

end Sys2Proof.Machine
end
section
/-! PROOFS. The reports of the tiles: the slot a satellite writes, a valid report, a lost one, and NOREP (R141, R142,
R144). -/

namespace Sys2Proof.Machine

/-! ## The report slot -/

/-- R141: a satellite whose latch has come has written the counts of the latch into its slot. -/
theorem Sat.upTo_of_latched {x : Sat} {now l : Nat} (i : Nat) (hx : x.latch = some l) (hl : l ≤ now) :
    (x.upTo i now).slot = some ((x.countStop l).report i) ∧ (x.upTo i now).latch = none := by
  rw [Sat.upTo, hx]
  dsimp only
  rw [if_pos hl]
  exact ⟨rfl, rfl⟩

/-- The slot of tile `u` has come back to the core. -/
def Gov.slotTaken (g : Gov) (u : Nat) : Gov :=
  (g.setRing (u / 64) { g.ring (u / 64) with due := withoutBit (g.ring (u / 64)).due (u % 64) }).setSat u
    { g.satNow u with slot := none }

theorem Gov.due_slotTaken (g : Gov) (u : Nat) : bit ((g.slotTaken u).ring (u / 64)).due (u % 64) = false := by
  have hring : (g.slotTaken u).ring (u / 64)
      = { g.ring (u / 64) with due := withoutBit (g.ring (u / 64)).due (u % 64) } := g.ring_setRing_same _ _
  rw [hring, bit_withoutBit, decide_eq_false (fun h => h rfl), Bool.and_false]

section Received
variable {b : Build} {u hops err : Nat} {g : Gov} (hl : g.live = true) (ht : b.tile u = true)
  (hd : bit (g.ring (u / 64)).due (u % 64) = true)
include hl ht hd

theorem reportReceived_of_valid {v : Nat} (hv : (g.satNow u).slot = some v)
    (hp : parity56 (Nat.xor v (err % 2 ^ 56)) = 0) (hi : bits (Nat.xor v (err % 2 ^ 56)) 0 6 = u % 64) :
    reportReceived b u hops err true g = reportValid u (Nat.xor v (err % 2 ^ 56)) hops (g.slotTaken u) := by
  have hnow : ∀ r, (g.setRing (u / 64) r).satNow u = g.satNow u := fun _ => rfl
  simp only [reportReceived, if_pos (⟨ht, hl, hd⟩ : _ ∧ _ ∧ _), hnow, hv]
  exact if_pos ⟨trivial, hp, hi⟩

theorem reportReceived_of_lost {present : Bool} (h : present = false ∨ (g.satNow u).slot = none
      ∨ ∃ v, (g.satNow u).slot = some v ∧ (parity56 (Nat.xor v (err % 2 ^ 56)) ≠ 0
          ∨ bits (Nat.xor v (err % 2 ^ 56)) 0 6 ≠ u % 64)) :
    reportReceived b u hops err present g = reportLost u (g.slotTaken u) := by
  have hnow : ∀ r, (g.setRing (u / 64) r).satNow u = g.satNow u := fun _ => rfl
  simp only [reportReceived, if_pos (⟨ht, hl, hd⟩ : _ ∧ _ ∧ _), hnow]
  cases hs : (g.satNow u).slot with
  | none => rfl
  | some v =>
    refine if_neg fun ⟨hpres, hp, hi⟩ => ?_
    rcases h with h | h | ⟨w, hw, h⟩
    · exact absurd hpres (by rw [h]; decide)
    · exact absurd (hs.symm.trans h) (Option.some_ne_none v)
    · obtain rfl : v = w := Option.some.inj (hs.symm.trans hw)
      exact h.elim (absurd hp) (absurd hi)
end Received

/-! ## A lost report -/

/-- R142: a lost report is counted in the record and in ERR_CNT[2]. -/
theorem reportLost_leaves (u : Nat) (g : Gov) :
    ((reportLost u g).trec u).lost = ((g.trec u).lost + 1) % 2 ^ 32
      ∧ ((reportLost u g).trec u).lostRun = (g.trec u).lostRun + 1
      ∧ (reportLost u g).rd (F.ERR_CNT_COUNT 2) = (g.rd (F.ERR_CNT_COUNT 2) + 1) % 2 ^ 48 := by
  have hrec : (reportLost u g).trec u = { g.trec u with
      lost := ((g.trec u).lost + 1) % 2 ^ 32
      lostRun := (g.trec u).lostRun + 1
      seq := ((g.trec u).seq + 2) % 2 ^ 32
      wiped := false } := Gov.trec_setTrec_same _ _ _
  refine ⟨congrArg TRec.lost hrec, congrArg TRec.lostRun hrec, ?_⟩
  exact (Gov.rd_wr_same _ _ _).trans (Nat.mod_mod _ _)

/-! ## A valid report -/

/-- From `g` to `t` the rings and every register below the recorder's are as they were, and the record of tile `u` but
for its DROOP events. -/
def Gov.droopStep (u : Nat) (g t : Gov) : Prop :=
  (∀ d, t.ring d = g.ring d) ∧ (∀ f : Fld, f.key < 0x16000 * 64 → t.rd f = g.rd f)
  ∧ ∃ x n c, t.trec u = { g.trec u with droopT := x, droopN := n, droopS := c }

theorem Gov.droopStep_refl (u : Nat) (g : Gov) : g.droopStep u g := ⟨fun _ => rfl, fun _ _ => rfl, _, _, _, rfl⟩

theorem Gov.evt_droopStep (g : Gov) (u : Nat) (e : Evt) : g.droopStep u (g.evt e) := by
  refine ⟨fun d => by rw [Gov.ring, Gov.evt_st, Gov.ring], fun f hf => g.rd_evt e hf, (g.trec u).droopT,
    (g.trec u).droopN, (g.trec u).droopS, ?_⟩
  rw [Gov.trec, Gov.evt_st, ← Gov.trec]

theorem Gov.droopStep_noted {u : Nat} {g t : Gov} (h : g.droopStep u t) (x : Option Nat) (n c : Nat) :
    g.droopStep u (t.setTrec u { t.trec u with droopT := x, droopN := n, droopS := c }) := by
  obtain ⟨hrings, hrd, _, _, _, hrec⟩ := h
  refine ⟨hrings, hrd, x, n, c, ?_⟩
  rw [Gov.trec_setTrec_same, hrec]

/-- R146: a DROOP event, or one held back. -/
theorem droopEvent_droopStep (u d : Nat) (g : Gov) : g.droopStep u (droopEvent u d g) := by
  unfold droopEvent
  extract_lets r due inc
  split
  · exact Gov.droopStep_noted (g.evt_droopStep u _) _ _ _
  · exact Gov.droopStep_noted (g.droopStep_refl u) _ _ _

theorem Gov.droopStep_traceAt {u : Nat} {g t : Gov} (h : g.droopStep u t) (n kind at' : Nat) (capt : Bool)
    (a c d e : Nat) : g.droopStep u (t.traceAt n kind at' capt a c d e) := by
  obtain ⟨hrings, hrd, x, k, m, hrec⟩ := h
  refine ⟨fun d => ?_, fun f hf => (t.rd_traceAt _ _ _ _ _ _ _ _ hf).trans (hrd f hf), x, k, m, ?_⟩
  · rw [Gov.ring, Gov.traceAt_st, ← Gov.ring, hrings]
  · rw [Gov.trec, Gov.traceAt_st, ← Gov.trec, hrec]

/-- GAP and its event, where the report follows 3 or more lost ones (R142, log 97). -/
def Gov.gapNoted (g : Gov) (u : Nat) : Gov :=
  if decide (3 ≤ (g.trec u).lostRun) && (g.trec u).valid then
    (g.wr (F.ST_TILE_GAP u) 1).ev 0xA004 u (g.trec u).lostRun 0 0
  else g

theorem Gov.gapNoted_gtime (g : Gov) (u : Nat) : (g.gapNoted u).gtime = g.gtime := by
  unfold Gov.gapNoted
  split
  · rw [Gov.ev_gtime, Gov.wr_gtime]
  · rfl

theorem Gov.gapNoted_st (g : Gov) (u : Nat) : (g.gapNoted u).st = g.st := by
  unfold Gov.gapNoted
  split
  · rw [Gov.ev_st, Gov.wr_st]
  · rfl

/-- A valid report `w` of tile `u` taken into its record and ST_TILE, before its DROOP event and its trace entry. -/
def Gov.reported (g : Gov) (u w hops : Nat) : Gov :=
  (((((g.gapNoted u).setTrec u ((g.trec u).take w (g.gtime - 4 * hops) (g.gapNoted u).gtime)).wr
    (F.ST_TILE_EN u) (bits w 6 1)).wr (F.ST_TILE_DLVL u) (bits w 7 2)).wr (F.ST_TILE_HACK u) (bits w 9 2)).wr
    (F.ST_TILE_NOREP u) 0

theorem Gov.reported_trec (g : Gov) (u w hops : Nat) :
    (g.reported u w hops).trec u = (g.trec u).take w (g.gtime - 4 * hops) g.gtime := by
  rw [Gov.reported, Gov.trec_wr, Gov.trec_wr, Gov.trec_wr, Gov.trec_wr, Gov.trec_setTrec_same, g.gapNoted_gtime]

theorem Gov.reported_ring (g : Gov) (u w hops d : Nat) : (g.reported u w hops).ring d = g.ring d := by
  rw [Gov.reported, Gov.ring_wr, Gov.ring_wr, Gov.ring_wr, Gov.ring_wr, Gov.ring_setTrec, Gov.ring, g.gapNoted_st,
    Gov.ring]

theorem Gov.rd_reported (g : Gov) (u w hops : Nat) :
    (g.reported u w hops).rd (F.ST_TILE_EN u) = bits w 6 1 ∧ (g.reported u w hops).rd (F.ST_TILE_DLVL u) = bits w 7 2
      ∧ (g.reported u w hops).rd (F.ST_TILE_HACK u) = bits w 9 2
      ∧ (g.reported u w hops).rd (F.ST_TILE_NOREP u) = 0 := by
  have hen : (F.ST_TILE_EN u).lo = 9 := rfl
  have hdlvl : (F.ST_TILE_DLVL u).lo = 10 := rfl
  have hhack : (F.ST_TILE_HACK u).lo = 12 := rfl
  have hnorep : (F.ST_TILE_NOREP u).lo = 14 := rfl
  rw [Gov.reported]
  refine ⟨?_, ?_, ?_, Gov.rd_wr_same _ _ _⟩
  · rw [Gov.rd_wr_of_lo, Gov.rd_wr_of_lo, Gov.rd_wr_of_lo, Gov.rd_wr_same]
    · exact Nat.mod_mod _ _
    all_goals omega
  · rw [Gov.rd_wr_of_lo, Gov.rd_wr_of_lo, Gov.rd_wr_same]
    · exact Nat.mod_mod _ _
    all_goals omega
  · rw [Gov.rd_wr_of_lo, Gov.rd_wr_same]
    · exact Nat.mod_mod _ _
    all_goals omega

/-- A report of droop level `d` noted: the tile counts as deep, and a DROOP event may follow (R146). -/
def Gov.droopNoted (g : Gov) (u d : Nat) : Gov :=
  if 2 ≤ d then
    droopEvent u d { g with
      recr := { g.recr with
        deepTiles := if g.recr.deepTiles.contains u then g.recr.deepTiles else u :: g.recr.deepTiles } }
  else g

/-- The trace entry of a valid report, where TRC_SEL selects the tile or its die. -/
def Gov.reportTraced (g : Gov) (u w cap : Nat) : Gov :=
  let sel := g.rd (F.TRC_SEL_SEL 7)
  let r := g.trec u
  if bits sel 0 9 = u ∨ (bit sel 9 ∧ bits sel 0 9 / 64 = u / 64) then
    g.traceAt 7 11 cap true (u + bits w 7 2 * 2 ^ 9 + bits w 6 1 * 2 ^ 11) (r.tcyc % 2 ^ 32) (r.tstr % 2 ^ 32)
      (r.tstop % 2 ^ 32)
  else g

theorem reportValid_eq (u w hops : Nat) (g : Gov) : reportValid u w hops g
    = ((g.reported u w hops).droopNoted u (bits w 7 2)).reportTraced u w (g.gtime - 4 * hops) := rfl

theorem Gov.droopNoted_droopStep (g : Gov) (u d : Nat) : g.droopStep u (g.droopNoted u d) := by
  unfold Gov.droopNoted
  split
  · exact droopEvent_droopStep u d _
  · exact g.droopStep_refl u

theorem reportValid_droopStep (u w hops : Nat) (g : Gov) :
    (g.reported u w hops).droopStep u (reportValid u w hops g) := by
  have hdroop := (g.reported u w hops).droopNoted_droopStep u (bits w 7 2)
  rw [reportValid_eq, Gov.reportTraced]
  split
  · exact Gov.droopStep_traceAt hdroop _ _ _ _ _ _ _ _
  · exact hdroop

/-- R142: a valid report sets the flags of ST_TILE and clears NOREP. -/
theorem rd_reportValid {u : Nat} (hu : u < 512) (w hops : Nat) (g : Gov) :
    (reportValid u w hops g).rd (F.ST_TILE_EN u) = bits w 6 1
      ∧ (reportValid u w hops g).rd (F.ST_TILE_DLVL u) = bits w 7 2
      ∧ (reportValid u w hops g).rd (F.ST_TILE_HACK u) = bits w 9 2
      ∧ (reportValid u w hops g).rd (F.ST_TILE_NOREP u) = 0 := by
  obtain ⟨-, hrd, -⟩ := reportValid_droopStep u w hops g
  rw [hrd _ (Fld.key_tile_lt hu rfl (show 9 < 64 by decide)), hrd _ (Fld.key_tile_lt hu rfl (show 10 < 64 by decide)),
    hrd _ (Fld.key_tile_lt hu rfl (show 12 < 64 by decide)), hrd _ (Fld.key_tile_lt hu rfl (show 14 < 64 by decide))]
  exact g.rd_reported u w hops

theorem ring_reportValid (u w hops : Nat) (g : Gov) (d : Nat) : (reportValid u w hops g).ring d = g.ring d :=
  ((reportValid_droopStep u w hops g).1 d).trans (g.reported_ring u w hops d)

/-- R142: a valid report is taken into the record, whose DROOP events alone follow it. -/
theorem trec_reportValid (u w hops : Nat) (g : Gov) : ∃ x n c, (reportValid u w hops g).trec u
    = { (g.trec u).take w (g.gtime - 4 * hops) g.gtime with droopT := x, droopN := n, droopS := c } := by
  obtain ⟨-, -, hrec⟩ := reportValid_droopStep u w hops g
  rwa [Gov.reported_trec] at hrec

theorem TRec.take_tcyc {r : TRec} (hr : r.valid = true) (w cap now : Nat) :
    (r.take w cap now).tcyc = (r.tcyc + lowDiff 16 (bits w 12 16) r.lowC) % 2 ^ 48 := by
  simp only [TRec.take, hr, if_true]

/-! ## NOREP -/

/-- R144: the mark sets NOREP and notes when. -/
theorem norepMark_leaves {u : Nat} (hu : u < 512) (g : Gov) :
    (norepMark u g).rd (F.ST_TILE_NOREP u) = 1 ∧ (norepMark u g).gtime = g.gtime
      ∧ ((norepMark u g).trec u).norepAt = g.gtime := by
  refine ⟨?_, Gov.ev_gtime _ _ _ _ _ _, ?_⟩
  · exact (Gov.rd_ev _ _ _ _ _ _ (Fld.key_tile_lt hu rfl (show 14 < 64 by decide))).trans (g.rd_wr_same _ _)
  · rw [norepMark, Gov.trec, Gov.ev_st, ← Gov.trec, Gov.trec_setTrec_same]
    rfl

theorem norepSet_of_silent {b : Build} {u : Nat} {g : Gov} (hl : g.live = true) (ht : b.tile u = true)
    (hn : g.flag (F.ST_TILE_NOREP u) = false) :
    norepSet b u g = norepMark u (g.runTo ((g.trec u).lastRep + 8192)) := if_pos ⟨hl, ht, hn⟩

/-- R144: NOREP of tile `u` has stood for 1 ms, and its service cause is told. -/
def Gov.norepServed (g : Gov) (u : Nat) : Gov :=
  ((g.runTo ((g.trec u).norepAt + 1000000)).setTrec u { g.trec u with norepTold := true }).svc 6

theorem Gov.norepTold_norepServed (g : Gov) (u : Nat) : ((g.norepServed u).trec u).norepTold = true :=
  congrArg TRec.norepTold (Gov.trec_setTrec_same _ _ _)

/-- R144, R420: the service cause, and a record of Deathwatch. -/
theorem norepReport_of_untold {b : Build} {u : Nat} {g : Gov} (hl : g.live = true) (ht : b.tile u = true)
    (hn : g.flag (F.ST_TILE_NOREP u) = true) (htold : (g.trec u).norepTold = false) :
    norepReport b u g = (g.norepServed u).dwRecord 9 u 0 0 0 := by
  have hrow : norepService b u g = g.norepServed u := if_pos ⟨hl, ht, hn, htold⟩
  rw [norepReport, hrow, g.norepTold_norepServed, htold, if_pos (by decide)]

/-- A record of Deathwatch leaves the satellites, GTIME and SVC_CAUSE. -/
theorem Gov.dwRecord_keeps (g : Gov) (cause obj p1 p2 p3 : Nat) :
    (g.dwRecord cause obj p1 p2 p3).st = g.st ∧ (g.dwRecord cause obj p1 p2 p3).gtime = g.gtime
      ∧ (g.dwRecord cause obj p1 p2 p3).rd F.SVC_CAUSE_CAUSE = g.rd F.SVC_CAUSE_CAUSE := by
  refine ⟨Gov.ev_st _ _ _ _ _ _, Gov.ev_gtime _ _ _ _ _ _, ?_⟩
  refine (Gov.rd_count _ _ (by decide)).trans ((Gov.rd_ev _ _ _ _ _ _ (by decide)).trans ?_)
  exact (Gov.rd_wr_ne _ _ (by decide)).trans (Gov.rd_wr_ne _ _ (by decide))

/-- Settles O16: the slot is what the satellite wrote at its latch, and each row leaves the record, the rings and the
registers as its change does; the lemmas above say what each change does. -/
theorem tileReports : Obligations.TileReports := by
  unfold Obligations.TileReports
  refine ⟨fun x i now l hx hl => Sat.upTo_of_latched i hx hl, fun s u hops err v w hb hl ht hd hv hw hp hi => ?_,
    fun s u hops err present hl ht hd hlost => ?_, fun s u hb hl ht hn => ?_, fun s u hl ht hn htold => ?_⟩
  · subst hw
    have hu := Build.tile_lt hb ht
    have hrow := reportReceived_of_valid (hops := hops) hl ht hd hv hp hi
    obtain ⟨x, n, c, hrec⟩ := trec_reportValid u (Nat.xor v (err % 2 ^ 56)) hops (s.gov.slotTaken u)
    obtain ⟨hen, hdlvl, hhack, hnorep⟩ := rd_reportValid hu (Nat.xor v (err % 2 ^ 56)) hops (s.gov.slotTaken u)
    have hring := ring_reportValid u (Nat.xor v (err % 2 ^ 56)) hops (s.gov.slotTaken u) (u / 64)
    rw [← hrow] at hrec hen hdlvl hhack hnorep hring
    have htrec := (s.apply_trec (fun b _ g => reportReceived b u hops err true g) u).trans hrec
    have hdue := congrArg (fun r : Ring => bit r.due (u % 64))
      ((s.apply_ring (fun b _ g => reportReceived b u hops err true g) _).trans hring)
    exact ⟨_, rfl, congrArg TRec.valid htrec, congrArg TRec.lostRun htrec, congrArg TRec.lastRep htrec,
      congrArg TRec.cap htrec, hdue.trans (s.gov.due_slotTaken u),
      fun hvalid => (congrArg TRec.tcyc htrec).trans
        (TRec.take_tcyc hvalid _ (s.gov.gtime - 4 * hops) s.gov.gtime),
      (s.rd_apply_tile _ hu rfl (show 9 < 64 by decide)).trans hen,
      (s.rd_apply_tile _ hu rfl (show 10 < 64 by decide)).trans hdlvl,
      (s.rd_apply_tile _ hu rfl (show 12 < 64 by decide)).trans hhack,
      (s.rd_apply_tile _ hu rfl (show 14 < 64 by decide)).trans hnorep⟩
  · have hrow := reportReceived_of_lost (hops := hops) hl ht hd hlost
    obtain ⟨hcount, hrun, herr⟩ := reportLost_leaves u (s.gov.slotTaken u)
    rw [← hrow] at hcount hrun herr
    have htrec := s.apply_trec (fun b _ g => reportReceived b u hops err present g) u
    exact ⟨_, rfl, (congrArg TRec.lost htrec).trans hcount, (congrArg TRec.lostRun htrec).trans hrun,
      (s.rd_apply _ (by decide)).trans herr⟩
  · have hrow := norepSet_of_silent hl ht hn
    have hu := Build.tile_lt hb ht
    obtain ⟨hset, htime, hat⟩ := norepMark_leaves hu (s.gov.runTo ((s.gov.trec u).lastRep + 8192))
    rw [← hrow] at hset htime hat
    have hgtime := (s.apply_gtime (fun b _ g => norepSet b u g)).trans htime
    exact ⟨_, rfl, (s.rd_apply_tile _ hu rfl (show 14 < 64 by decide)).trans hset, hgtime,
      (congrArg TRec.norepAt (s.apply_trec (fun b _ g => norepSet b u g) u)).trans (hat.trans hgtime.symm)⟩
  · have hrow := norepReport_of_untold hl ht hn htold
    obtain ⟨hst, htime, hcause⟩ := (s.gov.norepServed u).dwRecord_keeps 9 u 0 0 0
    rw [← hrow] at hst htime hcause
    have hbit : bit ((norepReport s.build u s.gov).rd F.SVC_CAUSE_CAUSE) 6 = true := by
      rw [hcause, Gov.norepServed, Gov.svc, Gov.bit_rd_setBit _ _ _ (show 6 < 16 by decide), decide_eq_true rfl,
        Bool.or_true]
    refine ⟨_, rfl, ?_, s.svcCause_apply _ (by decide) hbit, (s.apply_gtime _).trans htime⟩
    rw [s.apply_trec, Gov.trec, hst]
    exact s.gov.norepTold_norepServed u

end Sys2Proof.Machine
end

section
/-! PROOFS. The horizon: the slot boundary, the scan's results, and the deltas of the backlog (R227, R229, R230, R231). -/

namespace Sys2Proof.Machine

/-! ## What a row leaves of the demand engine -/

theorem State.apply_dm (s : State) (f : Build → List Host.Cell → Gov → Gov) :
    (s.apply f).gov.dm = (f s.build s.mem s.gov).dm := by simp [State.apply_gov]

theorem State.apply_lvl (s : State) (f : Build → List Host.Cell → Gov → Gov) (n : Nat) :
    (s.apply f).gov.lvl n = (f s.build s.mem s.gov).lvl n := by rw [Gov.lvl, s.apply_dm, Gov.lvl]

theorem State.apply_ringD (s : State) (f : Build → List Host.Cell → Gov → Gov) (n k : Nat) :
    (s.apply f).gov.ringD n k = (f s.build s.mem s.gov).ringD n k := by rw [Gov.ringD, s.apply_dm, Gov.ringD]

/-! ## A slot begins -/

/-- The level of rail `n` takes its difference of slot `s`. -/
def Gov.takeDiff (s : Nat) (g : Gov) (n : Nat) : Gov :=
  { g with
    dm := { g.dm with
    lvl := mput g.dm.lvl n (wrap24 (g.lvl n + g.ringD n (s % 64))), ring := mput g.dm.ring (n * 64 + s % 64) 0 } }

theorem beginSlot_eq (b : Build) (s : Nat) (g : Gov) :
    beginSlot b s g
      = Gov.each { g with dm := { g.dm with slot := s % 2 ^ 32 } } (List.range b.rails) (Gov.takeDiff s) := rfl

theorem Gov.lvl_takeDiff_same (s : Nat) (g : Gov) (n : Nat) :
    (g.takeDiff s n).lvl n = wrap24 (g.lvl n + g.ringD n (s % 64)) := mget_mput_same _ _ _ _

theorem Gov.ringD_takeDiff_same (s : Nat) (g : Gov) (n : Nat) : (g.takeDiff s n).ringD n (s % 64) = 0 :=
  mget_mput_same _ _ _ _

/-- What the boundary of slot `s` takes of rail `n`: its level and its difference of that slot. -/
def Gov.slotView (s n : Nat) (g : Gov) : Int × Int := (g.lvl n, g.ringD n (s % 64))

theorem Gov.slotView_takeDiff_ne (s : Nat) {n m : Nat} (g : Gov) (h : m ≠ n) :
    (g.takeDiff s m).slotView s n = g.slotView s n := by
  have hkey : n * 64 + s % 64 ≠ m * 64 + s % 64 := by omega
  exact Prod.ext (mget_mput_ne _ _ _ h.symm) (mget_mput_ne _ _ _ hkey)

/-- R227: at the boundary of slot `s` every rail takes its difference of that slot, which is 0 afterwards. -/
theorem beginSlot_rail {b : Build} {n : Nat} (hn : n < b.rails) (s : Nat) (g : Gov) :
    (beginSlot b s g).lvl n = wrap24 (g.lvl n + g.ringD n (s % 64)) ∧ (beginSlot b s g).ringD n (s % 64) = 0 := by
  obtain ⟨u, hu, hat⟩ := Gov.each_range_at (get := Gov.slotView s n) (step := Gov.takeDiff s) hn
    (fun g m h => g.slotView_takeDiff_ne s h) { g with dm := { g.dm with slot := s % 2 ^ 32 } }
  obtain ⟨hlvl, hring⟩ : u.lvl n = g.lvl n ∧ u.ringD n (s % 64) = g.ringD n (s % 64) := Prod.ext_iff.mp hu
  rw [← beginSlot_eq] at hat
  obtain ⟨hl, hd⟩ := Prod.ext_iff.mp hat
  refine ⟨hl.trans ?_, hd.trans (u.ringD_takeDiff_same s n)⟩
  rw [← hlvl, ← hring]
  exact u.lvl_takeDiff_same s n

/-- The boundary of slot `s` moves no time, and makes `s` the slot that stands. -/
theorem beginSlot_keeps (b : Build) (s : Nat) (g : Gov) :
    (beginSlot b s g).gtime = g.gtime ∧ (beginSlot b s g).dm.slot = s % 2 ^ 32 :=
  Prod.ext_iff.mp (foldl_keeps (get := fun g : Gov => (g.gtime, g.dm.slot)) (step := Gov.takeDiff s)
    (fun _ _ => rfl) (List.range b.rails) { g with dm := { g.dm with slot := s % 2 ^ 32 } })

/-- The snapshot of slot `s` is made: the levels and the ring as they stand, without the peaks whose deltas are all
written. -/
def Gov.snap (s : Nat) (g : Gov) : Gov :=
  { g with
    dm := { g.dm with
    snapL := g.dm.lvl, snapD := g.dm.ring, snapSlot := s, snapNew := true,
    pend := g.dm.pend.filter (fun p => p.left != 0) } }

/-- R227, R229: where the slot that stands is the present one or the one before it, the row begins the next slot alone,
and makes its snapshot. -/
theorem slotBoundary_of_next {b : Build} {g : Gov} (hl : g.live = true)
    (ht : g.gtime / 250 = g.dm.slot ∨ g.gtime / 250 = g.dm.slot + 1) :
    slotBoundary b g
      = ((beginSlot b (g.dm.slot + 1) g).runTo (250 * (g.dm.slot + 1))).snap (g.dm.slot + 1) := by
  rw [slotBoundary, if_pos hl]
  rcases ht with ht | ht
  · have hahead : (g.dm.slot + 2 ^ 32 - g.dm.slot) % 2 ^ 32 = 0 := by omega
    simp only [ht, hahead]
    rfl
  · have hahead : (g.dm.slot + 1 + 2 ^ 32 - g.dm.slot) % 2 ^ 32 = 1 := by omega
    simp only [ht, hahead]
    rfl

/-! ## A scan's results -/

/-- The outcome of a scan at rail `n`: what the demand engine holds for it, and the registers that show it. -/
def Gov.scanned (g : Gov) (n : Nat) (h pk z : Sparse Nat) (now nf : Nat) (valid : Bool) : Gov :=
  (((Gov.wr { g with dm := { g.dm with h := h, pk := pk, pkZero := z } } (F.DMD_RSTAT_HNOW n) now).wr
    (F.DMD_RSTAT_NF n) nf).wrB (F.DMD_RSTAT_VALID n) valid).wr (F.RAIL_PSTAT_NF n) nf

/-- What a scan takes and shows of rail `n`: the snapshot's levels, HNOW, VALID and NF. -/
def Gov.scanView (n : Nat) (g : Gov) : Sparse Int × Nat × Bool × Nat :=
  (g.dm.snapL, g.rd (F.DMD_RSTAT_HNOW n), g.flag (F.DMD_RSTAT_VALID n), g.rd (F.DMD_RSTAT_NF n))

theorem Gov.scanView_scanned_same (g : Gov) (n : Nat) (h pk z : Sparse Nat) (now nf : Nat) (valid : Bool) :
    (g.scanned n h pk z now nf valid).scanView n = (g.dm.snapL, now % 2 ^ 16, valid, nf % 2 ^ 5) := by
  have hnow : (g.scanned n h pk z now nf valid).rd (F.DMD_RSTAT_HNOW n) = now % 2 ^ 16 :=
    calc
      _ = _ := Gov.rd_wr_of_lo _ nf (show 32 < 64 by decide) (show 10 < 64 by decide) (show 32 ≠ 10 by decide)
      _ = _ := Gov.rd_wr_of_lo _ (b2n valid) (show 32 < 64 by decide) (show 53 < 64 by decide) (show 32 ≠ 53 by decide)
      _ = _ := Gov.rd_wr_of_lo _ nf (show 32 < 64 by decide) (show 48 < 64 by decide) (show 32 ≠ 48 by decide)
      _ = _ := Gov.rd_wr_same _ _ _
  have hvalid : (g.scanned n h pk z now nf valid).rd (F.DMD_RSTAT_VALID n) = b2n valid % 2 :=
    calc
      _ = _ := Gov.rd_wr_of_lo _ nf (show 53 < 64 by decide) (show 10 < 64 by decide) (show 53 ≠ 10 by decide)
      _ = _ := Gov.rd_wr_same _ _ _
  have hnf : (g.scanned n h pk z now nf valid).rd (F.DMD_RSTAT_NF n) = nf % 2 ^ 5 :=
    calc
      _ = _ := Gov.rd_wr_of_lo _ nf (show 48 < 64 by decide) (show 10 < 64 by decide) (show 48 ≠ 10 by decide)
      _ = _ := Gov.rd_wr_of_lo _ (b2n valid) (show 48 < 64 by decide) (show 53 < 64 by decide) (show 48 ≠ 53 by decide)
      _ = _ := Gov.rd_wr_same _ _ _
  have hflag : (b2n valid % 2 == 1) = valid := by cases valid <;> rfl
  rw [Gov.scanView, Gov.flag, hnow, hvalid, hnf, hflag]
  rfl

/-- What a scan shows of rail `m` is in no register of another rail. -/
theorem Gov.rd_scanned_of_off (g : Gov) (m : Nat) (h pk z : Sparse Nat) (now nf : Nat) (valid : Bool) {f : Fld}
    (hlo : f.lo < 64) (h10 : f.lo ≠ 10) (hoff : f.off ≠ 0xA180 + 8 * m) :
    (g.scanned m h pk z now nf valid).rd f = g.rd f :=
  calc
    _ = _ := Gov.rd_wr_of_lo _ nf hlo (show 10 < 64 by decide) h10
    _ = _ := Gov.rd_wr_ne _ (b2n valid) (Fld.key_ne hlo (show 53 < 64 by decide) hoff)
    _ = _ := Gov.rd_wr_ne _ nf (Fld.key_ne hlo (show 48 < 64 by decide) hoff)
    _ = _ := Gov.rd_wr_ne _ now (Fld.key_ne hlo (show 32 < 64 by decide) hoff)

theorem Gov.scanView_scanned_ne (g : Gov) {n m : Nat} (h pk z : Sparse Nat) (now nf : Nat) (valid : Bool)
    (hm : m ≠ n) : (g.scanned m h pk z now nf valid).scanView n = g.scanView n := by
  have hoff : 0xA180 + 8 * n ≠ 0xA180 + 8 * m := by omega
  have hrd : ∀ f : Fld, f.off = 0xA180 + 8 * n → f.lo < 64 → f.lo ≠ 10 →
      (g.scanned m h pk z now nf valid).rd f = g.rd f :=
    fun f hf hlo h10 => g.rd_scanned_of_off m h pk z now nf valid hlo h10 (hf ▸ hoff)
  rw [Gov.scanView, Gov.flag, hrd _ rfl (show 32 < 64 by decide) (show 32 ≠ 10 by decide),
    hrd _ rfl (show 53 < 64 by decide) (show 53 ≠ 10 by decide),
    hrd _ rfl (show 48 < 64 by decide) (show 48 ≠ 10 by decide)]
  rfl

theorem State.scanView_apply (s : State) (f : Build → List Host.Cell → Gov → Gov) (n : Nat) :
    (s.apply f).gov.scanView n = (f s.build s.mem s.gov).scanView n := by
  have hrd : ∀ k : Fld, k.lo < 64 → k.lo ≠ 0 → (s.apply f).gov.rd k = (f s.build s.mem s.gov).rd k :=
    fun k hlo h0 => s.rd_apply f (Fld.key_ne_of_lo hlo (by decide) h0)
  rw [Gov.scanView, Gov.flag, s.apply_dm, hrd _ (show 32 < 64 by decide) (show 32 ≠ 0 by decide),
    hrd _ (show 53 < 64 by decide) (show 53 ≠ 0 by decide), hrd _ (show 48 < 64 by decide) (show 48 ≠ 0 by decide)]
  rfl

/-- R230: a rail's horizon is valid at a scan under HZ_EN, with the hubs open and a backlog below 2,048. -/
def Gov.scanValid (g : Gov) : Bool :=
  g.rd F.DMD_CTL_HZ_EN == 1 && g.dm.isOpen && decide (g.dm.backlog.length < 2048)

/-- R229: 32 cycles into the slot of the snapshot the scan takes it, before any rail's results stand. -/
def Gov.scanStart (g : Gov) : Gov :=
  { g.runTo (250 * g.dm.snapSlot + 32) with dm := { g.dm with snapNew := false, hSlot := g.dm.snapSlot } }

/-- R229, R230: a scan goes over the rails of its snapshot's slot; at each it shows the level that the snapshot holds,
the validity of all of them, and NF of 31 where the horizon is not valid. -/
theorem scanResult_eq {b : Build} {g : Gov} (hl : g.live = true) (hs : g.dm.snapNew = true) :
    ∃ step : Gov → Nat → Gov,
      scanResult b g = (g.scanStart.each (List.range b.rails) step).markDue
      ∧ ∀ u n, ∃ h pk z nf, (g.scanValid = false → nf = 31)
        ∧ step u n = u.scanned n h pk z (clampH (mget 0 u.dm.snapL n)) nf g.scanValid := by
  refine ⟨_, (if_pos ⟨hl, hs⟩).trans rfl, fun u n => ⟨_, _, _, _, ?_, rfl⟩⟩
  exact fun hv => if_neg (Bool.eq_false_iff.mp hv)

theorem clampH_lt (i : Int) : clampH i < 2 ^ 16 := by
  unfold clampH satU clampI
  split
  · decide
  · split <;> omega

/-- R229, R230: what a scan leaves of its snapshot, of GTIME and of rail `n`. -/
theorem scanResult_leaves {b : Build} {g : Gov} (hl : g.live = true) (hs : g.dm.snapNew = true) :
    (scanResult b g).gtime = max g.gtime (250 * g.dm.snapSlot + 32) ∧ (scanResult b g).dm.snapNew = false
      ∧ (scanResult b g).dm.hSlot = g.dm.snapSlot
      ∧ ∀ n < b.rails, ∃ nf, (g.scanValid = false → nf = 31)
        ∧ (scanResult b g).scanView n = (g.dm.snapL, clampH (mget 0 g.dm.snapL n), g.scanValid, nf % 2 ^ 5) := by
  obtain ⟨step, heq, hstep⟩ := scanResult_eq (b := b) hl hs
  have hkeep : ∀ u m, ((step u m).gtime, (step u m).dm.snapNew, (step u m).dm.hSlot)
      = (u.gtime, u.dm.snapNew, u.dm.hSlot) := by
    intro u m
    obtain ⟨h, pk, z, nf, -, he⟩ := hstep u m
    rw [he]
    rfl
  have hne : ∀ n u m, m ≠ n → (step u m).scanView n = u.scanView n := by
    intro n u m hm
    obtain ⟨h, pk, z, nf, -, he⟩ := hstep u m
    rw [he, u.scanView_scanned_ne h pk z _ nf _ hm]
  rw [heq]
  obtain ⟨htime, hrest⟩ := Prod.ext_iff.mp (foldl_keeps (get := fun u : Gov => (u.gtime, u.dm.snapNew, u.dm.hSlot))
    hkeep (List.range b.rails) g.scanStart)
  obtain ⟨hnew, hslot⟩ := Prod.ext_iff.mp hrest
  refine ⟨htime, hnew, hslot, fun n hn => ?_⟩
  obtain ⟨u, hu, hat⟩ := Gov.each_range_at (get := Gov.scanView n) (step := step) hn (hne n) g.scanStart
  obtain ⟨h, pk, z, nf, hnf, he⟩ := hstep u n
  have hsnap : u.dm.snapL = g.dm.snapL := congrArg Prod.fst hu
  refine ⟨nf, hnf, hat.trans ?_⟩
  rw [he, Gov.scanView_scanned_same, hsnap, Nat.mod_eq_of_lt (clampH_lt _)]

/-! ## A delta is written -/

/-- R227: a delta whose slot lies ahead enters its place of the ring. -/
theorem Gov.applyDelta_ahead {g : Gov} {x : Delta} (h : slotAfter x.slot g.dm.slot = true) :
    (g.applyDelta x).ringD x.rail (x.slot % 64) = wrap24 (g.ringD x.rail (x.slot % 64) + x.v)
      ∧ (g.applyDelta x).dm.lvl = g.dm.lvl := by
  rw [Gov.applyDelta, if_pos h]
  exact ⟨mget_mput_same _ _ _ _, rfl⟩

/-- R227: a delta whose slot has begun enters the level. -/
theorem Gov.applyDelta_begun {g : Gov} {x : Delta} (h : slotAfter x.slot g.dm.slot = false) :
    (g.applyDelta x).lvl x.rail = wrap24 (g.lvl x.rail + x.v) ∧ (g.applyDelta x).dm.ring = g.dm.ring := by
  rw [Gov.applyDelta, if_neg (Bool.eq_false_iff.mp h)]
  exact ⟨mget_mput_same _ _ _ _, rfl⟩

theorem Gov.applyDelta_backlog (g : Gov) (x : Delta) : (g.applyDelta x).dm.backlog = g.dm.backlog := by
  unfold Gov.applyDelta
  split <;> rfl

/-- R231: the row takes the next delta from the backlog and applies it to the ring, the levels and the slot that stand. -/
theorem deltaWrite_eq {g : Gov} {x : Delta} (hl : g.live = true) (hx : nextDelta g.dm.backlog = some x) :
    ∃ u : Gov, deltaWrite g = u.applyDelta x ∧ u.dm.backlog = g.dm.backlog.erase x ∧ u.dm.slot = g.dm.slot
      ∧ u.dm.lvl = g.dm.lvl ∧ u.dm.ring = g.dm.ring := by
  rw [deltaWrite, if_pos hl, hx]
  exact ⟨_, rfl, rfl, rfl, rfl, rfl⟩

/-! ## The rows -/

/-- R227, R229: the row of the slot boundary. -/
theorem State.slotBoundary_next {s : State} (hl : s.gov.live = true) (hs : s.gov.dm.slot + 1 < 2 ^ 32)
    (ht : s.gov.gtime / 250 = s.gov.dm.slot ∨ s.gov.gtime / 250 = s.gov.dm.slot + 1) :
    ∃ t, exec .slotBoundary s = .next t ∧ t.gov.dm.slot = s.gov.dm.slot + 1
      ∧ t.gov.gtime = max s.gov.gtime (250 * (s.gov.dm.slot + 1)) ∧ t.gov.dm.snapNew = true
      ∧ t.gov.dm.snapSlot = s.gov.dm.slot + 1 ∧ t.gov.dm.snapL = t.gov.dm.lvl
      ∧ ∀ n < s.build.rails,
          t.gov.lvl n = wrap24 (s.gov.lvl n + s.gov.ringD n ((s.gov.dm.slot + 1) % 64))
          ∧ t.gov.ringD n ((s.gov.dm.slot + 1) % 64) = 0 := by
  obtain ⟨htime, hslot⟩ := beginSlot_keeps s.build (s.gov.dm.slot + 1) s.gov
  refine ⟨s.apply fun b _ g => slotBoundary b g, rfl, ?_⟩
  simp only [State.apply_dm, State.apply_gtime, State.apply_lvl, State.apply_ringD, slotBoundary_of_next hl ht]
  refine ⟨hslot.trans (Nat.mod_eq_of_lt hs), congrArg (max · _) htime, rfl, rfl, rfl, fun n hn => ?_⟩
  exact beginSlot_rail hn (s.gov.dm.slot + 1) s.gov

/-- R229, R230: the row of the scan's results. -/
theorem State.horizonScanResult_next {s : State} (hl : s.gov.live = true) (hs : s.gov.dm.snapNew = true) :
    ∃ t, exec .horizonScanResult s = .next t ∧ t.gov.dm.snapNew = false ∧ t.gov.dm.hSlot = s.gov.dm.snapSlot
      ∧ t.gov.gtime = max s.gov.gtime (250 * s.gov.dm.snapSlot + 32)
      ∧ ∀ n < s.build.rails, t.gov.rd (F.DMD_RSTAT_HNOW n) = clampH (mget 0 s.gov.dm.snapL n)
          ∧ t.gov.flag (F.DMD_RSTAT_VALID n) = s.gov.scanValid
          ∧ (t.gov.flag (F.DMD_RSTAT_VALID n) = false → t.gov.rd (F.DMD_RSTAT_NF n) = 31) := by
  obtain ⟨htime, hnew, hslot, hrail⟩ := scanResult_leaves (b := s.build) hl hs
  have hdm := s.apply_dm fun b _ g => scanResult b g
  refine ⟨s.apply fun b _ g => scanResult b g, rfl, (congrArg DmState.snapNew hdm).trans hnew,
    (congrArg DmState.hSlot hdm).trans hslot, (s.apply_gtime _).trans htime, fun n hn => ?_⟩
  obtain ⟨nf, hnf, hview⟩ := hrail n hn
  have hrow := (s.scanView_apply (fun b _ g => scanResult b g) n).trans hview
  simp only [Gov.scanView, Prod.mk.injEq] at hrow
  obtain ⟨-, hnow, hvalid, hrnf⟩ := hrow
  exact ⟨hnow, hvalid, fun hf => hrnf.trans (congrArg (· % 2 ^ 5) (hnf (hvalid.symm.trans hf)))⟩

/-- R227, R231: the row of a delta. -/
theorem State.deltaWrite_next {s : State} {x : Delta} (hl : s.gov.live = true)
    (hx : nextDelta s.gov.dm.backlog = some x) :
    ∃ t, exec .deltaWrite s = .next t ∧ t.gov.dm.backlog = s.gov.dm.backlog.erase x
      ∧ (slotAfter x.slot s.gov.dm.slot = true →
          t.gov.ringD x.rail (x.slot % 64) = wrap24 (s.gov.ringD x.rail (x.slot % 64) + x.v)
            ∧ t.gov.dm.lvl = s.gov.dm.lvl)
      ∧ (slotAfter x.slot s.gov.dm.slot = false →
          t.gov.lvl x.rail = wrap24 (s.gov.lvl x.rail + x.v) ∧ t.gov.dm.ring = s.gov.dm.ring) := by
  obtain ⟨u, heq, hback, hslot, hlvl, hring⟩ := deltaWrite_eq hl hx
  have hl' : ∀ n, u.lvl n = s.gov.lvl n := fun n => congrArg (mget 0 · n) hlvl
  have hr' : ∀ n k, u.ringD n k = s.gov.ringD n k := fun n k => congrArg (mget 0 · (n * 64 + k)) hring
  refine ⟨s.apply fun _ _ g => deltaWrite g, rfl, ?_⟩
  simp only [State.apply_dm, State.apply_lvl, State.apply_ringD, heq]
  rw [← hslot, ← hlvl, ← hring, ← hl', ← hr']
  exact ⟨(u.applyDelta_backlog x).trans hback, Gov.applyDelta_ahead, Gov.applyDelta_begun⟩

/-- Settles O22: each row's change of the demand engine, read at one rail; the rows of a boundary and of a scan go over
the rails in turn, and no rail's step reaches what another's reads. -/
theorem demandHorizon : Obligations.DemandHorizon := by
  unfold Obligations.DemandHorizon
  exact ⟨fun _ _ hl hs ht => State.slotBoundary_next hl hs ht, fun _ _ hl hs => State.horizonScanResult_next hl hs,
    fun _ _ hl hx => State.deltaWrite_next hl hx⟩

end Sys2Proof.Machine
end
